-- ==== Sys2Proof/Word.lean ====
section
/-! DEFINITION. The word types of the Weftline 3640 and their plainest arithmetic (spec/00_scope.md, 5.1 to 5.3). -/

namespace Sys2Proof

/-- One word of exchange memory, an edition or a 16-bit counter. -/
abbrev Word := BitVec 16

/-- One byte of a serial frame, or an 8-bit counter of the unit table. -/
abbrev Byte := BitVec 8

/-- Device time: a 32-bit millisecond count (R190). -/
abbrev Time := BitVec 32

/-- One more, for a counter that stops at its largest value (R1). -/
def satInc {w : Nat} (c : BitVec w) : BitVec w :=
  if c = BitVec.allOnes w then c else c + 1

/-- The low word of a 32-bit field. -/
def lowWord (t : BitVec 32) : Word := t.setWidth 16

/-- The high word of a 32-bit field. -/
def highWord (t : BitVec 32) : Word := (t >>> 16).setWidth 16

/-- What an absent word field reads as (R192). -/
def absentWord : Word := 0xFFFF#16

end Sys2Proof
end

