-- ==== Sys2Proof/Syntax.lean ====
section
/-! DEFINITION. The commands of the part: one constructor per row of spec/opcode_table.json, in the table's order. The part is a block, so a "command" is a host access, a request taken from a slot, or an event on a pin, a line or a timer. -/

namespace Sys2Proof

/-- The register bits whose host writes have no effect (R189): READY of CONTROL (the RESET bit written 0 with it), and the three IDENT words. -/
inductive IgnoredRegister where
  | ready
  | ident (offset : Nat)
  deriving DecidableEq, Repr

/-- The commands. A request constructor names the slot that holds the request: its parameters are the slot's words, read at the take (R185). A timer constructor names the link, context, line, lamp or key whose timer expires. `receiveByteError` carries what the line's receiver samples, 16 levels a bit time at the configured rate, true being mark (R117). -/
inductive Instr where
  | powerOnReset
  | softReset
  | initialisationEnd
  | eventsWrite (value : Word)
  | eventEnableWrite (value : Word)
  | attentionWrite (value : Word)
  | registerWriteIgnored (reg : IgnoredRegister) (value : Word)
  | hostWordWrite (addr : Nat) (value : Word)
  | slotPost (slot : Nat)
  | slotWithdraw (slot : Nat)
  | slotHandBack (slot : Nat)
  | latchLowRead (addr : Nat)
  | latchHighRead (addr : Nat)
  | intakeTake
  | setRules (slot : Nat)
  | setExclusion (slot : Nat)
  | place (slot : Nat)
  | setCarrier (slot : Nat)
  | clearCarrier (slot : Nat)
  | lockCarrier (slot : Nat)
  | audit (slot : Nat)
  | setProbe (slot : Nat)
  | scan (slot : Nat)
  | holdScan (slot : Nat)
  | resumeScan (slot : Nat)
  | clearProbeFault (slot : Nat)
  | clearMap (slot : Nat)
  | bindLink (slot : Nat)
  | unbindLink (slot : Nat)
  | setLinkOptions (slot : Nat)
  | resolveLink (slot : Nat)
  | moveLink (slot : Nat)
  | goMove (slot : Nat)
  | setLine (slot : Nat)
  | setTallySources (slot : Nat)
  | setTallyOverride (slot : Nat)
  | setLamp (slot : Nat)
  | lampTest (slot : Nat)
  | setStation (slot : Nat)
  | setKey (slot : Nat)
  | talkKey (slot : Nat)
  | cancelTalk (slot : Nat)
  | setDest (slot : Nat)
  | abort (slot : Nat)
  | candidateTest
  | refreshEnd
  | settleExpiry
  | probePulse (tick : Nat)
  | referenceTimeout
  | sampleWindowEnd
  | requestFrameSent
  | replyFrame (bytes : List Byte)
  | replyWindowEnd
  | pollGapExpiry
  | weakTimerExpiry (link : Nat)
  | lossTimerExpiry (link : Nat)
  | rescueTimerExpiry (link : Nat)
  | holdTimerExpiry (ctx : Nat)
  | confirmTimerExpiry (ctx : Nat)
  | queryTimerExpiry (ctx : Nat)
  | receiveByteError (line : Nat) (samples : List Bool)
  | discardedByte (line : Nat) (byte : Byte)
  | frameError (line : Nat) (byte1 byte2 check : Byte)
  | tallyFrame (line : Nat) (source level : Byte)
  | panelFrame (station key : Byte)
  | staleTimerExpiry (line : Nat)
  | staleClearExpiry (line : Nat)
  | referencePulse
  | refLossTimerExpiry
  | syntheticTimerExpiry
  | pwmPeriodStart
  | fadeStepExpiry (lamp : Nat)
  | blinkTimerExpiry (lamp : Nat)
  | lampTestExpiry
  | hangTimerExpiry (station key : Nat)
  | latchWindowExpiry (station key : Nat)
  | rampTimerExpiry (link : Nat)
  | matrixFrameSent
  | garbledReplyByte (byte : Byte) (framingError : Bool)
  | frameMarkerByte (line : Nat)
  | deviceTimeTick
  | pwmActiveEnd (lamp : Nat)
  deriving DecidableEq, Repr

end Sys2Proof
end

