-- ==== Sys2Proof/Config.lean ====
section
/-! DEFINITION. What the part fixes once: identification, index ranges, fixed times and default settings. The spec leaves no value free, so no constant here is without a body. -/

namespace Sys2Proof.Config

/-- IDENT, vendor code (R193). -/
def vendorCode : Word := 0x0A31#16
/-- IDENT, part code (R193). -/
def partCode : Word := 0x3640#16
/-- IDENT, revision (R193). -/
def revision : Word := 0x0001#16

/-- Words of exchange memory (R181). -/
def memoryWords : Nat := 16384
/-- First word of the request board (R191). -/
def boardBase : Nat := 0x0040
/-- First word after the request board (R191). -/
def boardEnd : Nat := 0x0440

/-- The largest frequency code (5.1). -/
def maxCode : Nat := 12799
/-- The largest half-width (5.1). -/
def maxWidth : Nat := 320
/-- Plan entries (R2). -/
def planEntries : Nat := 48
/-- Waiting host jobs the plan engine admits (R28). -/
def maxHostJobs : Nat := 8
/-- Occupancy bins (R41). -/
def bins : Nat := 1600
/-- The largest value of the probe's pulse and tick counters (R43). -/
def probeCounterMax : Nat := 1048575

/-- The code of MUTE, and what an unwritten crosspoint holds (5.1, R176). -/
def mute : Nat := 127
/-- The largest attenuation that is not MUTE (5.1). -/
def maxAtten : Nat := 126
/-- Places of the matrix line's output queue (R177). -/
def queuePlaces : Nat := 32

/-- The reply window of an attempt, in ms (R62). -/
def replyWindowMs : Nat := 20
/-- A move's query timer, in ms (R103). -/
def queryMs : Nat := 100
/-- The reference loss timer, in ms (R134). -/
def refLossMs : Nat := 50
/-- The synthetic frame timer, in ms (R135). -/
def syntheticMs : Nat := 40
/-- The duck ramp timer, in ms (R175). -/
def rampMs : Nat := 10
/-- The alarm blink timer, in ms (R149). -/
def blinkMs : Nat := 250
/-- The fade step unit, in ms (R146). -/
def fadeUnitMs : Nat := 10

end Sys2Proof.Config
end

