-- ==== Sys2Proof/Machine/State.lean ====
section
/-! DEFINITION. Everything the spec gives the part to hold, as plain data, block by block (spec/00_scope.md, 2), and the state right after a power-on reset. Published words of exchange memory other than the request board's are not stored twice: Machine/Format.lean computes them from the blocks' records. -/

namespace Sys2Proof.Machine

/-! ## Shared data -/

/-- A sparse table in one canonical form: keys strictly rising, no entry equal to what an unlisted key reads as. -/
abbrev Cells (α : Type) := List (Nat × α)

/-- The words of the request board's slots that the host or the part has written (R181): address and word, an unlisted word reading 0. -/
abbrev Memory := Cells Word

/-- A running timer: the device time at which it started and its length in ms. A stopped timer is `none`. -/
structure Timer where
  start : Time
  len : Nat
  deriving DecidableEq, Repr, Inhabited

/-- The tally levels, in order (5.1). -/
inductive Tally where
  | off | iso | preview | program
  deriving DecidableEq, Repr, Inhabited

/-- A link's equipment (R74). -/
inductive LinkKind where
  | camera | mic | iem
  deriving DecidableEq, Repr, Inhabited

/-- The studio a link serves (R74). -/
inductive Studio where
  | a | b
  deriving DecidableEq, Repr, Inhabited

/-- The cause of a failed transaction (R63, R192). -/
inductive Cause where
  | none | refused | garbled | noReply
  deriving DecidableEq, Repr, Inhabited

/-- The result codes of the request board, in the order of the list of chapter 12.4 (R192). -/
inductive Result where
  | ok | clamped | badKind | badField | busy | full | notBound | inUse | locked | conflict | noChannel
  | holdTimeout | unitFailed | partialBind | reverted | adrift | aborted | tooLate | notFound | lineActive
  | faulted | probeFault
  deriving DecidableEq, Repr, Inhabited

/-! ## Exchange memory port, request intake and event register (chapter 12) -/

/-- The state of a work slot (R183). -/
inductive SlotState where
  | free | posted | taken | done
  deriving DecidableEq, Repr, Inhabited

/-- The bits of EVENTS, in their order (R188, R193). -/
inductive Event where
  | board | link | plan | probe | tally | talk | line | ref | matrix
  deriving DecidableEq, Repr, Inhabited

/-- The port, the intake, the event register, CONTROL.READY and device time. -/
structure Board where
  /-- CONTROL.READY (R189). -/
  ready : Bool
  /-- EVENTS (R188). -/
  events : BitVec 9
  /-- EVENT_ENABLE (R188). -/
  enable : BitVec 9
  /-- Word 0 of every slot (R183). -/
  slots : Vector SlotState 32
  /-- Words 1 to 31 of the slots (R182). -/
  body : Memory
  /-- The 32-bit read latch: the address of the field's low word and its high word (R182). -/
  latch : Option (Nat × Word)
  /-- The pending set of the intake, rising (R184). -/
  attention : List Nat
  /-- The stray-attention count (R184). -/
  stray : Word
  /-- The refused-write count (R181). -/
  refused : Word
  /-- Device time (R190). -/
  time : Time
  /-- MODEL'S OWN: the word the last host read of exchange memory returned. -/
  hostData : Word
  deriving DecidableEq, Repr, Inhabited

/-! ## Plan engine (chapters 1 and 2) -/

/-- Status of a plan entry (R2). -/
inductive PlanStatus where
  | free | active | reserved
  deriving DecidableEq, Repr, Inhabited

/-- Kind of a plan entry (R2). -/
inductive CarrierKind where
  | link | foreign
  deriving DecidableEq, Repr, Inhabited

/-- The violation types in the order of R2; `none` while the count is 0. -/
inductive Violation where
  | none | excl | adj | im32 | im33 | im5
  deriving DecidableEq, Repr, Inhabited

/-- Why a candidate fails (R33, R192). -/
inductive Reason where
  | none | band | excl | occupied | adj | im32 | im33 | im5
  deriving DecidableEq, Repr, Inhabited

/-- One entry of the plan table (R2). -/
structure PlanEntry where
  status : PlanStatus
  kind : CarrierKind
  owner : Option Nat
  code : Nat
  width : Nat
  lock : Bool
  mark : Bool
  count : Nat
  worst : Violation
  edition : Word
  deriving DecidableEq, Repr, Inhabited

/-- One place of the exclusion list (R7). -/
structure Exclusion where
  present : Bool
  lo : Nat
  hi : Nat
  edition : Word
  deriving DecidableEq, Repr, Inhabited

/-- The plan rules (chapter 1.3). -/
structure Rules where
  gAdj : Nat
  g3 : Nat
  g5 : Nat
  im5 : Bool
  threshold : Nat
  lockOverride : Bool
  widthMic : Nat
  widthIem : Nat
  widthCamera : Nat
  deriving DecidableEq, Repr, Inhabited

/-- The grid of a channel search (R34): the candidates lo, lo + step, … up to hi. -/
structure Grid where
  lo : Nat
  hi : Nat
  step : Nat
  start : Nat
  limit : Nat
  deriving DecidableEq, Repr, Inhabited

/-- Who raised a plan job, and so who is handed its result (R29). -/
inductive JobSource where
  | place (slot : Nat)
  | setCarrier (slot : Nat) (entry : Option Nat)
  | audit (slot : Nat)
  | bind (slot : Nat) (link : Nat)
  | move (ctx : Nat)
  deriving DecidableEq, Repr, Inhabited

/-- The work of a plan job (chapter 2.3). -/
inductive JobWork where
  | check (code : Nat) (force : Bool)
  | search (grid : Grid)
  | audit
  deriving DecidableEq, Repr, Inhabited

/-- A plan job as it joins the waiting list. `width` 0 stands for the default settled when the job starts; `link` is the link whose origin is left out and gives the width (a move, or a PLACE on behalf of a link). -/
structure Job where
  source : JobSource
  work : JobWork
  kind : CarrierKind
  width : Nat
  linkKind : LinkKind
  link : Option Nat
  clamped : Bool
  deriving DecidableEq, Repr, Inhabited

/-- The plan as a refresh or an AUDIT finds it when it begins (R26, R40). -/
structure PlanSnapshot where
  entries : Vector PlanEntry 48
  exclusions : Vector Exclusion 8
  rules : Rules
  deriving DecidableEq, Repr, Inhabited

/-- What a job wrote at its commit step (R29). -/
structure Commit where
  entry : Nat
  code : Nat
  reason : Option Reason
  deriving DecidableEq, Repr, Inhabited

/-- How far the running job is: testing candidates, in its closing refresh after a commit, or recomputing for an AUDIT. -/
inductive Stage where
  | testing
  | closing (commit : Commit) (snapshot : PlanSnapshot)
  | auditing (snapshot : PlanSnapshot)
  deriving DecidableEq, Repr, Inhabited

/-- The running job: the half-width and left-out entry settled at its start, the next candidate code, and the candidates examined. -/
structure Running where
  job : Job
  width : Nat
  leftOut : Option Nat
  cursor : Nat
  examined : Nat
  aborted : Bool
  stage : Stage
  deriving DecidableEq, Repr, Inhabited

/-- What the plan engine is doing (R27). -/
inductive Work where
  | idle
  | job (running : Running)
  | refresh (snapshot : PlanSnapshot)
  deriving DecidableEq, Repr, Inhabited

/-- The plan engine's state. -/
structure Plan where
  entries : Vector PlanEntry 48
  exclusions : Vector Exclusion 8
  rules : Rules
  refreshPending : Bool
  edition : Word
  /-- The waiting list, head first (R28). -/
  waiting : List Job
  work : Work
  deriving DecidableEq, Repr, Inhabited

/-! ## Occupancy probe (chapter 3) -/

/-- The probe state (R49). -/
inductive ProbeState where
  | idle | calibrating | tuning | sampling | held
  deriving DecidableEq, Repr, Inhabited

/-- The phases of a sweep (R45, R46). -/
inductive PhaseKind where
  | reference | sample
  deriving DecidableEq, Repr, Inhabited

/-- The source of a PROBE_TUNE (R60). -/
inductive ProbeSource where
  | reference | antenna
  deriving DecidableEq, Repr, Inhabited

/-- An open counting window (R43): its phase, and the T_ref and N_ref it was opened with. -/
structure Window where
  phase : PhaseKind
  tref : Nat
  nref : Nat
  deriving DecidableEq, Repr, Inhabited

/-- The calibration record (R44). -/
structure Calibration where
  tref : Nat
  nrefUsed : Nat
  time : Time
  deriving DecidableEq, Repr, Inhabited

/-- The probe's settings, maps, calibration record and sweep record. -/
structure Probe where
  unit : Nat
  settle : Nat
  nref : Nat
  recal : Nat
  cal : Calibration
  /-- Levels by bin; an unlisted bin reads 0 (R41). -/
  levels : Cells Nat
  /-- Own-marks by bin; an unlisted bin is clear (R41). -/
  ownMarks : Cells Bool
  edition : Word
  state : ProbeState
  lo : Nat
  hi : Nat
  cur : Nat
  measured : Nat
  sinceRef : Nat
  hostHold : Bool
  autoHold : Bool
  fault : Bool
  /-- The slot of the sweep, while one exists. -/
  slot : Option Nat
  clamped : Bool
  lastBin : Option Nat
  /-- The phase in progress, or to be begun again when the hold is released (R54). -/
  phase : PhaseKind
  settleTimer : Option Timer
  window : Option Window
  /-- The pulse counter (R43). -/
  pulses : Nat
  /-- The tick counter, as it last showed (R43). -/
  ticks : Nat
  /-- The PROBE_TUNE waiting for the arbiter. -/
  offer : Option (ProbeSource × Nat)
  deriving DecidableEq, Repr, Inhabited

/-! ## Unit bus controller (chapter 4) -/

/-- The state of a unit record (R67). -/
inductive UnitState where
  | unused | unknown | present | missing
  deriving DecidableEq, Repr, Inhabited

/-- The role of a unit (R67). -/
inductive Role where
  | link | probe
  deriving DecidableEq, Repr, Inhabited

/-- One record of the unit table (R67). -/
structure UnitRec where
  state : UnitState
  role : Role
  misses : Byte
  good : Byte
  failed : Byte
  deriving DecidableEq, Repr, Inhabited

/-- The request commands of the unit bus (R60). -/
inductive BusCmd where
  | query
  | tuneLocal (channel code : Nat)
  | tuneFar (channel code : Nat)
  | muteLocal (channel : Nat) (on : Bool)
  | tally (channel : Nat) (level : Tally)
  | probeTune (source : ProbeSource) (code : Nat)
  deriving DecidableEq, Repr, Inhabited

/-- The originators of transactions (R65). -/
inductive Originator where
  | head (link : Nat)
  | ctx (ctx : Nat)
  | link (link : Nat)
  | probe
  | poller
  deriving DecidableEq, Repr, Inhabited

/-- The transaction in flight (R62, R63). `live` is clear when the originator instance has ended (R66); `discarded` marks a PROBE_TUNE discarded by a hold (R54). -/
structure Tx where
  orig : Originator
  unit : Nat
  cmd : BusCmd
  frame : List Byte
  attempt : Nat
  live : Bool
  discarded : Bool
  deriving DecidableEq, Repr, Inhabited

/-- The controller's state (R58). -/
inductive BusState where
  | idle | sending | listening | draining
  deriving DecidableEq, Repr, Inhabited

/-- The poller's condition (R72). -/
inductive PollState where
  | idle | gap | asking
  deriving DecidableEq, Repr, Inhabited

/-- The unit bus controller. -/
structure Bus where
  state : BusState
  inFlight : Option Tx
  /-- The bytes of the reply collected so far (R62). -/
  reply : List Byte
  window : Option Timer
  /-- Unit addresses 1 to 16, at places 0 to 15. -/
  units : Vector UnitRec 16
  pollGap : Nat
  poll : PollState
  cursor : Nat
  gapTimer : Option Timer
  /-- The unit of the poller's waiting QUERY. -/
  pollOffer : Option Nat
  deriving DecidableEq, Repr, Inhabited

/-! ## Link supervisor (chapter 5) -/

/-- The supervision state (R75). -/
inductive LinkState where
  | vacant | bound | live | weak | lost | unitMissing | mistuned | moving | adrift
  deriving DecidableEq, Repr, Inhabited

/-- The options of a link (R76); `rescue` is set for AUTO. -/
structure Options where
  rfThreshold : Nat
  weakTime : Nat
  lossTime : Nat
  rescue : Bool
  rescueTime : Nat
  backoff : Nat
  confirm : Nat
  hold : Nat
  searchLo : Nat
  searchHi : Nat
  deriving DecidableEq, Repr, Inhabited

/-- The outcomes of a move, in the order of R74. -/
inductive Outcome where
  | none | ok | conflict | noChannel | full | holdTimeout | unitFailed | reverted | adrift | aborted
  deriving DecidableEq, Repr, Inhabited

/-- Who started a move (R93). -/
inductive MoveOrigin where
  | host | rescue
  deriving DecidableEq, Repr, Inhabited

/-- The rescue timer of a link (R87, R89). -/
inductive RescueTimer where
  | stopped
  | running (timer : Timer)
  | waiting
  deriving DecidableEq, Repr, Inhabited

/-- One link record (R74), with the link's three timers and its transaction waiting at the arbiter. -/
structure LinkRec where
  state : LinkState
  kind : LinkKind
  studio : Studio
  unit : Nat
  channel : Nat
  output : Option Nat
  originEntry : Nat
  targetEntry : Option Nat
  options : Options
  /-- Tally sources: (line, source) pairs in list order (R128). -/
  sources : List (Nat × Nat)
  applied : Tally
  rfLevel : Nat
  battery : Nat
  tuned : Option Nat
  lock : Bool
  farPresent : Bool
  localMuted : Bool
  lossCount : Word
  lastLoss : Time
  rescueCount : Word
  lastRescue : Option Time
  outcome : Outcome
  moveOrigin : Option MoveOrigin
  mistuned : Bool
  retunedOnAir : Bool
  headPending : Bool
  mutePending : Bool
  edition : Word
  weakTimer : Option Timer
  lossTimer : Option Timer
  rescueTimer : RescueTimer
  /-- A rescue was refused for a locked origin: the link gets none until it leaves WEAK and enters it again (R88). -/
  rescueBarred : Bool
  /-- The link supervisor's transaction waiting for the arbiter: a binding's tune or a resent unmute (R65). -/
  offer : Option BusCmd
  deriving DecidableEq, Repr, Inhabited

/-- How far a binding in progress is (R78, R79). -/
inductive BindStage where
  | seeking | tuneFar | tuneLocal
  deriving DecidableEq, Repr, Inhabited

/-- A binding in progress and what it claims (R77). -/
structure Binding where
  slot : Nat
  link : Nat
  kind : LinkKind
  studio : Studio
  unit : Nat
  channel : Nat
  output : Option Nat
  options : Options
  sources : List (Nat × Nat)
  clamped : Bool
  stage : BindStage
  entry : Nat
  code : Nat
  examined : Nat
  reason : Option Reason
  farCause : Cause
  deriving DecidableEq, Repr, Inhabited

/-- The link supervisor. -/
structure Links where
  recs : Vector LinkRec 32
  bindings : List Binding
  edition : Word
  deriving DecidableEq, Repr, Inhabited

/-! ## Move controller (chapter 6) -/

/-- The phases of a move context (R93). -/
inductive Phase where
  | free | seeking | held | muting | tuneFar | tuneLocal | confirm | revertFar | revertLocal | revertConfirm | unmuting
  deriving DecidableEq, Repr, Inhabited

/-- What a move's plan job looks for (R93). -/
inductive Target where
  | code (code : Nat)
  | auto (step start limit : Nat)
  deriving DecidableEq, Repr, Inhabited

/-- One move context (R93), with its transaction waiting at the arbiter and whether a field of its request was clamped. -/
structure Ctx where
  phase : Phase
  link : Nat
  slot : Option Nat
  origin : MoveOrigin
  target : Target
  targetEntry : Option Nat
  targetCode : Option Nat
  urgent : Bool
  manualGo : Bool
  force : Bool
  override : Bool
  go : Bool
  abort : Bool
  holdTimer : Option Timer
  confirmTimer : Option Timer
  queryTimer : Option Timer
  examined : Nat
  reason : Reason
  outcome : Outcome
  cause : Cause
  edition : Word
  clamped : Bool
  offer : Option BusCmd
  deriving DecidableEq, Repr, Inhabited

/-- The move controller. -/
structure Moves where
  ctxs : Vector Ctx 4
  edition : Word
  deriving DecidableEq, Repr, Inhabited

/-! ## Receive lines (chapter 7) -/

/-- The state of a receive line (R114). -/
inductive LineState where
  | disabled | neverHeard | active | stale
  deriving DecidableEq, Repr, Inhabited

/-- The parity of a receive line (R114). -/
inductive Parity where
  | none | even | odd
  deriving DecidableEq, Repr, Inhabited

/-- The noise filter of a receive line (R114). -/
inductive NoiseFilter where
  | off | short | long
  deriving DecidableEq, Repr, Inhabited

/-- The frame decoder (R119): hunting for a marker, or collecting, with the bytes after the marker. -/
inductive Decoder where
  | hunt
  | collecting (bytes : List Byte)
  deriving DecidableEq, Repr, Inhabited

/-- What a receiver is doing (R116 to R118): waiting for one bit time of mark, with the samples of it seen so far; ready for a start bit; or receiving a character, with the samples that pass before the next read at the middle of a bit and the bits read so far, the start bit first. -/
inductive RxPhase where
  | waiting (marks : Nat)
  | idle
  | receiving (wait : Nat) (bits : List Bool)
  deriving DecidableEq, Repr, Inhabited

/-- A line's asynchronous receiver (R117, R118): the level behind the noise filter (true is mark), the successive samples that differ from it, the samples that the line has been held at space (counted to one above the length of a byte), and what the receiver is doing. -/
structure Receiver where
  level : Bool
  run : Nat
  spaces : Nat
  phase : RxPhase
  deriving DecidableEq, Repr, Inhabited

/-- One line record (R114) with its two timers and its receiver; `rate` is 0 to 4 for 9,600 to 115,200 bit/s. -/
structure Line where
  state : LineState
  enable : Bool
  rate : Nat
  parity : Parity
  stopBits : Nat
  filter : NoiseFilter
  staleTime : Nat
  staleClear : Nat
  held : Bool
  decoder : Decoder
  good : Word
  parityErrors : Word
  framingErrors : Word
  frameErrors : Word
  discarded : Word
  lastGood : Time
  edition : Word
  staleTimer : Option Timer
  clearTimer : Option Timer
  rx : Receiver
  deriving DecidableEq, Repr, Inhabited

/-- The receive lines block. -/
structure Lines where
  recs : Vector Line 3
  edition : Word
  deriving DecidableEq, Repr, Inhabited

/-! ## Tally resolver and reference monitor (chapter 8) -/

/-- The override of a link (R128). -/
inductive Override where
  | none | forceOff | forceIso | forcePreview | forceProgram
  deriving DecidableEq, Repr, Inhabited

/-- The head-tally state (R138). -/
inductive Head where
  | idle | waiting | sending | deferred
  deriving DecidableEq, Repr, Inhabited

/-- What the resolver holds for a link beside its link record (R128). -/
structure LinkTally where
  override : Override
  pending : Tally
  head : Head
  deriving DecidableEq, Repr, Inhabited

/-- The tally resolver: the source entries of table t, source s stand at place 64 t + s - 1 (R125). -/
structure Resolver where
  sources : Vector Tally 128
  links : Vector LinkTally 32
  edition : Word
  deriving DecidableEq, Repr, Inhabited

/-- The reference monitor (R133). -/
structure RefMonitor where
  locked : Bool
  frames : BitVec 32
  lossTimer : Option Timer
  synthTimer : Option Timer
  deriving DecidableEq, Repr, Inhabited

/-! ## Lamp driver (chapter 9) -/

/-- The mode of a lamp (R141). -/
inductive LampMode where
  | off | link | fixed
  deriving DecidableEq, Repr, Inhabited

/-- The lamp state (R141). -/
inductive LampState where
  | off | steady | fading | blinking | test
  deriving DecidableEq, Repr, Inhabited

/-- A fade: its start duty, its target and the steps taken (R146). -/
structure Fade where
  d0 : Nat
  dt : Nat
  k : Nat
  deriving DecidableEq, Repr, Inhabited

/-- One lamp record (R141), its fade and blink, and what its output took over at the last period start (R142). -/
structure Lamp where
  mode : LampMode
  link : Nat
  dutyOff : Nat
  dutyIso : Nat
  dutyPreview : Nat
  dutyProgram : Nat
  fixed : Nat
  fadeN : Nat
  alarm : Bool
  inverted : Bool
  state : LampState
  target : Nat
  duty : Nat
  edition : Word
  fade : Fade
  fadeTimer : Option Timer
  /-- The blink is in its on phase (R149). -/
  blinkOn : Bool
  blinkTimer : Option Timer
  outOff : Bool
  outDuty : Nat
  outInverted : Bool
  /-- The level of the output pin: true is high. -/
  pin : Bool
  deriving DecidableEq, Repr, Inhabited

/-- The lamp driver; a test is in progress while its timer runs (R150). -/
structure Lamps where
  recs : Vector Lamp 24
  testTimer : Option Timer
  edition : Word
  deriving DecidableEq, Repr, Inhabited

/-! ## Talkback controller and duck ramp (chapters 10 and 11) -/

/-- The mode of a key (R154). -/
inductive KeyMode where
  | none | momentary | latching | auto
  deriving DecidableEq, Repr, Inhabited

/-- The activity of a key (R154). -/
inductive Activity where
  | idle | pressed | hanging | latched
  deriving DecidableEq, Repr, Inhabited

/-- The summary of a key, worst to best (R154). -/
inductive Summary where
  | idle | denied | queued | held | talking
  deriving DecidableEq, Repr, Inhabited

/-- One key record (R154); `target` is a link 0 to 31 or a group 32 to 37 (R195). -/
structure Key where
  mode : KeyMode
  target : Nat
  atten : Nat
  hang : Nat
  activity : Activity
  summary : Summary
  talking : Nat
  held : Nat
  queued : Nat
  denied : Nat
  /-- The destination set, rising (R154). -/
  dests : List Nat
  /-- The destinations at which the key is denied (R163). -/
  deniedAt : List Nat
  hangTimer : Option Timer
  windowTimer : Option Timer
  deriving DecidableEq, Repr, Inhabited

/-- A request at a destination (R161): a waiter, or what a talker keeps of it. `order` is the order of the key's activation. -/
structure Waiter where
  station : Nat
  key : Nat
  priority : Nat
  atten : Nat
  order : Nat
  deriving DecidableEq, Repr, Inhabited

/-- A talker in a slot (R162); `talking` is clear while it is HELD. -/
structure Talker where
  req : Waiter
  talking : Bool
  deriving DecidableEq, Repr, Inhabited

/-- One destination record: the talkback part (R162) and the programme part (R170). -/
structure Dest where
  slots : Vector (Option Talker) 4
  /-- The occupied slots, granted earliest first. -/
  grant : List Nat
  /-- The wait list, in wait order. -/
  waiters : List Waiter
  base : Nat
  offAir : Nat
  onAir : Nat
  rate : Nat
  current : Nat
  target : Nat
  talking : Bool
  rampTimer : Option Timer
  edition : Word
  deriving DecidableEq, Repr, Inhabited

/-- The talkback controller and the duck ramp: they share the destination records and the talk region edition. -/
structure Talk where
  /-- Station priorities (R153). -/
  stations : Vector Nat 16
  latchWindow : Nat
  /-- Key k of station s at place 12 s + k. -/
  keys : Vector Key 192
  dests : Vector Dest 32
  edition : Word
  /-- Activations so far: the order the next activation carries (R161). -/
  activations : Nat
  deriving DecidableEq, Repr, Inhabited

/-! ## Matrix line (chapter 11) -/

/-- What the sender is sending (R179, R180). -/
inductive Sender where
  | idle
  | clearAll
  | setPoint (point value : Nat)
  deriving DecidableEq, Repr, Inhabited

/-- The matrix line. Point (output o, input i) is number 18 o + i. -/
structure Matrix where
  /-- The crosspoint image; an unlisted point is MUTE (R176). -/
  image : Cells Nat
  /-- The value in the last frame begun for each point, MUTE from the reset's CLEAR_ALL (R177). -/
  begun : Cells Nat
  /-- The output queue, head first: point and value. -/
  queue : List (Nat × Nat)
  /-- The points carrying a spill mark, rising. -/
  marks : List Nat
  spills : Word
  sender : Sender
  deriving DecidableEq, Repr, Inhabited

/-! ## The whole state -/

/-- The part. `pending` is the model's queue of commands waiting to be taken. -/
structure State where
  board : Board
  plan : Plan
  probe : Probe
  bus : Bus
  links : Links
  moves : Moves
  lines : Lines
  tally : Resolver
  ref : RefMonitor
  lamps : Lamps
  talk : Talk
  matrix : Matrix
  pending : List Instr
  deriving DecidableEq, Repr, Inhabited

/-- Why a command cannot be taken. Every constructor is safe: it stops a command that the part cannot be given. -/
inductive Fault where
  /-- Raised by a host access outside the 16,384 words of exchange memory (R181). Safe: the spec gives no such word. -/
  | noSuchWord (addr : Nat)
  /-- Raised by a register write that names no register with ignored writes (R189, R193). Safe: the command is ill-formed. -/
  | noSuchRegister
  /-- Raised by a command that names a slot above 31 (5.2). Safe: the command is ill-formed. -/
  | noSuchSlot (slot : Nat)
  /-- Raised by a timer command that names a link above 31 (5.2). Safe: the command is ill-formed. -/
  | noSuchLink (link : Nat)
  /-- Raised by a timer command that names a move context above 3 (5.2). Safe: the command is ill-formed. -/
  | noSuchContext (ctx : Nat)
  /-- Raised by a receive-line command that names a line the event cannot occur on (5.2). Safe: the command is ill-formed. -/
  | noSuchLine (line : Nat)
  /-- Raised by a lamp command that names a lamp above 23 (5.2). Safe: the command is ill-formed. -/
  | noSuchLamp (lamp : Nat)
  /-- Raised by a key timer command that names a station above 15 or a key above 11 (5.2). Safe: the command is ill-formed. -/
  | noSuchKey (station key : Nat)
  deriving DecidableEq, Repr

/-- Why the model has no meaning for a command. -/
inductive Refusal where
  /-- Raised by an arm of exec whose command has no meaning yet; no arm raises it. Safe. -/
  | notModelled (mnemonic : String)
  deriving DecidableEq, Repr

/-! ## Reset values -/

/-- A FREE plan entry (R2, R6). -/
def PlanEntry.free : PlanEntry :=
  { status := .free, kind := .link, owner := none, code := 0, width := 0, lock := false, mark := false, count := 0, worst := .none, edition := 0 }

/-- An absent exclusion place (R7). -/
def Exclusion.absent : Exclusion := { present := false, lo := 0, hi := 0, edition := 0 }

/-- The default plan rules (chapter 1.3). -/
def Rules.reset : Rules :=
  { gAdj := 8, g3 := 4, g5 := 2, im5 := false, threshold := 96, lockOverride := false, widthMic := 4, widthIem := 6, widthCamera := 160 }

/-- The plan after a reset (R6). -/
def Plan.reset : Plan :=
  { entries := Vector.replicate 48 PlanEntry.free, exclusions := Vector.replicate 8 Exclusion.absent, rules := Rules.reset,
    refreshPending := false, edition := 0, waiting := [], work := .idle }

/-- The probe after a power-on reset (R41, R42, R44, R49, R56). DESIGN CHOICE (log entry 7): the pulse and tick counters of R43, to which the spec gives no reset value, read 0. -/
def Probe.reset : Probe :=
  { unit := 0, settle := 2, nref := 4096, recal := 64, cal := { tref := 0, nrefUsed := 0, time := 0 }, levels := [], ownMarks := [],
    edition := 0, state := .idle, lo := 0, hi := 0, cur := 0, measured := 0, sinceRef := 0, hostHold := false, autoHold := false,
    fault := false, slot := none, clamped := false, lastBin := none, phase := .reference, settleTimer := none, window := none,
    pulses := 0, ticks := 0, offer := none }

/-- An UNUSED unit record (R67). -/
def UnitRec.unused : UnitRec := { state := .unused, role := .link, misses := 0, good := 0, failed := 0 }

/-- The unit bus controller after a reset (R58, R67, R72, R73). -/
def Bus.reset : Bus :=
  { state := .idle, inFlight := none, reply := [], window := none, units := Vector.replicate 16 UnitRec.unused, pollGap := 10,
    poll := .idle, cursor := 16, gapTimer := none, pollOffer := none }

/-- The default options of a link (R76). -/
def Options.default : Options :=
  { rfThreshold := 60, weakTime := 500, lossTime := 300, rescue := false, rescueTime := 5000, backoff := 60000, confirm := 2000,
    hold := 600000, searchLo := 0, searchHi := 12799 }

/-- The options of a VACANT record: every field 0 (R74). -/
def Options.vacant : Options :=
  { rfThreshold := 0, weakTime := 0, lossTime := 0, rescue := false, rescueTime := 0, backoff := 0, confirm := 0, hold := 0, searchLo := 0, searchHi := 0 }

/-- A VACANT link record (R74). -/
def LinkRec.vacant : LinkRec :=
  { state := .vacant, kind := .camera, studio := .a, unit := 0, channel := 0, output := none, originEntry := 0, targetEntry := none,
    options := Options.vacant, sources := [], applied := .off, rfLevel := 0, battery := 255, tuned := none, lock := false,
    farPresent := false, localMuted := false, lossCount := 0, lastLoss := 0, rescueCount := 0, lastRescue := none, outcome := .none,
    moveOrigin := none, mistuned := false, retunedOnAir := false, headPending := false, mutePending := false, edition := 0,
    weakTimer := none, lossTimer := none, rescueTimer := .stopped, rescueBarred := false, offer := none }

/-- The link supervisor after a reset (R74, R78). -/
def Links.reset : Links := { recs := Vector.replicate 32 LinkRec.vacant, bindings := [], edition := 0 }

/-- A FREE move context (R93). -/
def Ctx.free : Ctx :=
  { phase := .free, link := 0, slot := none, origin := .host, target := .code 0, targetEntry := none, targetCode := none, urgent := false,
    manualGo := false, force := false, override := false, go := false, abort := false, holdTimer := none, confirmTimer := none,
    queryTimer := none, examined := 0, reason := .none, outcome := .none, cause := .none, edition := 0, clamped := false, offer := none }

/-- The move controller after a reset (R93). -/
def Moves.reset : Moves := { ctxs := Vector.replicate 4 Ctx.free, edition := 0 }

/-- A receiver that has seen nothing of its line: after a reset, while the line is disabled and as it is enabled, it takes no start bit before one bit time of mark (R114, R116). DESIGN CHOICE: the filtered level starts at space. -/
def Receiver.off : Receiver := { level := false, run := 0, spaces := 0, phase := .waiting 0 }

/-- A receiver that has the line at mark and may take a start bit (R117). -/
def Receiver.ready : Receiver := { level := true, run := 0, spaces := 0, phase := .idle }

/-- A line record after a reset (R114). -/
def Line.reset : Line :=
  { state := .disabled, enable := false, rate := 2, parity := .none, stopBits := 1, filter := .short, staleTime := 1000, staleClear := 10000,
    held := false, decoder := .hunt, good := 0, parityErrors := 0, framingErrors := 0, frameErrors := 0, discarded := 0, lastGood := 0,
    edition := 0, staleTimer := none, clearTimer := none, rx := Receiver.off }

/-- The receive lines after a reset (R114). -/
def Lines.reset : Lines := { recs := Vector.replicate 3 Line.reset, edition := 0 }

/-- What the resolver holds for a VACANT link (R128). -/
def LinkTally.vacant : LinkTally := { override := .none, pending := .off, head := .idle }

/-- The tally resolver after a reset (R125, R128). -/
def Resolver.reset : Resolver :=
  { sources := Vector.replicate 128 Tally.off, links := Vector.replicate 32 LinkTally.vacant, edition := 0 }

/-- The reference monitor after a reset, before its synthetic timer starts (R133, R190). -/
def RefMonitor.reset : RefMonitor := { locked := false, frames := 0, lossTimer := none, synthTimer := none }

/-- A lamp record after a reset, its output at the inactive level of polarity NORMAL (R141). -/
def Lamp.reset : Lamp :=
  { mode := .off, link := 0, dutyOff := 0, dutyIso := 0, dutyPreview := 0, dutyProgram := 0, fixed := 0, fadeN := 0, alarm := false,
    inverted := false, state := .off, target := 0, duty := 0, edition := 0, fade := { d0 := 0, dt := 0, k := 0 }, fadeTimer := none,
    blinkOn := false, blinkTimer := none, outOff := true, outDuty := 0, outInverted := false, pin := false }

/-- The lamp driver after a reset (R141). -/
def Lamps.reset : Lamps := { recs := Vector.replicate 24 Lamp.reset, testTimer := none, edition := 0 }

/-- An unconfigured key (R154). -/
def Key.reset : Key :=
  { mode := .none, target := 0, atten := 0, hang := 0, activity := .idle, summary := .idle, talking := 0, held := 0, queued := 0, denied := 0,
    dests := [], deniedAt := [], hangTimer := none, windowTimer := none }

/-- The destination record of a VACANT link (R162, R170). -/
def Dest.vacant : Dest :=
  { slots := Vector.replicate 4 none, grant := [], waiters := [], base := 0, offAir := 24, onAir := 12, rate := 4, current := 127, target := 127,
    talking := false, rampTimer := none, edition := 0 }

/-- The talkback controller and duck ramp after a reset (R153, R154, R162, R170). -/
def Talk.reset : Talk :=
  { stations := Vector.replicate 16 0, latchWindow := 400, keys := Vector.replicate 192 Key.reset, dests := Vector.replicate 32 Dest.vacant,
    edition := 0, activations := 0 }

/-- The matrix line after a reset: every point MUTE, the line at mark (R176, R177, R180). -/
def Matrix.reset : Matrix := { image := [], begun := [], queue := [], marks := [], spills := 0, sender := .idle }

/-- The port, the intake and the registers after a reset, initialisation begun (R184, R188, R189, R190). -/
def Board.reset : Board :=
  { ready := false, events := 0, enable := 0, slots := Vector.replicate 32 SlotState.free, body := [], latch := none, attention := [],
    stray := 0, refused := 0, time := 0, hostData := 0 }

/-- The part right after a power-on reset: every block holds its reset values and initialisation has begun, CONTROL.READY reading 0 (R189). -/
def State.reset : State :=
  { board := Board.reset, plan := Plan.reset, probe := Probe.reset, bus := Bus.reset, links := Links.reset, moves := Moves.reset,
    lines := Lines.reset, tally := Resolver.reset, ref := RefMonitor.reset, lamps := Lamps.reset, talk := Talk.reset,
    matrix := Matrix.reset, pending := [] }

end Sys2Proof.Machine
end

