-- ==== Sys2Proof/Machine/Ops.lean ====
section
/-! DEFINITION. The named operations every block shares: fixed tables, sparse tables in canonical form, timers, the slots of the request board and the completion of a request. -/

namespace Sys2Proof.Machine

/-! ## Fixed tables -/

/-- The record at place i of a table. -/
def look {α : Type} {n : Nat} [Inhabited α] (v : Vector α n) (i : Nat) : α := v[i]?.getD default

/-- The table with record a at place i. -/
def put {α : Type} {n : Nat} (v : Vector α n) (i : Nat) (a : α) : Vector α n := v.setIfInBounds i a

/-- The table with f applied to the record at place i. -/
def adjust {α : Type} {n : Nat} [Inhabited α] (v : Vector α n) (i : Nat) (f : α → α) : Vector α n := put v i (f (look v i))

/-- The table with f applied to every record, f being given the record's place. -/
def mapTable {α β : Type} {n : Nat} (f : Nat → α → β) (v : Vector α n) : Vector β n := ⟨⟨v.toList.mapIdx f⟩, by simp⟩

/-- The places below n at which p holds, rising. -/
def placesWhere (n : Nat) (p : Nat → Bool) : List Nat := (List.range n).filter p

/-- f applied for each place below n in rising order. -/
def forPlaces {σ : Type} (n : Nat) (f : Nat → σ → σ) (s : σ) : σ := (List.range n).foldl (fun s i => f i s) s

/-! ## Sparse tables -/

/-- What key k holds, d for an unlisted key. -/
def Cells.get {α : Type} (d : α) : Cells α → Nat → α
  | [], _ => d
  | (a, v) :: m, k => if a = k then v else Cells.get d m k

/-- The table with value v put before the keys above k, any value at k replaced. -/
def Cells.insert {α : Type} : Cells α → Nat → α → Cells α
  | [], k, v => [(k, v)]
  | (a, w) :: m, k, v =>
    if k < a then (k, v) :: (a, w) :: m else if a = k then (k, v) :: m else (a, w) :: Cells.insert m k v

/-- The table without key k. -/
def Cells.erase {α : Type} : Cells α → Nat → Cells α
  | [], _ => []
  | (a, w) :: m, k => if a = k then m else (a, w) :: Cells.erase m k

/-- The table after v is written at k: writing what an unlisted key reads as removes the entry. -/
def Cells.put {α : Type} [DecidableEq α] (d : α) (m : Cells α) (k : Nat) (v : α) : Cells α :=
  if v = d then Cells.erase m k else Cells.insert m k v

/-- The canonical form: keys above `lower` (when given) and strictly rising, no entry equal to d. -/
def Cells.wfFrom {α : Type} [DecidableEq α] (d : α) : Option Nat → Cells α → Bool
  | _, [] => true
  | lower, (a, v) :: m =>
    (match lower with
      | none => true
      | some b => decide (b < a)) && decide (v ≠ d) && Cells.wfFrom d (some a) m

/-- The canonical form of a sparse table. -/
def Cells.wf {α : Type} [DecidableEq α] (d : α) (m : Cells α) : Bool := Cells.wfFrom d none m

/-- What a word of the request board holds that nothing has written since the reset (R189). -/
def Memory.unlisted : Word := 0#16

/-- The word at an address of the request board's bodies. -/
def Memory.read (m : Memory) (a : Nat) : Word := Cells.get Memory.unlisted m a

/-- The bodies after a word is written. -/
def Memory.write (m : Memory) (a : Nat) (v : Word) : Memory := Cells.put Memory.unlisted m a v

/-- The canonical form of the request board's bodies. -/
def Memory.wf (m : Memory) : Bool := Cells.wf Memory.unlisted m

/-! ## Timers (5.1, R76, R190) -/

/-- The device time now. -/
def State.now (s : State) : Time := s.board.time

/-- A timer of len ms started now. -/
def State.timer (s : State) (len : Nat) : Option Timer := some { start := s.now, len := len }

/-- The device time at which a timer expires. -/
def Timer.expiry (t : Timer) : Time := t.start + BitVec.ofNat 32 t.len

/-- The ms from one device time to another, taken modulo 2^32 (R76). -/
def elapsed (since now : Time) : Nat := (now - since).toNat

/-- The timer runs and its length has passed, so that its expiry can be taken. -/
def timerDue (t : Option Timer) (now : Time) : Bool :=
  match t with
  | none => false
  | some t => decide (t.len ≤ elapsed t.start now)

/-- A timer started if it is not running (R83, R175). -/
def timerKeep (t fresh : Option Timer) : Option Timer := if t.isSome then t else fresh

/-! ## Slots (R181, R183, R185, R186, R191) -/

/-- The address of word w of slot n. -/
def slotAddr (n w : Nat) : Nat := Config.boardBase + 32 * n + w

/-- The state of slot n. -/
def State.slot (s : State) (n : Nat) : SlotState := look s.board.slots n

/-- Word w of slot n, w at least 1. -/
def State.slotWord (s : State) (n w : Nat) : Word := s.board.body.read (slotAddr n w)

/-- Word w of slot n as a number. -/
def State.param (s : State) (n w : Nat) : Nat := (s.slotWord n w).toNat

/-- The 32-bit field at words w and w + 1 of slot n, low word first (R192). -/
def State.param32 (s : State) (n w : Nat) : Nat := s.param n w + 65536 * s.param n (w + 1)

/-- Slot n put into a state. -/
def State.setSlot (s : State) (n : Nat) (t : SlotState) : State :=
  { s with board := { s.board with slots := put s.board.slots n t } }

/-- Word w of slot n written by the part. -/
def State.setSlotWord (s : State) (n w : Nat) (v : Word) : State :=
  { s with board := { s.board with body := s.board.body.write (slotAddr n w) v } }

/-- A result word that holds a number. -/
def resultNat (n : Nat) : Word := BitVec.ofNat 16 n

/-- A result word that may be absent (R186, R192). -/
def resultOpt (n : Option Nat) : Word :=
  match n with
  | none => absentWord
  | some n => BitVec.ofNat 16 n

/-- A bit as a word. -/
def resultBool (b : Bool) : Word := if b then 1#16 else 0#16

/-- The two words of a 32-bit result from word w on, low word first. -/
def result32 (w : Nat) (t : BitVec 32) : List (Nat × Word) := [(w, lowWord t), (w + 1, highWord t)]

/-- OK, or CLAMPED where a value was clamped (R28, R76). -/
def okOrClamped (clamped : Bool) : Result := if clamped then .clamped else .ok

/-! ## Frames (R59, R119, R179) -/

/-- The exclusive OR of the bytes. -/
def xorBytes (bs : List Byte) : Byte := bs.foldl (· ^^^ ·) 0

/-- The bits of a byte, the least significant first. -/
def bitsOf (b : Byte) : List Bool := (List.range 8).map b.getLsbD

/-- The ten bits of a byte as the part sends it on the unit bus and the matrix line, true being mark: one start bit at space, 8 data bits with the least significant first, no parity, one stop bit at mark (R58, R179). -/
def sentBits (b : Byte) : List Bool := false :: (bitsOf b ++ [true])

/-- The bits of a frame on the line, byte after byte (R58, R179). -/
def frameBits (bs : List Byte) : List Bool := bs.flatMap sentBits

/-- The check byte of a receive-line frame: 255 less the sum of its two bytes modulo 256 (R119). -/
def lineCheck (b1 b2 : Byte) : Byte := 255#8 - (b1 + b2)

end Sys2Proof.Machine
end

