-- ==== Sys2Proof/Machine/Flags.lean ====
section
/-! DEFINITION. The part's flags: EVENTS, EVENT_ENABLE and the interrupt output, and the editions, which with EVENTS tell the host what changed (chapter 12.5). Every rewrite of a published record goes through this file. -/

namespace Sys2Proof.Machine

/-- The bit of EVENTS (R193). -/
def Event.bit (e : Event) : BitVec 9 := 1#9 <<< e.ctorIdx

/-- A bit of EVENTS is set (R188). -/
def State.raise (s : State) (e : Event) : State :=
  { s with board := { s.board with events := s.board.events ||| e.bit } }

/-- The interrupt output: some set bit of EVENTS has its enable set (R188). -/
def State.interrupt (s : State) : Bool := decide (s.board.events &&& s.board.enable ≠ 0)

/-! ## Region editions and rewrites -/

/-- The plan edition increments and EVENTS.PLAN is set (R5). -/
def State.planRewrite (s : State) : State :=
  { s with plan := { s.plan with edition := s.plan.edition + 1 } }.raise .plan

/-- The occupancy edition increments and EVENTS.PROBE is set (R44, R48, R57). -/
def State.occupancyRewrite (s : State) : State :=
  { s with probe := { s.probe with edition := s.probe.edition + 1 } }.raise .probe

/-- The tally region edition increments and EVENTS.TALLY is set (R125). -/
def State.tallyRewrite (s : State) : State :=
  { s with tally := { s.tally with edition := s.tally.edition + 1 } }.raise .tally

/-- The talk region edition increments k times; EVENTS.TALK is set when k is not 0 (R153, R154, R162). -/
def State.talkRewrites (s : State) (k : Nat) : State :=
  if k = 0 then s else { s with talk := { s.talk with edition := s.talk.edition + BitVec.ofNat 16 k } }.raise .talk

/-- The record of link l. -/
def State.link (s : State) (l : Nat) : LinkRec := look s.links.recs l

/-- Link l's record changed in place, without a rewrite: its timers and waiting transaction. -/
def State.touchLink (s : State) (l : Nat) (f : LinkRec → LinkRec) : State :=
  { s with links := { s.links with recs := adjust s.links.recs l f } }

/-- A rewrite of link l's record: its edition and the links region edition increment once and EVENTS.LINK is set (R74). -/
def State.rewriteLink (s : State) (l : Nat) (f : LinkRec → LinkRec) : State :=
  { s with links := { s.links with
      recs := adjust s.links.recs l (fun r => { f r with edition := r.edition + 1 })
      edition := s.links.edition + 1 } }.raise .link

/-- Move context c. -/
def State.ctx (s : State) (c : Nat) : Ctx := look s.moves.ctxs c

/-- Context c's waiting transaction changed, which is not a published field. -/
def State.touchCtx (s : State) (c : Nat) (f : Ctx → Ctx) : State :=
  { s with moves := { s.moves with ctxs := adjust s.moves.ctxs c f } }

/-- A rewrite of context c: its edition and the moves region edition increment once and EVENTS.LINK is set (R93). -/
def State.rewriteCtx (s : State) (c : Nat) (f : Ctx → Ctx) : State :=
  { s with moves := { s.moves with
      ctxs := adjust s.moves.ctxs c (fun r => { f r with edition := r.edition + 1 })
      edition := s.moves.edition + 1 } }.raise .link

/-- The record of receive line n. -/
def State.line (s : State) (n : Nat) : Line := look s.lines.recs n

/-- Line n's counters, decoder or times changed in place (R114). -/
def State.touchLine (s : State) (n : Nat) (f : Line → Line) : State :=
  { s with lines := { s.lines with recs := adjust s.lines.recs n f } }

/-- A rewrite of line n's record: its edition and the lines region edition increment once and EVENTS.LINE is set (R114). -/
def State.rewriteLine (s : State) (n : Nat) (f : Line → Line) : State :=
  { s with lines := { s.lines with
      recs := adjust s.lines.recs n (fun r => { f r with edition := r.edition + 1 })
      edition := s.lines.edition + 1 } }.raise .line

/-- The record of lamp n. -/
def State.lamp (s : State) (n : Nat) : Lamp := look s.lamps.recs n

/-- Lamp n's duties or timers changed in place (R141). -/
def State.touchLamp (s : State) (n : Nat) (f : Lamp → Lamp) : State :=
  { s with lamps := { s.lamps with recs := adjust s.lamps.recs n f } }

/-- A rewrite of lamp n's record: its edition and the lamps region edition increment once (R141). -/
def State.rewriteLamp (s : State) (n : Nat) (f : Lamp → Lamp) : State :=
  { s with lamps := { s.lamps with
      recs := adjust s.lamps.recs n (fun r => { f r with edition := r.edition + 1 })
      edition := s.lamps.edition + 1 } }

/-- An event of lamp n: a rewrite exactly when the lamp state changes (R141). -/
def State.lampEvent (s : State) (n : Nat) (f : Lamp → Lamp) : State :=
  if (f (s.lamp n)).state = (s.lamp n).state then s.touchLamp n f else s.rewriteLamp n f

/-- The record of unit address a, 1 to 16. -/
def State.unit (s : State) (a : Nat) : UnitRec := look s.bus.units (a - 1)

/-- Unit a's record changed; a change of its state sets EVENTS.LINK or EVENTS.PROBE by the role it held before (R67). -/
def State.setUnit (s : State) (a : Nat) (u : UnitRec) : State :=
  let s' := { s with bus := { s.bus with units := put s.bus.units (a - 1) u } }
  if u.state = (s.unit a).state then s'
  else s'.raise (match (s.unit a).role with
    | .link => .link
    | .probe => .probe)

/-! ## Completion of a request (R186) -/

/-- The result words and the result code are written, the slot becomes DONE (its bit of the done bitmap with it) and EVENTS.BOARD is set. -/
def State.complete (s : State) (n : Nat) (r : Result) (words : List (Nat × Word) := []) : State :=
  ((((words.foldl (fun s w => s.setSlotWord n w.1 w.2) s).setSlotWord n 3 (resultNat r.ctorIdx)).setSlot n .done).raise .board)

end Sys2Proof.Machine
end

