-- ==== Sys2Proof/Machine/Operands.lean ====
section
/-! DEFINITION. The operand forms of the requests: how a slot's words are read as fields, which values are absent, and how a value is clamped (R34, R76, R192, R195). -/

namespace Sys2Proof.Machine

/-! ## Single fields -/

/-- A value clamped to lo..hi (R9, R76). -/
def clamp (lo hi v : Nat) : Nat := if v < lo then lo else if hi < v then hi else v

/-- A field with a note of whether it was clamped. -/
structure Clamped where
  value : Nat
  was : Bool
  deriving DecidableEq, Repr

/-- A value clamped to lo..hi, with the note. -/
def clampTo (lo hi v : Nat) : Clamped := { value := clamp lo hi v, was := decide (clamp lo hi v ≠ v) }

/-- A word that may be absent: 0xFFFF reads as absence (R192). -/
def optWord (v : Nat) : Option Nat := if v = 0xFFFF then none else some v

/-- A 32-bit field that may be absent (R192). -/
def opt32 (v : Nat) : Option Nat := if v = 0xFFFFFFFF then none else some v

/-- A word for which 0 and absence both stand for the default (R34, R77): none then, the value otherwise. -/
def optNonzero (v : Nat) : Option Nat := if v = 0 ∨ v = 0xFFFF then none else some v

/-- A value that may be absent, taking the default d or being clamped. -/
def clampOpt (lo hi d : Nat) (v : Option Nat) : Clamped :=
  match v with
  | none => { value := d, was := false }
  | some v => clampTo lo hi v

/-- The low byte of a word. -/
def lowByte (v : Nat) : Nat := v % 256

/-- The high byte of a word. -/
def highByte (v : Nat) : Nat := v / 256

/-- Bit k of a select mask or flags word. -/
def maskBit (v k : Nat) : Bool := v.testBit k

/-- The request flags (R192): FORCE, OVERRIDE_LOCK, URGENT, MANUAL_GO. -/
def flagForce (v : Nat) : Bool := maskBit v 0
/-- OVERRIDE_LOCK of a request flags word (R192). -/
def flagOverride (v : Nat) : Bool := maskBit v 1
/-- URGENT of a request flags word (R192). -/
def flagUrgent (v : Nat) : Bool := maskBit v 2
/-- MANUAL_GO of a request flags word (R192). -/
def flagManualGo (v : Nat) : Bool := maskBit v 3

/-! ## Enumerations, by position (R192) -/

/-- The tally levels by number. -/
def tallyOf (v : Nat) : Option Tally := [Tally.off, .iso, .preview, .program][v]?
/-- The link kinds by number. -/
def linkKindOf (v : Nat) : Option LinkKind := [LinkKind.camera, .mic, .iem][v]?
/-- The studios by number. -/
def studioOf (v : Nat) : Option Studio := [Studio.a, .b][v]?
/-- The parities by number. -/
def parityOf (v : Nat) : Option Parity := [Parity.none, .even, .odd][v]?
/-- The noise filters by number. -/
def filterOf (v : Nat) : Option NoiseFilter := [NoiseFilter.off, .short, .long][v]?
/-- The overrides by number. -/
def overrideOf (v : Nat) : Option Override := [Override.none, .forceOff, .forceIso, .forcePreview, .forceProgram][v]?
/-- The lamp modes by number. -/
def lampModeOf (v : Nat) : Option LampMode := [LampMode.off, .link, .fixed][v]?
/-- The key modes by number. -/
def keyModeOf (v : Nat) : Option KeyMode := [KeyMode.none, .momentary, .latching, .auto][v]?

/-! ## Search parameters (R34) -/

/-- A search grid read from its range and its step, start and limit words; `bad` when lo lies above hi after clamping. -/
structure GridField where
  grid : Grid
  was : Bool
  bad : Bool
  deriving DecidableEq, Repr

/-- Step: 0 or absent is 1, otherwise clamped to 1..64. -/
def stepField (v : Nat) : Clamped := clampOpt 1 64 1 (optNonzero v)

/-- Limit: 0 or absent is 12,800, otherwise clamped to 1..12,800. -/
def limitField (v : Nat) : Clamped := clampOpt 1 12800 12800 (optNonzero v)

/-- Start: absent is lo, otherwise clamped into lo..hi. -/
def startField (lo hi v : Nat) : Clamped := clampOpt lo hi lo (optWord v)

/-- The grid of a search over lo..hi with the given step, start and limit words. -/
def gridField (lo hi step start limit : Nat) : GridField :=
  let l := clampTo 0 Config.maxCode lo
  let h := clampTo 0 Config.maxCode hi
  let k := stepField step
  let st := startField l.value h.value start
  let lim := limitField limit
  { grid := { lo := l.value, hi := h.value, step := k.value, start := st.value, limit := lim.value }
    was := l.was || h.was || k.was || st.was || lim.was
    bad := decide (h.value < l.value) }

/-! ## Link options (R76, R195) -/

/-- The thirteen words of the link options as given, each absent or a value. -/
structure OptionWords where
  rfThreshold : Option Nat
  weakTime : Option Nat
  lossTime : Option Nat
  rescue : Option Nat
  rescueTime : Option Nat
  backoff : Option Nat
  confirm : Option Nat
  hold : Option Nat
  searchLo : Option Nat
  searchHi : Option Nat
  deriving DecidableEq, Repr

/-- The options laid out from word w of slot n on (R195). -/
def State.optionWords (s : State) (n w : Nat) : OptionWords :=
  { rfThreshold := optWord (s.param n w), weakTime := optWord (s.param n (w + 1)), lossTime := optWord (s.param n (w + 2)),
    rescue := optWord (s.param n (w + 3)), rescueTime := opt32 (s.param32 n (w + 4)), backoff := opt32 (s.param32 n (w + 6)),
    confirm := optWord (s.param n (w + 8)), hold := opt32 (s.param32 n (w + 9)), searchLo := optWord (s.param n (w + 11)),
    searchHi := optWord (s.param n (w + 12)) }

/-- Only the options the select mask names, bits 0 to 9 in the order of the link options table (R195). -/
def OptionWords.select (o : OptionWords) (mask : Nat) : OptionWords :=
  let sel (k : Nat) (v : Option Nat) : Option Nat := if maskBit mask k then v else none
  { rfThreshold := sel 0 o.rfThreshold, weakTime := sel 1 o.weakTime, lossTime := sel 2 o.lossTime, rescue := sel 3 o.rescue,
    rescueTime := sel 4 o.rescueTime, backoff := sel 5 o.backoff, confirm := sel 6 o.confirm, hold := sel 7 o.hold,
    searchLo := sel 8 o.searchLo, searchHi := sel 9 o.searchHi }

/-- Options read over the values d that absent fields take; `bad` when search lo lies above search hi after clamping. -/
structure OptionsField where
  options : Options
  was : Bool
  bad : Bool
  deriving DecidableEq, Repr

/-- The options clamped to the ranges of R76. -/
def OptionWords.read (o : OptionWords) (d : Options) : OptionsField :=
  let rf := clampOpt 0 255 d.rfThreshold o.rfThreshold
  let weak := clampOpt 0 10000 d.weakTime o.weakTime
  let loss := clampOpt 50 10000 d.lossTime o.lossTime
  let resc := clampOpt 0 1 (if d.rescue then 1 else 0) o.rescue
  let rtime := clampOpt 1000 600000 d.rescueTime o.rescueTime
  let back := clampOpt 0 3600000 d.backoff o.backoff
  let conf := clampOpt 500 10000 d.confirm o.confirm
  let hold := clampOpt 1000 3600000 d.hold o.hold
  let lo := clampOpt 0 Config.maxCode d.searchLo o.searchLo
  let hi := clampOpt 0 Config.maxCode d.searchHi o.searchHi
  { options := { rfThreshold := rf.value, weakTime := weak.value, lossTime := loss.value, rescue := decide (resc.value = 1),
                 rescueTime := rtime.value, backoff := back.value, confirm := conf.value, hold := hold.value,
                 searchLo := lo.value, searchHi := hi.value }
    was := rf.was || weak.was || loss.was || resc.was || rtime.was || back.was || conf.was || hold.was || lo.was || hi.was
    bad := decide (hi.value < lo.value) }

/-! ## Tally sources (R77, R131, R195) -/

/-- A tally source word: line in the high byte, source in the low byte; none when either lies outside its range. -/
def sourceOf (v : Nat) : Option (Nat × Nat) :=
  if highByte v ≤ 1 ∧ 1 ≤ lowByte v ∧ lowByte v ≤ 64 then some (highByte v, lowByte v) else none

/-- The list of count source words from word w of slot n on; none when count exceeds 4 or a source is out of range. -/
def State.sourceList (s : State) (n w count : Nat) : Option (List (Nat × Nat)) :=
  if 4 < count then none else ((List.range count).map (fun k => s.param n (w + k))).mapM sourceOf

end Sys2Proof.Machine
end

