-- ==== Sys2Proof/Machine/Plan.lean ====
section
/-! DEFINITION. The plan table and the compatibility arithmetic: violation instances, the refresh, the candidate test, the removal path and the adoption of a target (chapters 1 and 2). -/

namespace Sys2Proof.Machine

/-! ## The arithmetic (R20 to R25) -/

/-- An entry as the arithmetic sees it: its entry number, code, half-width, and whether it is a LINK entry and so a source. -/
structure Signal where
  id : Nat
  f : Int
  w : Int
  source : Bool
  deriving DecidableEq, Repr

/-- One violation instance: its type and the numbers of the entries that take part in it (R25). -/
structure Inst where
  type : Violation
  members : List Nat
  deriving DecidableEq, Repr

/-- The distance of two codes. -/
def distance (x y : Int) : Int := ((x - y).natAbs : Int)

/-- An entry is in use when its status is ACTIVE or RESERVED (R3). -/
def PlanEntry.inUse (e : PlanEntry) : Bool := decide (e.status ≠ .free)

/-- An in-use LINK entry. -/
def PlanEntry.isLink (e : PlanEntry) : Bool := e.inUse && decide (e.kind = .link)

/-- The signal of entry n. -/
def PlanEntry.signal (e : PlanEntry) (n : Nat) : Signal :=
  { id := n, f := e.code, w := e.width, source := decide (e.kind = .link) }

/-- The in-use entries of a plan table as signals, in entry order. -/
def signalsOf (entries : Vector PlanEntry 48) : List Signal :=
  (List.range 48).filterMap fun n => if (look entries n).inUse then some ((look entries n).signal n) else none

/-- A span f - w to f + w shares a code with lo to hi. -/
def spanMeets (f w lo hi : Int) : Bool := decide (f - w ≤ hi ∧ lo ≤ f + w)

/-- A LINK signal overlaps a present exclusion place (R7). -/
def exclMeets (x : Exclusion) (a : Signal) : Bool := x.present && a.source && spanMeets a.f a.w x.lo x.hi

/-- EXCL instances: one for each LINK entry and each present place it overlaps (R25). -/
def exclInstances (xs : List Exclusion) (l : List Signal) : List Inst :=
  l.flatMap fun a => (xs.filter fun x => exclMeets x a).map fun _ => { type := .excl, members := [a.id] }

/-- ADJ instances: each unordered pair closer than w_a + w_b + g_adj (R21). -/
def adjInstances (r : Rules) (l : List Signal) : List Inst :=
  l.flatMap fun a => l.filterMap fun b =>
    if a.id < b.id ∧ distance a.f b.f < a.w + b.w + r.gAdj then some { type := .adj, members := [a.id, b.id] } else none

/-- A product p with spread s strikes victim v under guard g: p lies in the band and within the bound (R20, R22 to R24). -/
def strikes (p s g : Int) (v : Signal) : Bool :=
  decide (0 ≤ p ∧ p ≤ Config.maxCode ∧ distance p v.f < s + v.w + g)

/-- The instances of one product: every victim of l distinct from the sources that it strikes. -/
def struckBy (t : Violation) (p s g : Int) (sources : List Nat) (l : List Signal) : List Inst :=
  l.filterMap fun v => if v.id ∉ sources ∧ strikes p s g v then some { type := t, members := sources ++ [v.id] } else none

/-- IM3_2 instances: 2 f_a - f_b for each ordered pair of distinct sources (R22). -/
def im32Instances (r : Rules) (l : List Signal) : List Inst :=
  let src := l.filter (·.source)
  src.flatMap fun a => src.flatMap fun b =>
    if a.id = b.id then [] else struckBy .im32 (2 * a.f - b.f) (2 * a.w + b.w) r.g3 [a.id, b.id] l

/-- IM3_3 instances: f_a + f_b - f_c for each unordered pair and third distinct source (R23). -/
def im33Instances (r : Rules) (l : List Signal) : List Inst :=
  let src := l.filter (·.source)
  src.flatMap fun a => src.flatMap fun b => src.flatMap fun c =>
    if a.id < b.id ∧ c.id ≠ a.id ∧ c.id ≠ b.id then
      struckBy .im33 (a.f + b.f - c.f) (a.w + b.w + c.w) r.g3 [a.id, b.id, c.id] l
    else []

/-- IM5 instances, while the IM5 enable is 1: 3 f_a - 2 f_b for each ordered pair of distinct sources (R24). -/
def im5Instances (r : Rules) (l : List Signal) : List Inst :=
  let src := l.filter (·.source)
  if r.im5 then
    src.flatMap fun a => src.flatMap fun b =>
      if a.id = b.id then [] else struckBy .im5 (3 * a.f - 2 * b.f) (3 * a.w + 2 * b.w) r.g5 [a.id, b.id] l
  else []

/-- Every instance among the signals, in the order EXCL, ADJ, IM3_2, IM3_3, IM5 of R25. -/
def instances (r : Rules) (xs : List Exclusion) (l : List Signal) : List Inst :=
  exclInstances xs l ++ adjInstances r l ++ im32Instances r l ++ im33Instances r l ++ im5Instances r l

/-! ## Counting and the refresh (R25, R26) -/

/-- The instances entry n takes part in. -/
def instancesOf (is : List Inst) (n : Nat) : List Inst := is.filter fun i => i.members.contains n

/-- The worst violation type: the first instance's, since instances stand in the order of the types. -/
def worstOf (is : List Inst) : Violation :=
  match is with
  | [] => .none
  | i :: _ => i.type

/-- An entry with the three values its instances give it (R25). -/
def PlanEntry.withMarks (e : PlanEntry) (is : List Inst) : PlanEntry :=
  { e with count := min 65535 is.length, mark := decide (is.length ≠ 0), worst := worstOf is }

/-- Entry n after a refresh found the instances `is`: only an in-use entry is written, and its edition increments when a value changed, except the entry `fresh` whose rewrite was counted at its commit (R5, R11). -/
def PlanEntry.refreshed (is : List Inst) (fresh : Option Nat) (n : Nat) (e : PlanEntry) : PlanEntry :=
  if e.inUse ∧ e.withMarks (instancesOf is n) ≠ e then
    { e.withMarks (instancesOf is n) with edition := if fresh = some n then e.edition else e.edition + 1 }
  else e

/-- The plan now, as a refresh finds it when it begins. -/
def Plan.snapshot (p : Plan) : PlanSnapshot := { entries := p.entries, exclusions := p.exclusions, rules := p.rules }

/-- Every instance of a snapshot. -/
def PlanSnapshot.instances (x : PlanSnapshot) : List Inst :=
  Sys2Proof.Machine.instances x.rules x.exclusions.toList (signalsOf x.entries)

/-- The plan table after a refresh. -/
def refreshEntries (x : PlanSnapshot) (fresh : Option Nat) (entries : Vector PlanEntry 48) : Vector PlanEntry 48 :=
  mapTable (PlanEntry.refreshed x.instances fresh) entries

/-! ## The candidate test (R31 to R33) -/

/-- A proposed carrier and the entry it would replace. -/
structure Candidate where
  code : Nat
  width : Nat
  kind : CarrierKind
  leftOut : Option Nat
  deriving DecidableEq, Repr

/-- The number the candidate has among the signals: above every entry's. -/
def candidateId : Nat := Config.planEntries

/-- The candidate as a signal. -/
def Candidate.signal (c : Candidate) : Signal :=
  { id := candidateId, f := c.code, w := c.width, source := decide (c.kind = .link) }

/-- The test set: the in-use entries less the left-out entry, plus the candidate (R31). -/
def testSet (entries : Vector PlanEntry 48) (c : Candidate) : List Signal :=
  (signalsOf entries).filter (fun a => decide (c.leftOut ≠ some a.id)) ++ [c.signal]

/-- An in-use LINK entry other than the left-out one overlaps bin b (R32). -/
def binCovered (entries : Vector PlanEntry 48) (leftOut : Option Nat) (b : Nat) : Bool :=
  (signalsOf entries).any fun a =>
    a.source && decide (leftOut ≠ some a.id) && spanMeets a.f a.w (8 * b : Nat) (8 * b + 7 : Nat)

/-- Bin b is clear for the occupancy test (R32). -/
def binClear (entries : Vector PlanEntry 48) (pr : Probe) (threshold : Nat) (leftOut : Option Nat) (b : Nat) : Bool :=
  decide (pr.levels.get 0 b = 0) || decide (pr.levels.get 0 b < threshold) ||
    (pr.ownMarks.get false b && !binCovered entries leftOut b)

/-- Test 1: the span lies inside the band (R31). -/
def Candidate.inBand (c : Candidate) : Bool := decide (c.width ≤ c.code ∧ c.code + c.width ≤ Config.maxCode)

/-- Test 2: the span meets no present exclusion place (R31). -/
def Candidate.clearOfExclusions (c : Candidate) (xs : List Exclusion) : Bool := !xs.any fun x => exclMeets x c.signal

/-- Test 3: every bin under the span is clear (R31). -/
def Candidate.binsClear (c : Candidate) (entries : Vector PlanEntry 48) (pr : Probe) (threshold : Nat) : Bool :=
  let first := (c.code - c.width) / 8
  let last := (c.code + c.width) / 8
  (List.range (last + 1 - first)).all fun k => binClear entries pr threshold c.leftOut (first + k)

/-- Test 4: the first type of an instance involving the candidate, in the order ADJ, IM3_2, IM3_3, IM5 (R31, R33). -/
def Candidate.compatibility (c : Candidate) (r : Rules) (entries : Vector PlanEntry 48) : Reason :=
  let l := testSet entries c
  let involves (is : List Inst) : Bool := !(instancesOf is candidateId).isEmpty
  if involves (adjInstances r l) then .adj
  else if involves (im32Instances r l) then .im32
  else if involves (im33Instances r l) then .im33
  else if involves (im5Instances r l) then .im5
  else .none

/-- The reason a candidate gives: the first failing test of R31 that applies to its kind (R33). -/
def Candidate.reason (c : Candidate) (p : Plan) (pr : Probe) : Reason :=
  if !c.inBand then .band
  else if c.kind = .link ∧ !c.clearOfExclusions p.exclusions.toList then .excl
  else if c.kind = .link ∧ !c.binsClear p.entries pr p.rules.threshold then .occupied
  else c.compatibility p.rules p.entries

/-! ## Table entries -/

/-- Plan entry n. -/
def State.entry (s : State) (n : Nat) : PlanEntry := look s.plan.entries n

/-- Plan entry n changed. -/
def State.setEntry (s : State) (n : Nat) (f : PlanEntry → PlanEntry) : State :=
  { s with plan := { s.plan with entries := adjust s.plan.entries n f } }

/-- The refresh-pending flag is set (R12). -/
def State.setRefreshPending (s : State) : State := { s with plan := { s.plan with refreshPending := true } }

/-- The lowest-numbered FREE entry (R4). -/
def lowestFree (entries : Vector PlanEntry 48) : Option Nat := (placesWhere 48 fun n => !(look entries n).inUse).head?

/-- The removal path: entry n is freed, both editions increment, EVENTS.PLAN and refresh-pending are set (R17). -/
def State.freeEntry (s : State) (n : Nat) : State :=
  ((s.setEntry n fun e => { PlanEntry.free with edition := e.edition + 1 }).planRewrite).setRefreshPending

/-- A link adopts its target: the target becomes ACTIVE with the lock flag of the origin, and the origin is freed (R15). -/
def State.adopt (s : State) (origin target : Nat) : State :=
  let lock := (s.entry origin).lock
  ((s.setEntry target fun e => { e with status := .active, lock := lock, edition := e.edition + 1 }).planRewrite).freeEntry origin

/-- The host may not touch a locked entry without an effective OVERRIDE_LOCK (R14). -/
def State.lockRefuses (s : State) (n : Nat) (override : Bool) : Bool :=
  (s.entry n).lock && !(override && s.plan.rules.lockOverride)

/-! ## The waiting list (R28) -/

/-- A job raised by a move context. -/
def JobSource.isMove : JobSource → Bool
  | .move _ => true
  | .place _ => false
  | .setCarrier _ _ => false
  | .audit _ => false
  | .bind _ _ => false

/-- The slot of a host job. -/
def JobSource.slot? : JobSource → Option Nat
  | .move _ => none
  | .place n => some n
  | .setCarrier n _ => some n
  | .audit n => some n
  | .bind n _ => some n

/-- Another host job would be the ninth waiting (R28). -/
def State.hostJobsFull (s : State) : Bool :=
  decide (Config.maxHostJobs ≤ (s.plan.waiting.filter fun j => !j.source.isMove).length)

/-- A job joins the list at the tail (R28). -/
def State.pushJob (s : State) (j : Job) : State := { s with plan := { s.plan with waiting := s.plan.waiting ++ [j] } }

/-- A waiting or running SET_CARRIER job names entry n (R18, R39). -/
def State.carrierNamed (s : State) (n : Nat) : Bool :=
  let names (j : Job) : Bool := match j.source with
    | .setCarrier _ e => decide (e = some n)
    | .place _ => false
    | .audit _ => false
    | .bind _ _ => false
    | .move _ => false
  s.plan.waiting.any names || (match s.plan.work with
    | .job r => names r.job
    | .idle => false
    | .refresh _ => false)

/-! ## Searches (R34, R35) -/

/-- The largest grid code. -/
def Grid.last (g : Grid) : Nat := g.lo + (g.hi - g.lo) / g.step * g.step

/-- How many grid codes there are. -/
def Grid.size (g : Grid) : Nat := (g.hi - g.lo) / g.step + 1

/-- The first candidate: the first grid code not below the start, lo when the start lies above the last. -/
def Grid.first (g : Grid) : Nat :=
  let j := (g.start - g.lo + g.step - 1) / g.step
  if g.lo + j * g.step ≤ g.last then g.lo + j * g.step else g.lo

/-- The candidate after x, wrapping to lo after the last grid code. -/
def Grid.next (g : Grid) (x : Nat) : Nat := if x + g.step ≤ g.last then x + g.step else g.lo

/-- The default half-width of a link kind (R4). -/
def Rules.width (r : Rules) (k : LinkKind) : Nat :=
  match k with
  | .mic => r.widthMic
  | .iem => r.widthIem
  | .camera => r.widthCamera

end Sys2Proof.Machine
end

