-- ==== Sys2Proof/Machine/Matrix.lean ====
section
/-! DEFINITION. The crosspoint image, the output queue with its spill marks, the matrix line's sender, and the duck ramp that writes the programme crosspoints (chapter 11). -/

namespace Sys2Proof.Machine

/-! ## Image, queue and sender (R176 to R180) -/

/-- The number of crosspoint (output o, input i): ascending output, then ascending input. -/
def pointOf (o i : Nat) : Nat := 18 * o + i

/-- A point put among rising points. -/
def insertRising (p : Nat) : List Nat → List Nat
  | [] => [p]
  | q :: l => if p < q then p :: q :: l else if p = q then q :: l else q :: insertRising p l

/-- The value of a point in the image (R176). -/
def State.imageAt (s : State) (p : Nat) : Nat := s.matrix.image.get Config.mute p

/-- The sweep of the spill marks into an empty queue (R178). -/
def Matrix.sweep (m : Matrix) : Matrix :=
  { m with queue := m.queue ++ (m.marks.take Config.queuePlaces).map fun p => (p, m.image.get Config.mute p)
           marks := m.marks.drop Config.queuePlaces }

/-- An IDLE sender takes the head entry; taking the last entry sweeps the marks in the same step (R178, R179). -/
def Matrix.take (m : Matrix) : Matrix :=
  match m.sender, m.queue with
  | .idle, (p, v) :: q =>
    let m' := { m with queue := q, sender := .setPoint p v, begun := m.begun.put Config.mute p v }
    if q.isEmpty then m'.sweep else m'
  | .idle, [] => m
  | .clearAll, _ => m
  | .setPoint _ _, _ => m

/-- A change of a point is handed to the queue (R177). -/
def Matrix.enqueue (m : Matrix) (p v : Nat) : Matrix :=
  if m.queue.any (fun e => decide (e.1 = p)) then
    { m with queue := m.queue.map fun e => if e.1 = p then (p, v) else e }
  else if m.queue.length < Config.queuePlaces then
    { m with queue := m.queue ++ [(p, v)], marks := m.marks.filter fun q => decide (q ≠ p) }.take
  else { m with marks := insertRising p m.marks, spills := satInc m.spills }

/-- The change meets a full queue that does not hold its point (R177). -/
def Matrix.spillsOn (m : Matrix) (p : Nat) : Bool :=
  !m.queue.any (fun e => decide (e.1 = p)) && decide (Config.queuePlaces ≤ m.queue.length)

/-- A write of a value to a point: a write that changes the image is a change, handed to the queue in the same step (R176). -/
def State.writePoint (s : State) (p v : Nat) : State :=
  if s.imageAt p = v then s
  else
    let m := { s.matrix with image := s.matrix.image.put Config.mute p v }
    let s' := { s with matrix := m.enqueue p v }
    if m.spillsOn p then s'.raise .matrix else s'

/-- The sender becomes IDLE at a frame's last stop bit and takes the next head at once (R179). -/
def Matrix.frameSent (m : Matrix) : Matrix := { m with sender := .idle }.take

/-- The bytes on the matrix line (R179, R180, R198). -/
def Sender.frame : Sender → List Byte
  | .idle => []
  | .clearAll => [0xE4#8, 0, 0, 0, xorBytes [0xE4#8, 0, 0, 0]]
  | .setPoint p v =>
    let bs : List Byte := [0xE3#8, BitVec.ofNat 8 (p / 18), BitVec.ofNat 8 (p % 18), BitVec.ofNat 8 v]
    bs ++ [xorBytes bs]

/-- The level of the matrix line k bit times after the sender has begun its frame: the bits of the frame, and mark after them and while the sender is IDLE (R179, R180). -/
def Sender.line (x : Sender) (k : Nat) : Bool := (frameBits x.frame).getD k true

/-! ## Destination records -/

/-- The destination record of link l. -/
def State.dest (s : State) (l : Nat) : Dest := look s.talk.dests l

/-- Link l's destination record changed in place. -/
def State.setDest (s : State) (l : Nat) (f : Dest → Dest) : State :=
  { s with talk := { s.talk with dests := adjust s.talk.dests l f } }

/-- A rewrite of link l's destination record (R162, R170). -/
def State.rewriteDest (s : State) (l : Nat) (f : Dest → Dest) : State :=
  (s.setDest l fun d => { f d with edition := d.edition + 1 }).talkRewrites 1

/-! ## The duck ramp (R170 to R175) -/

/-- The programme input of a studio (R170). -/
def programmeInput (st : Studio) : Nat :=
  match st with
  | .a => 16
  | .b => 17

/-- The current value of link l's programme part written into the image, when the link has a matrix output (R170). -/
def State.writeProgramme (s : State) (l : Nat) : State :=
  match (s.link l).output with
  | none => s
  | some o => s.writePoint (pointOf o (programmeInput (s.link l).studio)) (s.dest l).current

/-- The programme target (R173). -/
def Dest.targetFor (d : Dest) (applied : Tally) : Nat :=
  if d.base = Config.mute then Config.mute
  else if d.talking then min Config.maxAtten (d.base + if applied = .program then d.onAir else d.offAir)
  else d.base

/-- The most the current value may be: base and the greater depth, at most 126 (R174). -/
def Dest.bound (d : Dest) : Nat := min Config.maxAtten (d.base + max d.offAir d.onAir)

/-- The ramp timer runs while current value and target are both codes and differ (R175). -/
def Dest.ramping (d : Dest) : Bool := decide (d.current ≠ Config.mute ∧ d.target ≠ Config.mute ∧ d.current ≠ d.target)

/-- A recompute of the target starts or stops the ramp timer (R173, R175). -/
def Dest.recompute (d : Dest) (applied : Tally) (fresh : Option Timer) : Dest :=
  let d' := { d with target := d.targetFor applied }
  { d' with rampTimer := if d'.ramping then timerKeep d'.rampTimer fresh else none }

/-- The target of link l recomputed (R173). -/
def State.duckRecompute (s : State) (l : Nat) : State :=
  s.setDest l fun d => d.recompute (s.link l).applied (s.timer Config.rampMs)

/-- A talker notice: a change of the talking flag recomputes the target (R170, R173). -/
def State.duckNotice (s : State) (l : Nat) (talking : Bool) : State :=
  if (s.dest l).talking = talking then s
  else (s.setDest l fun d => { d with talking := talking }).duckRecompute l

/-- The programme part at binding (R171). -/
def Dest.programmeAtBinding (d : Dest) : Dest :=
  { d with base := 0, offAir := 24, onAir := 12, rate := 4, current := 0, target := 0, talking := false, rampTimer := none }

/-- The programme part's VACANT values (R170). -/
def Dest.programmeVacant (d : Dest) : Dest :=
  { d with base := 0, offAir := 24, onAir := 12, rate := 4, current := Config.mute, target := Config.mute, talking := false, rampTimer := none }

/-- Binding of an IEM link: the values at binding, and 0 written into the programme crosspoint (R171). -/
def State.duckBind (s : State) (l : Nat) : State :=
  if (s.link l).kind = .iem then (s.setDest l Dest.programmeAtBinding).writeProgramme l else s

/-- The programme part takes its VACANT values, a rewrite of the record when base, a depth or the ramp rate changes by it (R170). -/
def State.vacateProgramme (s : State) (l : Nat) : State :=
  let d := s.dest l
  let v := d.programmeVacant
  if d.base = v.base ∧ d.offAir = v.offAir ∧ d.onAir = v.onAir ∧ d.rate = v.rate then s.setDest l Dest.programmeVacant
  else s.rewriteDest l Dest.programmeVacant

/-- Unbinding of an IEM link: the timer stops, the crosspoint is written MUTE and the part takes its VACANT values (R171). -/
def State.duckUnbind (s : State) (l : Nat) : State :=
  if (s.link l).kind = .iem then (s.vacateProgramme l).writeProgramme l else s

/-- One ramp step toward the target (R175). -/
def rampStep (current target rate : Nat) : Nat :=
  if current < target then min target (current + rate) else max target (current - rate)

/-- A ramp expiry: a step, written into the image; the timer restarts until the target is reached (R175). -/
def State.rampExpiry (s : State) (l : Nat) : State :=
  (s.setDest l fun d =>
    let c := rampStep d.current d.target d.rate
    { d with current := c, rampTimer := if c = d.target then none else s.timer Config.rampMs }).writeProgramme l

/-- A change of base moves the current value (R174). -/
def rebase (old new current : Nat) : Nat :=
  if new = Config.mute then Config.mute
  else if old = Config.mute then new
  else min Config.maxAtten (current + new - old)

/-- The current value corrected to the bound after a depth change (R174). -/
def Dest.correct (d : Dest) : Dest :=
  if d.current ≠ Config.mute ∧ d.bound < d.current then { d with current := d.bound } else d

end Sys2Proof.Machine
end

