-- ==== Sys2Proof/Machine/Talk.lean ====
section
/-! DEFINITION. Talkback: keys, activation, arbitration at destinations, talker states and talk crosspoints (chapter 10). -/

namespace Sys2Proof.Machine

/-! ## Keys -/

/-- The place of key k of station st in the key table. -/
def keyPlace (st k : Nat) : Nat := 12 * st + k

/-- The key at a place. -/
def State.key (s : State) (p : Nat) : Key := look s.talk.keys p

/-- The key at a place changed. -/
def State.setKey (s : State) (p : Nat) (f : Key → Key) : State :=
  { s with talk := { s.talk with keys := adjust s.talk.keys p f } }

/-- A key is active in PRESSED, HANGING and LATCHED (R154). -/
def Key.active (k : Key) : Bool := decide (k.activity ≠ .idle)

/-- A request is that of key k of station st. -/
def Waiter.isOf (w : Waiter) (st k : Nat) : Bool := decide (w.station = st ∧ w.key = k)

/-! ## A destination (R162 to R165) -/

/-- The talker in slot i. -/
def Dest.slot (d : Dest) (i : Nat) : Option Talker := look d.slots i

/-- The slots of a destination in order. -/
def Dest.talkers (d : Dest) : List (Option Talker) := (List.range 4).map d.slot

/-- The lowest-numbered empty slot (R163). -/
def Dest.freeSlot (d : Dest) : Option Nat := (placesWhere 4 fun i => (d.slot i).isNone).head?

/-- Slot i granted to a request, which becomes the latest granted (R163). -/
def Dest.grantSlot (d : Dest) (i : Nat) (w : Waiter) (talking : Bool) : Dest :=
  { d with slots := put d.slots i (some { req := w, talking := talking }), grant := d.grant.filter (fun j => decide (j ≠ i)) ++ [i] }

/-- Slot i emptied. -/
def Dest.emptySlot (d : Dest) (i : Nat) : Dest :=
  { d with slots := put d.slots i none, grant := d.grant.filter fun j => decide (j ≠ i) }

/-- Waiter a stands before waiter b: higher priority, or the same and activated earlier (R164). -/
def Waiter.before (a b : Waiter) : Bool := decide (b.priority < a.priority ∨ (a.priority = b.priority ∧ a.order < b.order))

/-- A waiter placed by the wait order (R164). -/
def placeWaiter (w : Waiter) : List Waiter → List Waiter
  | [] => [w]
  | x :: l => if w.before x then w :: x :: l else x :: placeWaiter w l

/-- A request or bumped talker joins the wait list, or is DENIED when it holds 8 (R163, R164). -/
def Dest.join (d : Dest) (w : Waiter) : Dest × Option Waiter :=
  if d.waiters.length < 8 then ({ d with waiters := placeWaiter w d.waiters }, none) else (d, some w)

/-- The lowest priority among the talkers (R163). -/
def Dest.lowestPriority (d : Dest) : Nat :=
  d.talkers.foldl (fun m t => match t with
    | none => m
    | some t => min m t.req.priority) 7

/-- The slot to bump: among the talkers of the lowest priority, the one granted latest (R163). -/
def Dest.bumpSlot (d : Dest) : Option Nat :=
  d.grant.reverse.find? fun i => match d.slot i with
    | none => false
    | some t => decide (t.req.priority = d.lowestPriority)

/-- A request settled at a destination (R163), with the request or talker DENIED there, if any. -/
def Dest.request (d : Dest) (w : Waiter) (talking : Bool) : Dest × Option Waiter :=
  match d.freeSlot with
  | some i => (d.grantSlot i w talking, none)
  | none =>
    if d.lowestPriority < w.priority then
      match d.bumpSlot with
      | none => d.join w
      | some i =>
        match d.slot i with
        | none => d.join w
        | some t =>
          let r := (d.emptySlot i).join t.req
          (r.1.grantSlot i w talking, r.2)
    else d.join w

/-- The slot a key holds at a destination. -/
def Dest.slotOf (d : Dest) (st k : Nat) : Option Nat :=
  (placesWhere 4 fun i => match d.slot i with
    | none => false
    | some t => t.req.isOf st k).head?

/-- A key leaves a destination: its slot goes to the head of the wait list, or its place in the list closes up (R165). -/
def Dest.leave (d : Dest) (st k : Nat) (talking : Bool) : Dest :=
  match d.slotOf st k with
  | none => { d with waiters := d.waiters.filter fun w => !w.isOf st k }
  | some i =>
    match d.waiters with
    | [] => d.emptySlot i
    | w :: ws => { (d.emptySlot i).grantSlot i w talking with waiters := ws }

/-- Every talker takes the state matching the link (R166). -/
def Dest.setTalking (d : Dest) (talking : Bool) : Dest :=
  { d with slots := mapTable (fun _ t => t.map fun t => { t with talking := talking }) d.slots }

/-- Some talker is TALKING (R170). -/
def Dest.anyTalking (d : Dest) : Bool := d.talkers.any fun t => match t with
  | none => false
  | some t => t.talking

/-- The talk crosspoint value of a station at a destination: the lowest attenuation of its TALKING talkers, or MUTE (R167). -/
def Dest.stationValue (d : Dest) (st : Nat) : Nat :=
  d.talkers.foldl (fun m t => match t with
    | none => m
    | some t => if t.talking ∧ t.req.station = st then min m t.req.atten else m) Config.mute

/-- A link whose talkers are TALKING: LIVE or WEAK (R166). -/
def LinkRec.carriesTalk (r : LinkRec) : Bool := decide (r.state = .live ∨ r.state = .weak)

/-! ## Settlement (R167) -/

/-- The talk crosspoints of link l's destination brought to their values, in ascending station (R167). -/
def State.writeTalkPoints (s : State) (l : Nat) : State :=
  match (s.link l).output with
  | none => s
  | some o => forPlaces 16 (fun st s => s.writePoint (pointOf o st) ((s.dest l).stationValue st)) s

/-- After a settlement: crosspoints first, then the talker notice to an IEM destination's duck ramp (R163, R165 to R167). -/
def State.settleDest (s : State) (l : Nat) : State :=
  let s' := s.writeTalkPoints l
  if (s.link l).kind = .iem then s'.duckNotice l (s'.dest l).anyTalking else s'

/-! ## Key summaries and talk events (R154, R162, R168) -/

/-- A key's state at a destination (R168). -/
def State.keyStateAt (s : State) (st k : Nat) (key : Key) (l : Nat) : Summary :=
  let d := s.dest l
  match d.slotOf st k with
  | some i => match d.slot i with
    | some t => if t.talking then .talking else .held
    | none => .idle
  | none =>
    if d.waiters.any (fun w => w.isOf st k) then .queued
    else if key.deniedAt.contains l then .denied else .idle

/-- A key with its counts and summary recomputed from its states at its destinations (R168). -/
def Key.summarised (key : Key) (states : List Summary) : Key :=
  let n (x : Summary) : Nat := (states.filter fun y => decide (y = x)).length
  { key with talking := n .talking, held := n .held, queued := n .queued, denied := n .denied,
             summary := if n .talking ≠ 0 then .talking else if n .held ≠ 0 then .held
                        else if n .queued ≠ 0 then .queued else if n .denied ≠ 0 then .denied else .idle }

/-- Every active key's counts and summary recomputed; a key that is not active keeps its record (R168). -/
def State.recomputeKeys (s : State) : State :=
  let f (p : Nat) (key : Key) : Key :=
    if key.active then key.summarised (key.dests.map (s.keyStateAt (p / 12) (p % 12) key)) else key
  { s with talk := { s.talk with keys := mapTable f s.talk.keys } }

/-- What of a key record the talk region edition counts: the record without its destination set and timers (R154). -/
def Key.published (k : Key) : Key := { k with dests := [], deniedAt := [], hangTimer := none, windowTimer := none }

/-- A destination's talkback part changed from d to d' (R162). -/
def Dest.talkChanged (d d' : Dest) : Bool := decide (d.slots ≠ d'.slots ∨ d.waiters ≠ d'.waiters)

/-- The editions of one talk event: each destination record changed since s has its edition incremented once, and the talk region edition increments once for each destination and each key record changed (R154, R162). -/
def State.countTalk (s s' : State) : State :=
  let ds := placesWhere 32 fun l => (s.dest l).talkChanged (s'.dest l)
  let ks := placesWhere 192 fun p => decide ((s.key p).published ≠ (s'.key p).published)
  (ds.foldl (fun t l => t.setDest l fun d => { d with edition := d.edition + 1 }) s').talkRewrites (ds.length + ks.length)

/-- One talk event: its changes, the keys' summaries, then the editions. -/
def State.talkEvent (s : State) (f : State → State) : State := s.countTalk (f s).recomputeKeys

/-! ## Activation and deactivation (R161, R165) -/

/-- Link l is a destination of a group key (R161). -/
def groupHolds (group : Nat) (r : LinkRec) : Bool :=
  decide (r.state ≠ .vacant) &&
  (match group with
    | 0 => decide (r.kind = .camera ∧ r.studio = .a)
    | 1 => decide (r.kind = .camera ∧ r.studio = .b)
    | 2 => decide (r.kind = .iem ∧ r.studio = .a)
    | 3 => decide (r.kind = .iem ∧ r.studio = .b)
    | 4 => decide (r.kind ≠ .mic ∧ r.studio = .a)
    | _ => decide (r.kind ≠ .mic ∧ r.studio = .b))

/-- The destination set a key's target expands to (R161). -/
def State.expand (s : State) (target : Nat) : List Nat :=
  if target < 32 then
    if (s.link target).state ≠ .vacant ∧ (s.link target).kind ≠ .mic then [target] else []
  else placesWhere 32 fun l => groupHolds (target - 32) (s.link l)

/-- One request of an activation at link l, arbitrated and settled (R161, R163). -/
def State.requestAt (s : State) (w : Waiter) (l : Nat) : State :=
  let r := (s.dest l).request w (s.link l).carriesTalk
  let s1 := s.setDest l fun _ => r.1
  let s2 := match r.2 with
    | none => s1
    | some x => s1.setKey (keyPlace x.station x.key) fun k => { k with deniedAt := insertRising l k.deniedAt }
  s2.settleDest l

/-- A key is activated (R161). -/
def State.activate (s : State) (st k : Nat) : State :=
  let key := s.key (keyPlace st k)
  let ds := s.expand key.target
  let w : Waiter := { station := st, key := k, priority := look s.talk.stations st, atten := key.atten, order := s.talk.activations }
  let s1 := { s with talk := { s.talk with activations := s.talk.activations + 1 } }
  ds.foldl (fun s l => s.requestAt w l) (s1.setKey (keyPlace st k) fun key => { key with dests := ds, deniedAt := [] })

/-- An active key deactivates (R165). -/
def State.deactivate (s : State) (st k : Nat) : State :=
  let p := keyPlace st k
  let s1 := (s.key p).dests.foldl (fun s l => (s.setDest l fun d => d.leave st k (s.link l).carriesTalk).settleDest l) s
  s1.setKey p fun key => { key with activity := .idle, summary := .idle, talking := 0, held := 0, queued := 0, denied := 0,
                                    dests := [], deniedAt := [], hangTimer := none, windowTimer := none }

/-! ## Key events (R157 to R159) -/

/-- The key becomes PRESSED, its hang timer stopped. -/
def Key.press (key : Key) (window : Option Timer) : Key :=
  { key with activity := .pressed, hangTimer := none, windowTimer := window }

/-- A PRESSED key is released: it deactivates with hang time 0, and hangs otherwise. -/
def State.releaseKey (s : State) (st k : Nat) : State :=
  let key := s.key (keyPlace st k)
  if key.hang = 0 then s.deactivate st k
  else s.setKey (keyPlace st k) fun key => { key with activity := .hanging, windowTimer := none, hangTimer := s.timer key.hang }

/-- A down on a key (R157 to R159). -/
def State.keyDown (s : State) (st k : Nat) : State :=
  let p := keyPlace st k
  let window := s.timer s.talk.latchWindow
  match (s.key p).mode, (s.key p).activity with
  | .none, _ => s
  | .momentary, .idle => (s.activate st k).setKey p fun key => key.press none
  | .momentary, .pressed => s
  | .momentary, .hanging => s.setKey p fun key => key.press none
  | .momentary, .latched => s
  | .latching, .idle => (s.activate st k).setKey p fun key => { key with activity := .latched }
  | .latching, .pressed => s
  | .latching, .hanging => s
  | .latching, .latched => s.deactivate st k
  | .auto, .idle => (s.activate st k).setKey p fun key => key.press window
  | .auto, .pressed => s
  | .auto, .hanging => s.setKey p fun key => key.press window
  | .auto, .latched => s.deactivate st k

/-- An up on a key (R157 to R159). -/
def State.keyUp (s : State) (st k : Nat) : State :=
  let p := keyPlace st k
  match (s.key p).mode, (s.key p).activity with
  | .momentary, .pressed => s.releaseKey st k
  | .auto, .pressed =>
    if (s.key p).windowTimer.isSome then s.setKey p fun key => { key with activity := .latched, windowTimer := none }
    else s.releaseKey st k
  | .none, _ => s
  | .latching, _ => s
  | .momentary, .idle => s
  | .momentary, .hanging => s
  | .momentary, .latched => s
  | .auto, .idle => s
  | .auto, .hanging => s
  | .auto, .latched => s

/-- A key event from a panel frame or a TALK_KEY (R156). -/
def State.keyEvent (s : State) (st k : Nat) (down : Bool) : State :=
  s.talkEvent fun s => if down then s.keyDown st k else s.keyUp st k

/-- The keys at the places ps deactivate in that order, each that is then active (R160). -/
def State.deactivateAll (s : State) (ps : List Nat) : State :=
  s.talkEvent fun s => ps.foldl (fun s p => s.deactivate (p / 12) (p % 12)) s

/-- The release notice: every key in PRESSED or HANGING deactivates at once (R124, R160). -/
def State.releaseNotice (s : State) : State :=
  s.deactivateAll (placesWhere 192 fun p => decide ((s.key p).activity = .pressed ∨ (s.key p).activity = .hanging))

/-- The active keys of one station, or of every station (R160). -/
def State.activeKeys (s : State) (station : Option Nat) : List Nat :=
  placesWhere 192 fun p => (s.key p).active && (match station with
    | none => true
    | some st => decide (p / 12 = st))

/-- A HANGING key's hang timer expires (R157, R159). -/
def State.hangExpiry (s : State) (st k : Nat) : State := s.talkEvent fun s => s.deactivate st k

/-- An AUTO key's latch-window timer expires (R159). -/
def State.windowExpiry (s : State) (st k : Nat) : State :=
  s.setKey (keyPlace st k) fun key => { key with windowTimer := none }

/-! ## Links (R166, R169) -/

/-- Link l's supervision state has changed: its talkers take the matching state (R166). -/
def State.talkLinkChange (s : State) (l : Nat) : State :=
  let t := (s.link l).carriesTalk
  if ((s.dest l).setTalking t).slots = (s.dest l).slots then s
  else s.talkEvent fun s => (s.setDest l fun d => d.setTalking t).settleDest l

/-- A key whose destination set has lost link l (R169). -/
def Key.without (key : Key) (l : Nat) : Key :=
  { key with dests := key.dests.filter fun m => decide (m ≠ l), deniedAt := key.deniedAt.filter fun m => decide (m ≠ l) }

/-- Link l is being unbound: its destination is emptied, its talk crosspoints are written MUTE and every key loses it (R169). -/
def State.talkUnbind (s : State) (l : Nat) : State :=
  s.talkEvent fun s =>
    let s1 := s.setDest l fun d => { d with slots := Vector.replicate 4 none, grant := [], waiters := [] }
    let s2 := s1.writeTalkPoints l
    { s2 with talk := { s2.talk with keys := mapTable (fun _ key => key.without l) s2.talk.keys } }

end Sys2Proof.Machine
end

