-- ==== Sys2Proof/Machine/Lamps.lean ====
section
/-! DEFINITION. The lamp driver: target duties, fades, the alarm blink, the lamp test and the PWM outputs (chapter 9). -/

namespace Sys2Proof.Machine

/-- The duty configured for a tally level (R141). -/
def Lamp.dutyFor (p : Lamp) (t : Tally) : Nat :=
  match t with
  | .off => p.dutyOff
  | .iso => p.dutyIso
  | .preview => p.dutyPreview
  | .program => p.dutyProgram

/-- The level a lamp sees of a link: its applied tally if bound, OFF if VACANT (R144). -/
def LinkRec.level (r : LinkRec) : Tally := if r.state = .vacant then .off else r.applied

/-- The target duty of a lamp whose link is r (R144). -/
def Lamp.targetFor (p : Lamp) (r : LinkRec) : Nat :=
  match p.mode with
  | .off => 0
  | .fixed => p.fixed
  | .link => p.dutyFor r.level

/-- The alarm condition of a lamp whose link is r (R148). -/
def Lamp.alarms (p : Lamp) (r : LinkRec) : Bool :=
  decide (p.mode = .link ∧ p.alarm ∧ r.applied = .program ∧ (r.state = .lost ∨ r.state = .unitMissing ∨ r.state = .mistuned ∨ r.state = .adrift))

/-- The lamp STEADY at a duty, every fade and blink cancelled. -/
def Lamp.steady (p : Lamp) (duty : Nat) : Lamp :=
  { p with state := .steady, duty := duty, fadeTimer := none, blinkTimer := none }

/-- The lamp BLINKING with its on phase (R148, R149). -/
def Lamp.blink (p : Lamp) (blinkTimer : Option Timer) : Lamp :=
  { p with state := .blinking, duty := p.dutyProgram, fadeTimer := none, blinkOn := true, blinkTimer := blinkTimer }

/-- The lamp in TEST (R150). -/
def Lamp.test (p : Lamp) : Lamp := { p with state := .test, duty := 64, fadeTimer := none, blinkTimer := none }

/-- A new target below the present duty: a fade begins or restarts, or the target is taken at once with fade n 0 (R146, R147). -/
def Lamp.fall (p : Lamp) (stepTimer : Option Timer) : Lamp :=
  if p.fadeN = 0 then p.steady p.target
  else { p with state := .fading, fade := { d0 := p.duty, dt := p.target, k := 0 }, fadeTimer := stepTimer }

/-- What a lamp does when its link's level changes: the target is written; then the alarm, the rise or the fall of R144 and R148. DESIGN CHOICE (log entries 10 and 12): the alarm is tested first, so a tally change by which the alarm begins makes the lamp BLINKING in one rewrite, without the rise or fall of R145 to R147 before it. -/
def Lamp.levelChange (p : Lamp) (r : LinkRec) (stepTimer blinkTimer : Option Timer) : Lamp :=
  let p' := { p with target := p.targetFor r }
  match p.state with
  | .off => p'
  | .test => p'
  | .steady => if p'.alarms r then p'.blink blinkTimer else if p.duty ≤ p'.target then p'.steady p'.target else p'.fall stepTimer
  | .fading => if p'.alarms r then p'.blink blinkTimer else if p.duty ≤ p'.target then p'.steady p'.target else p'.fall stepTimer
  | .blinking => if p'.alarms r then p' else p'.steady p'.target

/-- What a lamp does when its link's supervision state changes: the alarm condition is tested (R148). -/
def Lamp.alarmTest (p : Lamp) (r : LinkRec) (blinkTimer : Option Timer) : Lamp :=
  match p.state with
  | .off => p
  | .test => p
  | .steady => if p.alarms r then p.blink blinkTimer else p
  | .fading => if p.alarms r then p.blink blinkTimer else p
  | .blinking => if p.alarms r then p else p.steady p.target

/-- A lamp decided afresh: BLINKING if its alarm holds, STEADY at its target otherwise (R143, R151). -/
def Lamp.decided (p : Lamp) (r : LinkRec) (blinkTimer : Option Timer) : Lamp :=
  if p.alarms r then p.blink blinkTimer else p.steady p.target

/-- The lamps in LINK mode naming link l, rising. -/
def State.lampsOf (s : State) (l : Nat) : List Nat :=
  placesWhere 24 fun n => decide ((s.lamp n).mode = .link ∧ (s.lamp n).link = l)

/-- Link l's level as the lamps see it has changed: an applied-tally change or the unbinding (R137, R144). -/
def State.lampLevelChange (s : State) (l : Nat) : State :=
  (s.lampsOf l).foldl (fun s n =>
    s.lampEvent n fun p => p.levelChange (s.link l) (s.timer (p.fadeN * Config.fadeUnitMs)) (s.timer Config.blinkMs)) s

/-- Link l's supervision state has changed (R148). -/
def State.lampStateChange (s : State) (l : Nat) : State :=
  (s.lampsOf l).foldl (fun s n => s.lampEvent n fun p => p.alarmTest (s.link l) (s.timer Config.blinkMs)) s

/-- A lamp test is in progress (R150). -/
def State.testing (s : State) : Bool := s.lamps.testTimer.isSome

/-- A test begins: every lamp whose mode is not OFF becomes TEST (R150). -/
def State.startTest (s : State) : State :=
  forPlaces 24 (fun n s => if (s.lamp n).mode = .off then s else s.rewriteLamp n Lamp.test) s

/-- A test ends: every lamp in TEST is decided afresh (R151). -/
def State.endTest (s : State) : State :=
  let s' := { s with lamps := { s.lamps with testTimer := none } }
  forPlaces 24 (fun n s => if (s.lamp n).state = .test then
    s.rewriteLamp n fun p => p.decided (s.link p.link) (s.timer Config.blinkMs) else s) s'

/-- A written SET_LAMP cancels fade and blink and decides the lamp afresh from its new configuration (R143, R152). -/
def Lamp.configured (p : Lamp) (r : LinkRec) (testing : Bool) (blinkTimer : Option Timer) : Lamp :=
  let p' := { p with target := p.targetFor r }
  if p.mode = .off then { p' with state := .off, target := 0, duty := 0, fadeTimer := none, blinkTimer := none }
  else if testing then p'.test
  else p'.decided r blinkTimer

/-- The duty of a fade after k steps (R146). -/
def Fade.dutyAt (f : Fade) (k : Nat) : Nat := f.dt + (f.d0 - f.dt) * (8 - k) / 8

/-- A fade step (R146): after step 8 the lamp is STEADY at the target. -/
def Lamp.fadeStep (p : Lamp) (stepTimer : Option Timer) : Lamp :=
  let k := p.fade.k + 1
  let d := p.fade.dutyAt k
  if k < 8 then { p with duty := d, fade := { p.fade with k := k }, fadeTimer := stepTimer }
  else { p with state := .steady, duty := d, fade := { p.fade with k := k }, fadeTimer := none }

/-- A blink switches phase (R149). -/
def Lamp.blinkStep (p : Lamp) (blinkTimer : Option Timer) : Lamp :=
  { p with duty := if p.blinkOn then 0 else p.dutyProgram, blinkOn := !p.blinkOn, blinkTimer := blinkTimer }

/-- The output takes over duty, polarity and mode at a period start; the pin is active from it when the output duty is not 0 (R142). -/
def Lamp.periodStart (p : Lamp) : Lamp :=
  let off := decide (p.mode = .off)
  { p with outOff := off, outDuty := p.duty, outInverted := p.inverted
           pin := xor p.inverted (!off && decide (p.duty ≠ 0)) }

/-- After the output duty's steps the pin goes inactive, unless the duty fills the period (R142). -/
def Lamp.activeEnd (p : Lamp) : Lamp :=
  if p.outOff ∨ 64 ≤ p.outDuty then p else { p with pin := p.outInverted }

end Sys2Proof.Machine
end

