-- ==== Sys2Proof/Machine/Bus.lean ====
section
/-! DEFINITION. The unit bus: frames and replies, the unit table, the arbiter and the poller (chapter 4). What the originators do with a result is in their own files. -/

namespace Sys2Proof.Machine

/-! ## Request frames (R59, R60, R198) -/

/-- The command byte. -/
def BusCmd.byte : BusCmd → Byte
  | .query => 0x01
  | .tuneLocal _ _ => 0x02
  | .tuneFar _ _ => 0x03
  | .muteLocal _ _ => 0x04
  | .tally _ _ => 0x05
  | .probeTune _ _ => 0x06

/-- A two-byte field, high byte first. -/
def twoBytes (v : Nat) : List Byte := [BitVec.ofNat 8 (v / 256), BitVec.ofNat 8 v]

/-- The payload of a request. -/
def BusCmd.payload : BusCmd → List Byte
  | .query => []
  | .tuneLocal ch code => BitVec.ofNat 8 ch :: twoBytes code
  | .tuneFar ch code => BitVec.ofNat 8 ch :: twoBytes code
  | .muteLocal ch on => [BitVec.ofNat 8 ch, if on then 1 else 0]
  | .tally ch level => [BitVec.ofNat 8 ch, BitVec.ofNat 8 level.ctorIdx]
  | .probeTune src code => BitVec.ofNat 8 src.ctorIdx :: twoBytes code

/-- A frame: address, command, length, payload and the exclusive OR of them all (R59). -/
def busFrame (address command : Byte) (payload : List Byte) : List Byte :=
  let bs := address :: command :: BitVec.ofNat 8 payload.length :: payload
  bs ++ [xorBytes bs]

/-- The request frame of a command to a unit. -/
def BusCmd.frame (cmd : BusCmd) (unit : Nat) : List Byte := busFrame (BitVec.ofNat 8 unit) cmd.byte cmd.payload

/-! ## Replies (R59, R61, R62) -/

/-- The reply kinds. -/
inductive ReplyKind where
  | status | ack | nak
  deriving DecidableEq, Repr

/-- The reply kind of a command byte. -/
def replyKindOf (b : Byte) : Option ReplyKind :=
  if b = 0x41 then some .status else if b = 0x42 then some .ack else if b = 0x43 then some .nak else none

/-- The payload length of a reply kind (R61). -/
def ReplyKind.length : ReplyKind → Nat
  | .status => 20
  | .ack => 0
  | .nak => 0

/-- A request accepts STATUS for a QUERY, ACK for every other command, and NAK always (R61). -/
def BusCmd.accepts (cmd : BusCmd) : ReplyKind → Bool
  | .status => decide (cmd = .query)
  | .ack => decide (cmd ≠ .query)
  | .nak => true

/-- What the bytes collected so far make of a reply. -/
inductive Judgement where
  | incomplete
  | garbled
  | good (kind : ReplyKind) (payload : List Byte)
  deriving DecidableEq, Repr

/-- The reply judged byte by byte, the first failing check making it garbled (R59, R62). -/
def Tx.judge (tx : Tx) : List Byte → Judgement
  | [] => .incomplete
  | a :: bs =>
    if a ≠ BitVec.ofNat 8 tx.unit + 0x80 then .garbled
    else match bs with
      | [] => .incomplete
      | c :: bs =>
        match replyKindOf c with
        | none => .garbled
        | some k =>
          if !tx.cmd.accepts k then .garbled
          else match bs with
            | [] => .incomplete
            | n :: bs =>
              if n.toNat ≠ k.length then .garbled
              else if bs.length ≤ k.length then .incomplete
              else if bs[k.length]? = some (xorBytes (a :: c :: n :: bs.take k.length)) then .good k (bs.take k.length)
              else .garbled

/-- One channel report of a STATUS (R61). -/
structure Report where
  lock : Bool
  far : Bool
  muted : Bool
  rf : Nat
  battery : Nat
  tuned : Nat
  deriving DecidableEq, Repr

/-- The report of channel ch in a STATUS payload (R61, R198). -/
def reportAt (payload : List Byte) (ch : Nat) : Report :=
  let b (k : Nat) : Byte := payload.getD (5 * ch + k) 0
  { lock := (b 0).getLsbD 0, far := (b 0).getLsbD 1, muted := (b 0).getLsbD 2, rf := (b 1).toNat, battery := (b 2).toNat,
    tuned := 256 * (b 3).toNat + (b 4).toNat }

/-! ## The unit table (R67 to R69) -/

/-- A valid reply from a unit that is not UNUSED: PRESENT, misses 0, the good-reply count incremented for a good reply (R68). -/
def State.unitReplied (s : State) (a : Nat) (good : Bool) : State :=
  let u := s.unit a
  if u.state = .unused then s
  else s.setUnit a { u with state := .present, misses := 0, good := if good then u.good + 1 else u.good }

/-- A failed transaction to a unit that is not UNUSED; `miss` when its second attempt was garbled or missing (R68). -/
def State.unitFailed (s : State) (a : Nat) (miss : Bool) : State :=
  let u := s.unit a
  if u.state = .unused then s
  else
    let m := if miss then satInc u.misses else u.misses
    s.setUnit a { u with misses := m, failed := satInc u.failed, state := if miss ∧ 2 ≤ m.toNat then .missing else u.state }

/-- A unit named by a binding or by SET_PROBE becomes UNKNOWN with its role, from UNUSED (R69). -/
def State.unitReferred (s : State) (a : Nat) (role : Role) : State :=
  if (s.unit a).state = .unused then s.setUnit a { UnitRec.unused with state := .unknown, role := role } else s

/-- A unit becomes UNUSED (R67, R69). -/
def State.unitReleased (s : State) (a : Nat) : State := s.setUnit a UnitRec.unused

/-- A unit is eligible for polling (R72). -/
def UnitRec.eligible (u : UnitRec) : Bool := decide (u.state ≠ .unused ∧ u.role = .link)

/-! ## The poller (R72) -/

/-- The eligible unit with the lowest address above the cursor, wrapping. -/
def State.nextPolled (s : State) : Option Nat :=
  let es := (placesWhere 16 fun i => (s.unit (i + 1)).eligible).map (· + 1)
  match es.find? fun a => decide (s.bus.cursor < a) with
  | some a => some a
  | none => es.head?

/-- The poller chooses: it offers a QUERY for the next unit, or becomes IDLE. -/
def State.pollChoose (s : State) : State :=
  match s.nextPolled with
  | some a => { s with bus := { s.bus with poll := .asking, cursor := a, gapTimer := none, pollOffer := some a } }
  | none => { s with bus := { s.bus with poll := .idle, gapTimer := none, pollOffer := none } }

/-- A unit became eligible: an IDLE poller chooses at once. -/
def State.pollWake (s : State) : State := if s.bus.poll = .idle then s.pollChoose else s

/-- Unit a stopped being eligible: a waiting QUERY for it is withdrawn and the poller chooses again at once. -/
def State.pollDrop (s : State) (a : Nat) : State := if s.bus.pollOffer = some a then s.pollChoose else s

/-- The poller's QUERY ended: the gap timer starts, a gap of 0 ending at once. -/
def State.pollEnded (s : State) : State :=
  if s.bus.pollGap = 0 then s.pollChoose
  else { s with bus := { s.bus with poll := .gap, gapTimer := s.timer s.bus.pollGap } }

/-! ## The transaction in flight (R63, R66) -/

/-- The transaction in flight, if it is originator o's, is marked by f. -/
def State.markInFlight (s : State) (o : Originator) (f : Tx → Tx) : State :=
  { s with bus := { s.bus with inFlight := s.bus.inFlight.map fun t => if t.orig = o then f t else t } }

/-- Originator o's instance has ended: its transaction in flight reports its end to no originator (R66). -/
def State.endInstance (s : State) (o : Originator) : State := s.markInFlight o fun t => { t with live := false }

/-- The transaction in flight is a live one of originator o. -/
def State.inFlightOf (s : State) (o : Originator) : Bool :=
  match s.bus.inFlight with
  | none => false
  | some t => decide (t.orig = o) && t.live

/-- What the part drives onto the unit bus k bit times after it has begun the attempt: the bits of the request frame while it is SENDING; none where the line is released, as it is from the end of the frame's last stop bit (R58). -/
def Bus.drives (b : Bus) (k : Nat) : Option Bool :=
  match b.state with
  | .sending => match b.inFlight with
    | some tx => (frameBits tx.frame)[k]?
    | none => none
  | .idle => none
  | .listening => none
  | .draining => none

/-! ## The arbiter (R64, R65) -/

/-- Link l is a head-tally waiter (R65, R138). -/
def State.headWaits (s : State) (l : Nat) : Bool :=
  decide ((s.link l).state ≠ .vacant ∧ (s.link l).kind = .camera ∧ (look s.tally.links l).head = .waiting)

/-- A transaction is granted: its frame is built from the originator's values now and the controller sends it (R63). -/
def State.grant (s : State) (o : Originator) (unit : Nat) (cmd : BusCmd) : State :=
  { s with bus := { s.bus with
      state := .sending
      reply := []
      window := none
      inFlight := some { orig := o, unit := unit, cmd := cmd, frame := cmd.frame unit, attempt := 1, live := true, discarded := false } } }

/-- The waiting transaction the arbiter chooses: head tally by link, moves by context, the link supervisor's by link, the probe's, the poller's (R64, R65). -/
def State.firstWaiter (s : State) : Option (Originator × Nat × BusCmd) :=
  match (placesWhere 32 s.headWaits).head? with
  | some l => some (.head l, (s.link l).unit, .tally (s.link l).channel (s.link l).applied)
  | none =>
    match (placesWhere 4 fun c => (s.ctx c).offer.isSome).head? with
    | some c => some (.ctx c, (s.link (s.ctx c).link).unit, (s.ctx c).offer.getD .query)
    | none =>
      match (placesWhere 32 fun l => (s.link l).offer.isSome).head? with
      | some l => some (.link l, (s.link l).unit, (s.link l).offer.getD .query)
      | none =>
        match s.probe.offer, s.bus.pollOffer with
        | some (src, code), _ => some (.probe, s.probe.unit, .probeTune src code)
        | none, some a => some (.poller, a, .query)
        | none, none => none

/-- The chosen transaction leaves the waiting set; a head-tally link becomes SENDING (R64, R138). -/
def State.leaveWaiting (s : State) (o : Originator) : State :=
  match o with
  | .head l => { s with tally := { s.tally with links := adjust s.tally.links l fun t => { t with head := .sending } } }
  | .ctx c => s.touchCtx c fun x => { x with offer := none }
  | .link l => s.touchLink l fun r => { r with offer := none }
  | .probe => { s with probe := { s.probe with offer := none } }
  | .poller => { s with bus := { s.bus with pollOffer := none } }

/-- An IDLE controller grants the line to the first waiter, if any (R64). DESIGN CHOICE (log entry 29): it does so at the end of a step, so offers made in one step on an IDLE line are ranked together. -/
def State.arbitrate (s : State) : State :=
  if s.bus.state = .idle then
    match s.firstWaiter with
    | some (o, unit, cmd) => (s.leaveWaiting o).grant o unit cmd
    | none => s
  else s

end Sys2Proof.Machine
end

