-- ==== Sys2Proof/Machine/Probe.lean ====
section
/-! DEFINITION. The occupancy probe: phases, counting windows, levels, sweeps and holds (chapter 3). -/

namespace Sys2Proof.Machine

/-- The probe's fields changed. -/
def State.setProbe (s : State) (f : Probe → Probe) : State := { s with probe := f s.probe }

/-- A sweep exists (R49). -/
def Probe.sweeping (p : Probe) : Bool := decide (p.state ≠ .idle)

/-- A hold is in force (R54). -/
def Probe.holding (p : Probe) : Bool := p.hostHold || p.autoHold

/-- A phase begins: its PROBE_TUNE waits for the arbiter (R45, R46). -/
def Probe.beginPhase (p : Probe) (k : PhaseKind) : Probe :=
  match k with
  | .reference => { p with state := .calibrating, phase := k, settleTimer := none, window := none, offer := some (.reference, 0) }
  | .sample => { p with state := .tuning, phase := k, settleTimer := none, window := none, offer := some (.antenna, 8 * p.cur + 4) }

/-- The phase in progress is discarded: the window with its counts, the settle timer and the waiting transaction are dropped (R54). DESIGN CHOICE (log entry 7): dropped counts read 0. -/
def Probe.discard (p : Probe) : Probe := { p with settleTimer := none, window := none, pulses := 0, ticks := 0, offer := none }

/-- A counting window opens at settle expiry: both counters are cleared, and a sample takes T_ref and N_ref from the record (R43 to R46). -/
def Probe.openWindow (p : Probe) : Probe :=
  let q := { p with settleTimer := none, pulses := 0, ticks := 0 }
  match p.phase with
  | .reference => { q with window := some { phase := .reference, tref := p.cal.tref, nref := p.nref } }
  | .sample => { q with state := .sampling, window := some { phase := .sample, tref := p.cal.tref, nref := p.cal.nrefUsed } }

/-- The level of a count C under N_ref (R47). -/
def levelOf (c nref : Nat) : Nat := clamp 1 255 ((64 * c + nref / 2) / nref)

/-- A sweep ends: the fault is set where the ending says so, the host hold is cleared, the probe becomes IDLE and the slot completes (R55). -/
def State.endSweep (s : State) (r : Result) (fault : Bool) : State :=
  let p := s.probe
  let s1 := (s.setProbe fun p => { p.discard with state := .idle, hostHold := false, slot := none, fault := p.fault || fault }).raise .probe
  let s2 := s1.endInstance .probe
  match p.slot with
  | none => s2
  | some n => s2.complete n r ([(6, resultNat p.measured), (7, resultOpt p.lastBin)] ++ result32 8 (BitVec.ofNat 32 p.cal.tref))

/-- A reference phase completes at tick t: the calibration record is written and a sample phase begins (R45, R51). -/
def State.referenceComplete (s : State) (t : Nat) : State :=
  (s.setProbe fun p =>
    { p with cal := { tref := max 1 t, nrefUsed := p.nref, time := s.now }, sinceRef := 0 }.beginPhase .sample).occupancyRewrite

/-- The tick counter reached its largest value in a reference phase (R45, R55). -/
def State.referenceTooSlow (s : State) : State := s.endSweep .probeFault true

/-- A sample of the current bin completes with a level: level and own-mark are written and the sweep goes on (R48, R51). -/
def State.sampleComplete (s : State) (level : Nat) : State :=
  let s1 := (s.setProbe fun p =>
    { p with levels := p.levels.put 0 p.cur level
             ownMarks := p.ownMarks.put false p.cur (binCovered s.plan.entries none p.cur)
             lastBin := some p.cur, measured := p.measured + 1, sinceRef := p.sinceRef + 1, window := none }).occupancyRewrite
  if s1.probe.cur = s1.probe.hi then s1.endSweep (okOrClamped s1.probe.clamped) false
  else s1.setProbe fun p =>
    let p' := { p with cur := p.cur + 1 }
    p'.beginPhase (if p'.recal ≤ p'.sinceRef then .reference else .sample)

/-- The tick counter at an event, never behind what it showed before. -/
def Probe.ticksAt (p : Probe) (tick : Nat) : Nat := max p.ticks tick

/-- The open window counts a pulse at tick t (R43). -/
def Probe.countPulse (p : Probe) (t : Nat) : Probe := { p with pulses := p.pulses + 1, ticks := t }

/-- T_ref ticks have passed in the sample window w: the sample completes with the level of the count (R46, R47). -/
def State.sampleTimeUp (s : State) (w : Window) : State :=
  (s.setProbe fun p => { p with ticks := w.tref }).sampleComplete (levelOf s.probe.pulses w.nref)

/-- A pulse on the probe pulse input when the tick counter reads `tick` (R43 to R46). DESIGN CHOICE (log entry 7): the counters keep what they show as a window completes until the next one clears them. -/
def State.probePulse (s : State) (tick : Nat) : State :=
  match s.probe.window with
  | none => s
  | some w =>
    let t := s.probe.ticksAt tick
    let counted := s.setProbe fun p => p.countPulse t
    match w.phase with
    | .reference =>
      if Config.probeCounterMax ≤ t then s.referenceTooSlow
      else if w.nref ≤ counted.probe.pulses then counted.referenceComplete t
      else counted
    | .sample =>
      if w.tref ≤ t then s.sampleTimeUp w
      else if Config.probeCounterMax ≤ counted.probe.pulses then counted.sampleComplete 255
      else counted

/-- The tick counter reaches 1,048,575 in an open reference window (R45). -/
def State.referenceTimeout (s : State) : State :=
  match s.probe.window with
  | none => s
  | some w => match w.phase with
    | .reference => s.referenceTooSlow
    | .sample => s

/-- The tick counter reaches T_ref in an open sample window (R46, R47). -/
def State.sampleWindowEnd (s : State) : State :=
  match s.probe.window with
  | none => s
  | some w => match w.phase with
    | .reference => s
    | .sample => s.sampleTimeUp w

/-- The settle timer expires (R45, R46). -/
def State.settleExpiry (s : State) : State := s.setProbe Probe.openWindow

/-- The probe's PROBE_TUNE ended: an ACK starts the settle timer unless the transaction was discarded; a failure ends the sweep (R45, R46, R54, R55). -/
def State.probeTuneEnded (s : State) (ok discarded : Bool) : State :=
  if !s.probe.sweeping then s
  else if !ok then s.endSweep .unitFailed true
  else if discarded then s
  else if s.probe.settle = 0 then s.settleExpiry
  else s.setProbe fun p => { p with settleTimer := s.timer p.settle }

/-- A hold flag has just been set: a sweep that is not HELD discards its phase and enters HELD (R54). -/
def State.holdEffect (s : State) : State :=
  if s.probe.sweeping ∧ s.probe.state ≠ .held then
    (s.setProbe fun p => { p.discard with state := .held }).markInFlight .probe fun t => { t with discarded := true }
  else s

/-- A hold flag has just been cleared: with no hold left, a HELD sweep begins its discarded phase again (R54). -/
def State.releaseEffect (s : State) : State :=
  if s.probe.state = .held ∧ !s.probe.holding then s.setProbe fun p => p.beginPhase p.phase else s

/-- The retuning phases, during which a link is MOVING (R52, R111). -/
def Phase.retuning : Phase → Bool
  | .free => false
  | .seeking => false
  | .held => false
  | .muting => true
  | .tuneFar => true
  | .tuneLocal => true
  | .confirm => true
  | .revertFar => true
  | .revertLocal => true
  | .revertConfirm => true
  | .unmuting => true

/-- Some move context is in a retuning phase (R52). -/
def State.retuning (s : State) : Bool := (List.range 4).any fun c => (s.ctx c).phase.retuning

/-- The move controller tells the probe that a context entered or left the retuning phases (R52). -/
def State.updateAutoHold (s : State) : State :=
  if s.retuning = s.probe.autoHold then s
  else
    let s1 := (s.setProbe fun p => { p with autoHold := s.retuning }).raise .probe
    if s.retuning then s1.holdEffect else s1.releaseEffect

end Sys2Proof.Machine
end

