-- ==== Sys2Proof/Machine/Tally.lean ====
section
/-! DEFINITION. The tally resolver's own state: source tables, pending tally and head-tally states (chapter 8). Frame events stand in Machine/Frame.lean. -/

namespace Sys2Proof.Machine

/-- The place of source s of table t (R125). -/
def sourcePlace (t s : Nat) : Nat := 64 * t + s - 1

/-- The order of the tally levels (5.1). -/
def Tally.max (x y : Tally) : Tally := if x.ctorIdx < y.ctorIdx then y else x

/-- What the resolver holds for link l. -/
def State.linkTally (s : State) (l : Nat) : LinkTally := look s.tally.links l

/-- What the resolver holds for link l changed. -/
def State.setLinkTally (s : State) (l : Nat) (f : LinkTally → LinkTally) : State :=
  { s with tally := { s.tally with links := adjust s.tally.links l f } }

/-- The level an override forces (R129). -/
def Override.level : Override → Option Tally
  | .none => Option.none
  | .forceOff => some .off
  | .forceIso => some .iso
  | .forcePreview => some .preview
  | .forceProgram => some .program

/-- The pending tally of a link with an override and a source list (R129). -/
def State.pendingFor (s : State) (o : Override) (sources : List (Nat × Nat)) : Tally :=
  match o.level with
  | some t => t
  | none => sources.foldl (fun m x => m.max (look s.tally.sources (sourcePlace x.1 x.2))) .off

/-- Link l's pending tally recomputed (R130). -/
def State.recomputePending (s : State) (l : Nat) : State :=
  s.setLinkTally l fun t => { t with pending := s.pendingFor t.override (s.link l).sources }

/-- The bound links, rising, whose source list satisfies p, recomputed. -/
def State.recomputeWhere (s : State) (p : List (Nat × Nat) → Bool) : State :=
  (placesWhere 32 fun l => decide ((s.link l).state ≠ .vacant) && p (s.link l).sources).foldl (fun s l => s.recomputePending l) s

/-- A tally frame's level written into its source entry (R126). -/
def State.writeSource (s : State) (line source : Nat) (t : Tally) : State :=
  if look s.tally.sources (sourcePlace line source) = t then s
  else
    let s1 := { s with tally := { s.tally with sources := put s.tally.sources (sourcePlace line source) t } }
    s1.tallyRewrite.recomputeWhere fun l => l.contains (line, source)

/-- A whole table set to OFF (R127). -/
def State.clearTable (s : State) (line : Nat) : State :=
  if (placesWhere 128 fun i => decide (i / 64 = line ∧ look s.tally.sources i ≠ .off)).isEmpty then s
  else
    let s1 := { s with tally := { s.tally with sources := mapTable (fun i t => if i / 64 = line then .off else t) s.tally.sources } }
    s1.tallyRewrite.recomputeWhere fun l => l.any fun x => decide (x.1 = line)

/-- A link's head-tally state becomes h; a change of the HEAD_TALLY_PENDING flag is a rewrite of the link record (R138). -/
def State.setHead (s : State) (l : Nat) (h : Head) : State :=
  let s1 := s.setLinkTally l fun t => { t with head := h }
  if (s.link l).headPending = decide (h ≠ .idle) then s1
  else s1.rewriteLink l fun r => { r with headPending := decide (h ≠ .idle) }

/-- A change of applied tally reaches the head tally of a CAMERA link (R138). -/
def State.headChange (s : State) (l : Nat) : State :=
  if (s.linkTally l).head = .idle then s.setHead l .waiting else s

/-- A head TALLY command that carried a level ended (R139, R140). -/
def State.headEnded (s : State) (l : Nat) (carried : Tally) (ok : Bool) : State :=
  if !ok then s.setHead l .deferred
  else if (s.link l).applied = carried then s.setHead l .idle
  else s.setHead l .waiting

/-- A binding commits: override NONE, the pending tally computed, and a CAMERA link's head tally WAITING (R128). -/
def State.tallyBind (s : State) (l : Nat) : State :=
  let s1 := (s.setLinkTally l fun _ => LinkTally.vacant).recomputePending l
  if (s.link l).kind = .camera then s1.setHead l .waiting else s1

/-- A link is unbound: override NONE, pending OFF, head-tally state IDLE (R128). DESIGN CHOICE (log entry 10): the flag HEAD_TALLY_PENDING is not rewritten here; the one rewrite by which the record becomes VACANT clears it (R138). -/
def State.tallyUnbind (s : State) (l : Nat) : State := s.setLinkTally l fun _ => LinkTally.vacant

end Sys2Proof.Machine
end

