-- ==== Sys2Proof/Machine/Links.lean ====
section
/-! DEFINITION. The link supervisor's own steps: changes of a link record and who is told, timers, the judgement of a report, bindings and the resent unmute (chapter 5). -/

namespace Sys2Proof.Machine

/-- The states whose entry stops the weak, loss and rescue timers (R84). -/
def LinkState.stopsTimers : LinkState → Bool
  | .moving => true
  | .mistuned => true
  | .unitMissing => true
  | .adrift => true
  | .vacant => true
  | .bound => false
  | .live => false
  | .weak => false
  | .lost => false

/-- The timers a link may keep in its state: none in the states of R84, and a rescue timer or wait only in WEAK (R83, R84, R87); a bar on its rescues ends as it leaves WEAK (R88). -/
def LinkRec.trimTimers (r : LinkRec) : LinkRec :=
  let r1 := if r.state.stopsTimers then { r with weakTimer := none, lossTimer := none } else r
  if r1.state = .weak then r1 else { r1 with rescueTimer := .stopped, rescueBarred := false }

/-- A rewrite of link l's record that may change its supervision state: a change is handed to the talkback controller and the lamp driver (R148, R166). The move controller's test stands in `State.linkChange`. -/
def State.linkCore (s : State) (l : Nat) (f : LinkRec → LinkRec) : State :=
  let s1 := s.rewriteLink l fun r => (f r).trimTimers
  if (s1.link l).state = (s.link l).state then s1 else (s1.talkLinkChange l).lampStateChange l

/-- The bound links of unit a, rising. -/
def State.linksOfUnit (s : State) (a : Nat) : List Nat :=
  placesWhere 32 fun l => decide ((s.link l).state ≠ .vacant ∧ (s.link l).unit = a)

/-- The code of link l's origin entry. -/
def State.originCode (s : State) (l : Nat) : Nat := (s.entry (s.link l).originEntry).code

/-- The code of link l's target entry. -/
def State.linkTargetCode (s : State) (l : Nat) : Option Nat := (s.link l).targetEntry.map fun n => (s.entry n).code

/-- A report's fields written into a record (R74, R82). -/
def LinkRec.withReport (r : LinkRec) (p : Report) : LinkRec :=
  { r with rfLevel := p.rf, battery := p.battery, tuned := some (min 65534 p.tuned), lock := p.lock, farPresent := p.far, localMuted := p.muted }

/-- The judgement of lock and level with the tuned code equal to the origin code (R83). -/
def LinkRec.judgeLevel (r : LinkRec) (p : Report) (weak loss : Option Timer) : LinkRec :=
  if p.lock then
    if r.options.rfThreshold ≤ p.rf then { r with state := .live, weakTimer := none, lossTimer := none }
    else
      match r.state with
      | .live => { r with weakTimer := timerKeep r.weakTimer weak, lossTimer := none }
      | .weak => { r with weakTimer := none, lossTimer := none }
      | .bound => { r with weakTimer := timerKeep r.weakTimer weak, lossTimer := none }
      | .lost => { r with state := .bound, weakTimer := timerKeep r.weakTimer weak, lossTimer := none }
      | .mistuned => { r with state := .bound, weakTimer := timerKeep r.weakTimer weak, lossTimer := none }
      | .unitMissing => { r with state := .bound, weakTimer := timerKeep r.weakTimer weak, lossTimer := none }
      | .vacant => r
      | .moving => r
      | .adrift => r
  else
    match r.state with
    | .live => { r with weakTimer := none, lossTimer := timerKeep r.lossTimer loss }
    | .weak => { r with weakTimer := none, lossTimer := timerKeep r.lossTimer loss }
    | .bound => { r with weakTimer := none, lossTimer := timerKeep r.lossTimer loss }
    | .lost => { r with weakTimer := none, lossTimer := none }
    | .mistuned => { r with state := .bound, weakTimer := none, lossTimer := loss }
    | .unitMissing => { r with state := .bound, weakTimer := none, lossTimer := loss }
    | .vacant => r
    | .moving => r
    | .adrift => r

/-- The judgement of a report: the tuned code first, then lock and level (R82, R83). -/
def LinkRec.judge (r : LinkRec) (p : Report) (origin : Nat) (weak loss : Option Timer) : LinkRec :=
  let r1 := r.withReport p
  if p.tuned = origin then { r1 with mistuned := false }.judgeLevel p weak loss
  else { r1 with state := .mistuned, mistuned := true }

/-! ## Contexts of a link and the rescue timer (R87) -/

/-- The move context of link l, if it has one. -/
def State.ctxOf (s : State) (l : Nat) : Option Nat :=
  (placesWhere 4 fun c => decide ((s.ctx c).phase ≠ .free ∧ (s.ctx c).link = l)).head?

/-- The lowest-numbered FREE context (R94). -/
def State.freeCtx (s : State) : Option Nat := (placesWhere 4 fun c => decide ((s.ctx c).phase = .free)).head?

/-- The rescue timer starts for a WEAK link with rescue AUTO and no move context (R87). DEDUCED (log entry 26): at each of the events R87 names, also where rescues of the link are barred (R88); its expiry then starts none. -/
def State.startRescue (s : State) (l : Nat) : State :=
  let r := s.link l
  if r.state = .weak ∧ r.options.rescue ∧ (s.ctxOf l).isNone then
    s.touchLink l fun r => { r with rescueTimer := match s.timer r.options.rescueTime with
      | some t => .running t
      | none => .stopped }
  else s

/-! ## Bindings (R77 to R79) -/

/-- The binding of link l that is tuning: past its plan job's commit. -/
def State.tuning (s : State) (l : Nat) : Bool := s.links.bindings.any fun b => decide (b.link = l ∧ b.stage ≠ .seeking)

/-- The bindings changed. -/
def State.mapBindings (s : State) (f : List Binding → List Binding) : State :=
  { s with links := { s.links with bindings := f s.links.bindings } }

/-- The binding of link l changed. -/
def State.setBinding (s : State) (l : Nat) (f : Binding → Binding) : State :=
  s.mapBindings fun bs => bs.map fun b => if b.link = l then f b else b

/-- A binding in progress ends and its claims are released. -/
def State.dropBinding (s : State) (l : Nat) : State := s.mapBindings fun bs => bs.filter fun b => decide (b.link ≠ l)

/-- A link supervisor transaction for link l is offered to the arbiter (R65). -/
def State.offerLink (s : State) (l : Nat) (cmd : BusCmd) : State := s.touchLink l fun r => { r with offer := some cmd }

/-- The record a binding writes at its commit (R78). -/
def Binding.record (b : Binding) (unitMissing : Bool) (edition : Word) : LinkRec :=
  { LinkRec.vacant with
    state := if unitMissing then .unitMissing else .bound
    kind := b.kind, studio := b.studio, unit := b.unit, channel := b.channel, output := b.output, originEntry := b.entry
    options := b.options, sources := b.sources, edition := edition }

/-- The result words of a BIND_LINK that reached its plan job (R79, R195). -/
def bindWords (entry code : Option Nat) (examined : Nat) (reason : Option Reason) (cause : Cause) : List (Nat × Word) :=
  [(8, resultOpt entry), (9, resultOpt code), (10, resultNat examined), (11, resultOpt (reason.map (·.ctorIdx))), (12, resultNat cause.ctorIdx)]

/-- The plan job of a binding commits: the record is written, the claims become the binding and TUNE_FAR is offered (R78, R79). DESIGN CHOICE (log entry 29): on an IDLE line the offers made in this one step (the woken poller's QUERY, the head TALLY, TUNE_FAR) take part in one grant at its end, ranked by R64, whichever was made first. -/
def State.bindingCommit (s : State) (l entry code examined : Nat) (reason : Option Reason) : State :=
  match s.links.bindings.find? fun b => decide (b.link = l) with
  | none => s
  | some b0 =>
    let b := { b0 with stage := .tuneFar, entry := entry, code := code, examined := examined, reason := reason }
    let s1 := s.setBinding l fun _ => b
    let missing := decide ((s1.unit b.unit).state = .missing)
    let s2 := s1.rewriteLink l fun r => b.record missing r.edition
    let s3 := (s2.unitReferred b.unit .link).pollWake
    ((s3.tallyBind l).duckBind l).offerLink l (.tuneFar b.channel code)

/-- A binding's tune ended: TUNE_LOCAL follows TUNE_FAR, and after TUNE_LOCAL the slot completes (R79). -/
def State.bindingTuned (s : State) (b : Binding) (ok : Bool) (cause : Cause) : State :=
  let c := if ok then Cause.none else cause
  match b.stage with
  | .seeking => s
  | .tuneFar => (s.setBinding b.link fun b => { b with stage := .tuneLocal, farCause := c }).offerLink b.link (.tuneLocal b.channel b.code)
  | .tuneLocal =>
    let r := if !ok then Result.unitFailed else if b.farCause ≠ .none then .partialBind else okOrClamped b.clamped
    (s.dropBinding b.link).complete b.slot r (bindWords (some b.entry) (some b.code) b.examined b.reason (if ok then b.farCause else c))

/-- A plan job of a binding ended without a commit: the claims are released and the slot completes (R78). -/
def State.bindingFailed (s : State) (slot l : Nat) (r : Result) (examined : Nat) (reason : Option Reason) : State :=
  (s.dropBinding l).complete slot r (bindWords none none examined reason .none)

/-! ## The resent unmute (R86) -/

/-- MUTE_PENDING cleared, a waiting unmute withdrawn and one in flight disregarded (R86). -/
def State.dropUnmute (s : State) (l : Nat) : State :=
  (s.touchLink l fun r => { r with offer := none }).endInstance (.link l)

/-- A link supervisor transaction of link l ended: a binding's tune, or the unmute under MUTE_PENDING (R79, R86). -/
def State.linkTxEnded (s : State) (l : Nat) (ok : Bool) (cause : Cause) : State :=
  match s.links.bindings.find? fun b => decide (b.link = l ∧ b.stage ≠ .seeking) with
  | some b => s.bindingTuned b ok cause
  | none => if ok ∧ (s.link l).mutePending then s.rewriteLink l fun r => { r with mutePending := false } else s

/-- The good-reply notice at the link supervisor: each link of the unit with MUTE_PENDING offers MUTE_LOCAL off (R86). -/
def State.unmuteNotice (s : State) (a : Nat) : State :=
  (s.linksOfUnit a).foldl (fun s l =>
    if (s.link l).mutePending ∧ (s.link l).offer.isNone ∧ !s.inFlightOf (.link l) then s.offerLink l (.muteLocal (s.link l).channel false) else s) s

/-- The good-reply notice at the tally resolver: DEFERRED links of the unit become WAITING (R140). -/
def State.headNotice (s : State) (a : Nat) : State :=
  (s.linksOfUnit a).foldl (fun s l => if (s.linkTally l).head = .deferred then s.setHead l .waiting else s) s

end Sys2Proof.Machine
end

