-- ==== Sys2Proof/Machine/Moves.lean ====
section
/-! DEFINITION. The move controller: contexts, phases, the end of a move, ABORT, and the rescues that open contexts (chapter 6, R87 to R90). -/

namespace Sys2Proof.Machine

/-! ## Opening a context (R94, R96) -/

/-- The plan job of a move (R37): the half-width and left-out entry are those of the link's origin. -/
def moveJob (c : Nat) (l : Nat) (t : Target) (force : Bool) (o : Options) : Job :=
  { source := .move c
    work := match t with
      | .code x => .check x force
      | .auto k st lim => .search { lo := o.searchLo, hi := o.searchHi, step := k, start := st, limit := lim }
    kind := .link, width := 0, linkKind := .mic, link := some l, clamped := false }

/-- What a move is opened with (R93, R94). -/
structure MoveReq where
  link : Nat
  slot : Option Nat
  origin : MoveOrigin
  target : Target
  urgent : Bool
  manualGo : Bool
  force : Bool
  override : Bool
  clamped : Bool
  deriving DecidableEq, Repr

/-- A context in SEEKING. -/
def MoveReq.context (m : MoveReq) (edition : Word) : Ctx :=
  { Ctx.free with
    phase := .seeking, link := m.link, slot := m.slot, origin := m.origin, target := m.target, urgent := m.urgent,
    manualGo := m.manualGo, force := m.force, override := m.override, clamped := m.clamped, edition := edition }

/-- Context c is opened: it enters SEEKING, its plan job joins the list, and the link's rescue timer or wait ends (R94, R96). -/
def State.openCtx (s : State) (c : Nat) (m : MoveReq) : State :=
  ((s.rewriteCtx c fun x => m.context x.edition).touchLink m.link fun r => { r with rescueTimer := .stopped }).pushJob
    (moveJob c m.link m.target m.force (s.link m.link).options)

/-! ## Rescues (R88, R89) -/

/-- A rescue starts in context c: the counts are written and the context opened with target AUTO (R88). -/
def State.startRescueMove (s : State) (c l : Nat) : State :=
  (s.rewriteLink l fun r => { r with rescueCount := satInc r.rescueCount, lastRescue := some s.now }).openCtx c
    { link := l, slot := none, origin := .rescue, target := .auto 1 (s.link l).options.searchLo 12800, urgent := false, manualGo := false,
      force := false, override := false, clamped := false }

/-- The rescue timer of link l set. -/
def State.setRescue (s : State) (l : Nat) (t : RescueTimer) : State := s.touchLink l fun r => { r with rescueTimer := t }

/-- A rescue timer of len ms from now. -/
def State.rescueIn (s : State) (len : Nat) : RescueTimer := .running { start := s.now, len := len }

/-- The ms of the backoff still to pass for link l; 0 when it has passed or no rescue has started (R88). -/
def State.backoffLeft (s : State) (l : Nat) : Nat :=
  match (s.link l).lastRescue with
  | none => 0
  | some t => (s.link l).options.backoff - elapsed t s.now

/-- The tests of a rescue start, in their order (R88). A locked origin bars the link's rescues until it leaves WEAK. DEDUCED (log entry 26): a barred link is answered where the locked origin is, its timer stopped. -/
def State.attemptRescue (s : State) (l : Nat) : State :=
  if s.tuning l then s.setRescue l (s.rescueIn (s.link l).options.rescueTime)
  else if (s.link l).rescueBarred ∨ (s.entry (s.link l).originEntry).lock then
    s.touchLink l fun r => { r with rescueTimer := .stopped, rescueBarred := true }
  else if 0 < s.backoffLeft l then s.setRescue l (s.rescueIn (s.backoffLeft l))
  else
    match s.freeCtx with
    | none => s.setRescue l .waiting
    | some c => s.startRescueMove c l

/-- Each link whose rescue waits is taken in ascending link index while free contexts remain, the tests of R88 being made again for each (R89). -/
def State.serveRescues (s : State) : State :=
  forPlaces 32 (fun l s => if (s.link l).rescueTimer = .waiting ∧ s.freeCtx.isSome then s.attemptRescue l else s) s

/-- A MOVE_LINK of the host stands posted in the pending set, and so competes for a context that becomes free (R89, R184). -/
def State.moveLinkPosted (s : State) : Bool := s.board.attention.any fun n => decide (s.slot n = .posted ∧ s.param n 1 = 18)

/-- The context freed by the end of a move is offered to the waiting rescues (R89, R109, step 6). While a MOVE_LINK competes for it the rescues wait on: whichever is taken first, the MOVE_LINK or a waiting rescue's RESCUE_TIMER_EXPIRY, has it. DESIGN CHOICE (log entry 24): so the order of the two is the order of the queue. -/
def State.offerFreed (s : State) : State := if s.moveLinkPosted then s else s.serveRescues

/-! ## The end of a move (R109) -/

/-- The result a move's outcome gives its slot. -/
def Outcome.result (o : Outcome) (clamped : Bool) : Result :=
  match o with
  | .none => .ok
  | .ok => okOrClamped clamped
  | .conflict => .conflict
  | .noChannel => .noChannel
  | .full => .full
  | .holdTimeout => .holdTimeout
  | .unitFailed => .unitFailed
  | .reverted => .reverted
  | .adrift => .adrift
  | .aborted => .aborted

/-- The reason a MOVE_LINK reports: that of its CHECK, absent when none examined a candidate (R109). -/
def Ctx.checkReason (x : Ctx) : Option Reason :=
  match x.target with
  | .auto _ _ _ => none
  | .code _ => if x.examined = 0 then none else some x.reason

/-- RETUNED_ON_AIR in bit 0 and MUTE_PENDING in bit 1 (R195). -/
def LinkRec.moveFlags (r : LinkRec) : Word := resultBool r.retunedOnAir + 2 * resultBool r.mutePending

/-- The result words of a MOVE_LINK (R195). -/
def moveWords (entry code : Option Nat) (examined : Nat) (reason : Option Reason) (cause : Cause) (flags : Word) : List (Nat × Word) :=
  [(10, resultOpt entry), (11, resultOpt code), (12, resultNat examined), (13, resultOpt (reason.map (·.ctorIdx))),
   (14, resultNat cause.ctorIdx), (15, flags)]

/-- The plan entries at the end of a move (R109, step 1). -/
def State.endEntries (s : State) (x : Ctx) (o : Outcome) : State :=
  match o, x.targetEntry with
  | .ok, some t => s.adopt (s.link x.link).originEntry t
  | .ok, none => s
  | .adrift, _ => s
  | .none, some t => s.freeEntry t
  | .conflict, some t => s.freeEntry t
  | .noChannel, some t => s.freeEntry t
  | .full, some t => s.freeEntry t
  | .holdTimeout, some t => s.freeEntry t
  | .unitFailed, some t => s.freeEntry t
  | .reverted, some t => s.freeEntry t
  | .aborted, some t => s.freeEntry t
  | .none, none => s
  | .conflict, none => s
  | .noChannel, none => s
  | .full, none => s
  | .holdTimeout, none => s
  | .unitFailed, none => s
  | .reverted, none => s
  | .aborted, none => s

/-- The link record at the end of a move (R90, R109, step 2). -/
def LinkRec.moveEnded (r : LinkRec) (x : Ctx) (o : Outcome) : LinkRec :=
  { r with
    outcome := o, moveOrigin := some x.origin
    originEntry := if o = .ok then x.targetEntry.getD r.originEntry else r.originEntry
    targetEntry := if o = .adrift then r.targetEntry else none
    state := if o = .adrift then .adrift else if x.phase.retuning then .bound else r.state }

/-- The move of context c ends with an outcome and a failure cause (R109). -/
def State.endMove (s : State) (c : Nat) (o : Outcome) (cause : Cause) : State :=
  let x := s.ctx c
  let s1 := (s.endEntries x o).linkCore x.link fun r => r.moveEnded x o
  let s2 := (s1.rewriteCtx c fun y => { Ctx.free with edition := y.edition }).endInstance (.ctx c)
  let s3 := s2.updateAutoHold
  let s4 := match x.slot with
    | none => s3
    | some n => s3.complete n (o.result x.clamped)
        (moveWords x.targetEntry x.targetCode x.examined x.checkReason cause (s3.link x.link).moveFlags)
  (s4.startRescue x.link).offerFreed

/-! ## Phases (R98 to R108) -/

/-- The code of context c's target. -/
def Ctx.targetCodeD (x : Ctx) : Nat := x.targetCode.getD 0

/-- The channel of context c's link. -/
def State.ctxChannel (s : State) (c : Nat) : Nat := (s.link (s.ctx c).link).channel

/-- The code of the origin entry of context c's link. -/
def State.ctxOriginCode (s : State) (c : Nat) : Nat := s.originCode (s.ctx c).link

/-- RETUNED_ON_AIR is set, which rewrites the record (R110). -/
def State.setRetuned (s : State) (l : Nat) : State :=
  if (s.link l).retunedOnAir then s else s.rewriteLink l fun r => { r with retunedOnAir := true }

/-- Context c enters TUNE_FAR: its command is offered, and a retune on air is recorded (R102, R110). -/
def State.enterTuneFar (s : State) (c : Nat) : State :=
  let s1 := s.rewriteCtx c fun x => { x with phase := .tuneFar, offer := some (.tuneFar (s.ctxChannel c) x.targetCodeD) }
  if (s1.link (s1.ctx c).link).applied = .program then s1.setRetuned (s1.ctx c).link else s1

/-- Context c enters TUNE_LOCAL (R102). -/
def State.enterTuneLocal (s : State) (c : Nat) : State :=
  s.rewriteCtx c fun x => { x with phase := .tuneLocal, offer := some (.tuneLocal (s.ctxChannel c) x.targetCodeD) }

/-- Context c enters CONFIRM or REVERT_CONFIRM: the confirm timer starts and a QUERY is offered (R103, R106). -/
def State.enterConfirm (s : State) (c : Nat) (p : Phase) : State :=
  s.rewriteCtx c fun x =>
    { x with phase := p, confirmTimer := s.timer (s.link x.link).options.confirm, queryTimer := none, offer := some .query }

/-- Context c enters REVERT_FAR: its timers stop, a waiting QUERY is withdrawn and TUNE_FAR with the origin code is offered (R103, R105). -/
def State.enterRevertFar (s : State) (c : Nat) (cause : Cause) : State :=
  s.rewriteCtx c fun x =>
    { x with phase := .revertFar, confirmTimer := none, queryTimer := none, cause := if cause = .none then x.cause else cause,
             offer := some (.tuneFar (s.ctxChannel c) (s.ctxOriginCode c)) }

/-- Context c enters REVERT_LOCAL (R105). -/
def State.enterRevertLocal (s : State) (c : Nat) : State :=
  s.rewriteCtx c fun x => { x with phase := .revertLocal, offer := some (.tuneLocal (s.ctxChannel c) (s.ctxOriginCode c)) }

/-- Context c enters UNMUTING with its outcome decided (R108). -/
def State.enterUnmuting (s : State) (c : Nat) (o : Outcome) : State :=
  s.rewriteCtx c fun x =>
    { x with phase := .unmuting, outcome := o, confirmTimer := none, queryTimer := none, offer := some (.muteLocal (s.ctxChannel c) false) }

/-- A confirmation with outcome o: a MIC or IEM move unmutes, a CAMERA move ends (R104, R106). -/
def State.confirmed (s : State) (c : Nat) (o : Outcome) : State :=
  if (s.link (s.ctx c).link).kind = .camera then s.endMove c o (s.ctx c).cause else s.enterUnmuting c o

/-- A move goes ADRIFT: MUTE_PENDING is set for a MIC or IEM link and the move ends (R107). -/
def State.goAdrift (s : State) (c : Nat) (cause : Cause) : State :=
  let l := (s.ctx c).link
  let s1 := if (s.link l).kind = .camera then s else s.rewriteLink l fun r => { r with mutePending := true }
  s1.endMove c .adrift (if cause = .none then (s.ctx c).cause else cause)

/-- The conditions of R98 hold for context c in HELD. -/
def State.releasable (s : State) (c : Nat) : Bool :=
  let x := s.ctx c
  let r := s.link x.link
  decide (x.phase = .held ∧ (r.applied ≠ .program ∨ x.urgent) ∧ (r.state = .live ∨ r.state = .weak ∨ r.state = .mistuned) ∧ (x.manualGo → x.go))

/-- Context c leaves HELD: the link becomes MOVING, and the context enters MUTING, or TUNE_FAR for a CAMERA link (R98, R101, R102). -/
def State.leaveHeld (s : State) (c : Nat) : State :=
  let l := (s.ctx c).link
  let camera := decide ((s.link l).kind = .camera)
  let s1 := if camera then s else s.dropUnmute l
  let s2 := s1.linkCore l fun r => { r with state := .moving, retunedOnAir := false, mutePending := if camera then r.mutePending else false }
  let s3 :=
    if camera then (s2.touchCtx c fun x => { x with holdTimer := none }).enterTuneFar c
    else s2.rewriteCtx c fun x => { x with phase := .muting, holdTimer := none, offer := some (.muteLocal (s2.ctxChannel c) true) }
  s3.updateAutoHold

/-- The conditions of R98 are tested for context c. -/
def State.heldTest (s : State) (c : Nat) : State := if s.releasable c then s.leaveHeld c else s

/-- The conditions of R98 are tested for link l's context. -/
def State.heldTestLink (s : State) (l : Nat) : State :=
  match s.ctxOf l with
  | none => s
  | some c => s.heldTest c

/-- A rewrite of link l's record whose change of supervision state is handed to every block that follows it (R90, R98, R148, R166). -/
def State.linkChange (s : State) (l : Nat) (f : LinkRec → LinkRec) : State :=
  let s1 := s.linkCore l f
  if (s1.link l).state = (s.link l).state then s1 else s1.heldTestLink l

/-! ## Events of a context -/

/-- A transaction of context c ended (R101 to R108, R112). -/
def State.ctxTxEnded (s : State) (c : Nat) (cmd : BusCmd) (ok : Bool) (cause : Cause) : State :=
  let x := s.ctx c
  match x.phase with
  | .free => s
  | .seeking => s
  | .held => s
  | .muting =>
    if ok then (if x.abort then s.enterUnmuting c .aborted else s.enterTuneFar c)
    else if x.abort then s.endMove c .aborted .none else s.endMove c .unitFailed cause
  | .tuneFar => if ok ∧ !x.abort then s.enterTuneLocal c else s.enterRevertFar c (if ok then .none else cause)
  | .tuneLocal => if ok ∧ !x.abort then s.enterConfirm c .confirm else s.enterRevertFar c (if ok then .none else cause)
  | .confirm => s.rewriteCtx c fun x => { x with queryTimer := s.timer Config.queryMs }
  | .revertConfirm => s.rewriteCtx c fun x => { x with queryTimer := s.timer Config.queryMs }
  | .revertFar => if cmd = .query then s else if ok then s.enterRevertLocal c else s.goAdrift c cause
  | .revertLocal => if ok then s.enterConfirm c .revertConfirm else s.goAdrift c cause
  | .unmuting =>
    if cmd = .query then s
    else if ok then s.endMove c x.outcome x.cause
    else (s.rewriteLink x.link fun r => { r with mutePending := true }).endMove c x.outcome x.cause

/-- A STATUS report of context c's link, as the move controller reads it (R103, R106). -/
def State.ctxReport (s : State) (c : Nat) (p : Report) : State :=
  let x := s.ctx c
  match x.phase with
  | .confirm =>
    if p.lock ∧ some p.tuned = x.targetCode ∧ (s.link x.link).options.rfThreshold ≤ p.rf then s.confirmed c .ok else s
  | .revertConfirm => if p.lock ∧ p.tuned = s.ctxOriginCode c then s.confirmed c .reverted else s
  | .free => s
  | .seeking => s
  | .held => s
  | .muting => s
  | .tuneFar => s
  | .tuneLocal => s
  | .revertFar => s
  | .revertLocal => s
  | .unmuting => s

/-- The confirm timer of context c expires (R103, R106). -/
def State.confirmExpiry (s : State) (c : Nat) : State :=
  match (s.ctx c).phase with
  | .confirm => s.enterRevertFar c .none
  | .revertConfirm => s.goAdrift c .none
  | .free => s
  | .seeking => s
  | .held => s
  | .muting => s
  | .tuneFar => s
  | .tuneLocal => s
  | .revertFar => s
  | .revertLocal => s
  | .unmuting => s

/-- A change of link l's applied tally reaches its move (R98, R110, R137). -/
def State.moveTally (s : State) (l : Nat) : State :=
  match s.ctxOf l with
  | none => s
  | some c =>
    let air := decide ((s.link l).applied = .program)
    match (s.ctx c).phase with
    | .held => s.heldTest c
    | .tuneFar => if air then s.setRetuned l else s
    | .tuneLocal => if air then s.setRetuned l else s
    | .confirm => if air then s.setRetuned l else s
    | .free => s
    | .seeking => s
    | .muting => s
    | .revertFar => s
    | .revertLocal => s
    | .revertConfirm => s
    | .unmuting => s

/-- The plan job of context c commits: the context takes its RESERVED target and enters HELD, and the conditions of R98 are tested (R97 to R99). -/
def State.moveCommit (s : State) (c entry code examined : Nat) (reason : Option Reason) : State :=
  let l := (s.ctx c).link
  let s1 := s.rewriteCtx c fun x =>
    { x with phase := .held, targetEntry := some entry, targetCode := some code, examined := examined, reason := reason.getD .none,
             holdTimer := s.timer (s.link l).options.hold }
  (s1.rewriteLink l fun r => { r with targetEntry := some entry }).heldTest c

/-- The plan job of context c ended without a commit: the move ends with the outcome (R97). -/
def State.moveFailed (s : State) (c : Nat) (o : Outcome) (examined : Nat) (reason : Option Reason) : State :=
  (s.touchCtx c fun x => { x with examined := examined, reason := reason.getD .none }).endMove c o .none

/-! ## ABORT of a move (R112) -/

/-- Context c's job is waiting in the plan engine's list. -/
def State.moveJobWaits (s : State) (c : Nat) : Bool := s.plan.waiting.any fun j => decide (j.source = .move c)

/-- The jobs of a source leave the waiting list (R28). -/
def State.withdrawJob (s : State) (src : JobSource) : State :=
  { s with plan := { s.plan with waiting := s.plan.waiting.filter fun j => decide (j.source ≠ src) } }

/-- The running job is marked aborted (R30). -/
def State.abortRunning (s : State) : State :=
  { s with plan := { s.plan with work := match s.plan.work with
      | .job r => .job { r with aborted := true }
      | .idle => .idle
      | .refresh x => .refresh x } }

/-- Abort requested is set in context c. -/
def State.requestAbort (s : State) (c : Nat) : State :=
  if (s.ctx c).abort then s else s.rewriteCtx c fun x => { x with abort := true }

/-- ABORT of the move of context c: the answer and the state (R112). DESIGN CHOICE (log entry 20): a second ABORT that finds a revert phase or UNMUTING with abort requested still set is answered TOO_LATE by the phase, as the table of R112 and R105 and R108 say, not OK by the sentence after the table; either answer changes nothing. -/
def State.abortMove (s : State) (c : Nat) : Result × State :=
  match (s.ctx c).phase with
  | .free => (.notFound, s)
  | .seeking =>
    if s.moveJobWaits c then (.ok, (s.withdrawJob (.move c)).moveFailed c .aborted 0 none)
    else (.ok, s.abortRunning.requestAbort c)
  | .held => (.ok, s.endMove c .aborted .none)
  | .muting => (.ok, s.requestAbort c)
  | .tuneFar => (.ok, s.requestAbort c)
  | .tuneLocal => (.ok, s.requestAbort c)
  | .confirm => (.ok, s.enterRevertFar c .none)
  | .revertFar => (.tooLate, s)
  | .revertLocal => (.tooLate, s)
  | .revertConfirm => (.tooLate, s)
  | .unmuting => (.tooLate, s)

end Sys2Proof.Machine
end

