-- ==== Sys2Proof/Machine/Engine.lean ====
section
/-! DEFINITION. The plan engine at work: taking a job, testing a candidate, committing, the end of a refresh, and the choice of the next work (chapter 2.3 to 2.6). `State.settle` closes every step that can give the engine or the unit bus work. -/

namespace Sys2Proof.Machine

/-- The plan engine's work set. -/
def State.setWork (s : State) (w : Work) : State := { s with plan := { s.plan with work := w } }

/-- How a job ends without a commit (R29, R38). -/
inductive JobFailure where
  | conflict | noChannel | full | aborted | notBound
  deriving DecidableEq, Repr

/-- The result code of a failure. -/
def JobFailure.result : JobFailure → Result
  | .conflict => .conflict
  | .noChannel => .noChannel
  | .full => .full
  | .aborted => .aborted
  | .notBound => .notBound

/-- The outcome a failure gives a move. -/
def JobFailure.outcome : JobFailure → Outcome
  | .conflict => .conflict
  | .noChannel => .noChannel
  | .full => .full
  | .aborted => .aborted
  | .notBound => .aborted

/-- The result words of PLACE (R195). -/
def placeWords (code : Option Nat) (examined : Nat) : List (Nat × Word) := [(12, resultOpt code), (13, resultNat examined)]

/-- The result words of SET_CARRIER (R195). -/
def carrierWords (entry : Option Nat) (reason : Option Reason) : List (Nat × Word) :=
  [(8, resultOpt entry), (9, resultOpt (reason.map (·.ctorIdx)))]

/-- The result words of AUDIT, all totals 0 (R186, R195). -/
def auditWords (inUse marked : Nat) (is : List Inst) : List (Nat × Word) :=
  let total (t : Violation) : BitVec 32 := BitVec.ofNat 32 (is.filter fun i => decide (i.type = t)).length
  [(4, resultNat inUse), (5, resultNat marked)] ++ result32 6 (BitVec.ofNat 32 is.length) ++ result32 8 (total .excl) ++
    result32 10 (total .adj) ++ result32 12 (total .im32) ++ result32 14 (total .im33) ++ result32 16 (total .im5)

/-- A job ended without a commit: its originator is handed the failure (R29). -/
def State.jobFailed (s : State) (j : Job) (f : JobFailure) (examined : Nat) (reason : Option Reason) : State :=
  match j.source with
  | .place n => s.complete n f.result (placeWords none examined)
  | .setCarrier n _ => s.complete n f.result (carrierWords none reason)
  | .audit n => s.complete n f.result (auditWords 0 0 [])
  | .bind n l => s.bindingFailed n l f.result examined reason
  | .move c => s.moveFailed c f.outcome examined reason

/-! ## Taking a job (R4, R29, R37, R38, R40) -/

/-- The job would add an entry, and so meets the full-table test (R4). -/
def Job.adds (j : Job) : Bool :=
  match j.source with
  | .place _ => false
  | .setCarrier _ e => e.isNone
  | .audit _ => false
  | .bind _ _ => true
  | .move _ => true

/-- The half-width a job runs with: its own, or its link's origin's, or the default for its kind (R4, R37, R38). -/
def State.jobWidth (s : State) (j : Job) : Nat :=
  if j.width ≠ 0 then j.width
  else match j.link with
    | some l => (s.entry (s.link l).originEntry).width
    | none => s.plan.rules.width j.linkKind

/-- The entry a job leaves out: the entry SET_CARRIER names, or its link's origin (2.4). -/
def State.jobLeftOut (s : State) (j : Job) : Option Nat :=
  match j.source with
  | .setCarrier _ e => e
  | .place _ => j.link.map fun l => (s.link l).originEntry
  | .move _ => j.link.map fun l => (s.link l).originEntry
  | .audit _ => none
  | .bind _ _ => none

/-- A job stands at its first candidate (R29). -/
def State.runJob (s : State) (j : Job) (cursor : Nat) : State :=
  s.setWork (.job { job := j, width := s.jobWidth j, leftOut := s.jobLeftOut j, cursor := cursor, examined := 0, aborted := false, stage := .testing })

/-- A PLACE on behalf of a link that is VACANT when the job is taken (R38). -/
def State.placeUnbound (s : State) (j : Job) : Bool :=
  match j.source, j.link with
  | .place _, some l => decide ((s.link l).state = .vacant)
  | .place _, none => false
  | .setCarrier _ _, _ => false
  | .audit _, _ => false
  | .bind _ _, _ => false
  | .move _, _ => false

/-- The engine takes a job: it ends at once with FULL or NOT_BOUND, begins an AUDIT's recompute, or stands at its first candidate (R4, R29, R38, R40). -/
def State.startJob (s : State) (j : Job) : State :=
  if j.adds ∧ (lowestFree s.plan.entries).isNone then s.jobFailed j .full 0 none
  else if s.placeUnbound j then s.jobFailed j .notBound 0 none
  else
    match j.work with
    | .check code _ => s.runJob j code
    | .search g => s.runJob j g.first
    | .audit =>
      { s with plan := { s.plan with
          refreshPending := false
          work := .job { job := j, width := 0, leftOut := none, cursor := 0, examined := 0, aborted := false, stage := .auditing s.plan.snapshot } } }

/-- A refresh on its own begins: the flag is cleared and the plan is taken as it stands (R12, R26). -/
def State.beginRefresh (s : State) : State :=
  { s with plan := { s.plan with refreshPending := false, work := .refresh s.plan.snapshot } }

/-- The engine chooses its work while it is IDLE: a refresh when the flag is set, else the head job, else nothing (R27). A job that ends as it is taken lets the engine choose again; `fuel` bounds how often, above the 12 waiting jobs and 32 waiting rescues a step can end. -/
def State.chooseWork : Nat → State → State
  | 0, s => s
  | fuel + 1, s =>
    match s.plan.work with
    | .job _ => s
    | .refresh _ => s
    | .idle =>
      if s.plan.refreshPending then s.beginRefresh
      else
        match s.plan.waiting with
        | [] => s
        | j :: js => State.chooseWork fuel ({ s with plan := { s.plan with waiting := js } }.startJob j)

/-- The end of a step: the plan engine chooses its work if it is IDLE, and the arbiter grants the line if it is free (R27, R64). -/
def State.settle (s : State) : State := (s.chooseWork 64).arbitrate

/-! ## The commit step (R4, R29, R37, R39) -/

/-- The entry a commit writes. -/
def Running.newEntry (r : Running) (code : Nat) (e : PlanEntry) : PlanEntry :=
  match r.job.source with
  | .bind _ l => { PlanEntry.free with status := .active, kind := .link, owner := some l, code := code, width := r.width, edition := e.edition + 1 }
  | .move _ => { PlanEntry.free with status := .reserved, kind := .link, owner := r.job.link, code := code, width := r.width, edition := e.edition + 1 }
  | .setCarrier _ none => { PlanEntry.free with status := .active, kind := .foreign, code := code, width := r.width, edition := e.edition + 1 }
  | .setCarrier _ (some _) => { e with code := code, width := r.width, edition := e.edition + 1 }
  | .place _ => e
  | .audit _ => e

/-- The entry a commit writes is the one SET_CARRIER names, or the lowest FREE one. -/
def State.commitEntry (s : State) (r : Running) : Option Nat :=
  match r.job.source with
  | .setCarrier _ (some n) => some n
  | .setCarrier _ none => lowestFree s.plan.entries
  | .bind _ _ => lowestFree s.plan.entries
  | .move _ => lowestFree s.plan.entries
  | .place _ => none
  | .audit _ => none

/-- The originator of a committed job takes its entry in the commit step (R78, R97). -/
def State.committed (s : State) (j : Job) (entry code examined : Nat) (reason : Option Reason) : State :=
  match j.source with
  | .bind _ l => s.bindingCommit l entry code examined reason
  | .move c => s.moveCommit c entry code examined reason
  | .setCarrier _ _ => s
  | .place _ => s
  | .audit _ => s

/-- A committed job's entry is written, its closing refresh begins on the plan with it, and the originator takes it (R29). DESIGN CHOICE (log entry 28): the closing refresh begins, with the plan it will judge and refresh-pending cleared, in the commit step itself; an event of R36 taken after the commit is therefore marked by the refresh that follows, never by the closing one. -/
def State.closeJob (s : State) (r : Running) (n code examined : Nat) (reason : Option Reason) : State :=
  let s1 := s.setEntry n (r.newEntry code)
  let s2 := { s1 with plan := { s1.plan with
    refreshPending := false
    work := .job { r with examined := examined, stage := .closing { entry := n, code := code, reason := reason } s1.plan.snapshot } } }
  s2.committed r.job n code examined reason

/-- The candidate at `code` passes or is forced: it is written, and the closing refresh begins; a SET_CARRIER that changes nothing completes at once (R29, R39). -/
def State.commitJob (s : State) (r : Running) (code examined : Nat) (reason : Option Reason) : State :=
  match s.commitEntry r with
  | none => (s.setWork .idle).jobFailed r.job .full examined reason
  | some n =>
    match r.job.source with
    | .setCarrier slot (some _) =>
      if (s.entry n).code = code ∧ (s.entry n).width = r.width then
        (s.setWork .idle).complete slot (okOrClamped r.job.clamped) (carrierWords (some n) reason)
      else s.closeJob r n code examined reason
    | .setCarrier _ none => s.closeJob r n code examined reason
    | .bind _ _ => s.closeJob r n code examined reason
    | .move _ => s.closeJob r n code examined reason
    | .place _ => s
    | .audit _ => s

/-! ## CANDIDATE_TEST (R29 to R35) -/

/-- The candidate the running job tests next. -/
def Running.candidate (r : Running) : Candidate :=
  { code := r.cursor, width := r.width, kind := r.job.kind, leftOut := r.leftOut }

/-- The running job tests one candidate. -/
def State.testCandidate (s : State) (r : Running) : State :=
  let reason := r.candidate.reason s.plan s.probe
  let examined := r.examined + 1
  match r.job.work with
  | .audit => s
  | .check _ force =>
    if r.aborted then (s.setWork .idle).jobFailed r.job .aborted examined (some reason)
    else if reason = .none ∨ (force ∧ reason ≠ .band) then s.commitJob r r.cursor examined (some reason)
    else (s.setWork .idle).jobFailed r.job .conflict examined (some reason)
  | .search g =>
    if reason = .none then
      if r.aborted then (s.setWork .idle).jobFailed r.job .aborted examined none
      else match r.job.source with
        | .place n => (s.setWork .idle).complete n (okOrClamped r.job.clamped) (placeWords (some r.cursor) examined)
        | .setCarrier _ _ => s.commitJob r r.cursor examined none
        | .bind _ _ => s.commitJob r r.cursor examined none
        | .move _ => s.commitJob r r.cursor examined none
        | .audit _ => s.commitJob r r.cursor examined none
    else if min g.size g.limit ≤ examined then
      (s.setWork .idle).jobFailed r.job (if r.aborted then .aborted else .noChannel) examined none
    else s.setWork (.job { r with cursor := g.next r.cursor, examined := examined })

/-! ## REFRESH_END (R5, R11, R26, R29, R40) -/

/-- The values of a refresh are written; the plan edition is left to the caller. -/
def State.writeMarks (s : State) (x : PlanSnapshot) (fresh : Option Nat) : State :=
  { s with plan := { s.plan with entries := refreshEntries x fresh s.plan.entries } }

/-- The values of a refresh run on its own or by an AUDIT are written: the plan edition increments when an entry changed (R5). -/
def State.writeRefresh (s : State) (x : PlanSnapshot) : State :=
  let s1 := s.writeMarks x none
  if s1.plan.entries = s.plan.entries then s1 else s1.planRewrite

/-- The in-use entries of a snapshot. -/
def PlanSnapshot.inUse (x : PlanSnapshot) : List Nat := placesWhere 48 fun n => (look x.entries n).inUse

/-- The results of an AUDIT of a snapshot (R40). -/
def PlanSnapshot.audit (x : PlanSnapshot) : List (Nat × Word) :=
  auditWords x.inUse.length (x.inUse.filter fun n => !(instancesOf x.instances n).isEmpty).length x.instances

/-- The closing refresh of a committed job ends: one rewrite of the plan, and a SET_CARRIER completes its slot (R5, R29). -/
def State.closingEnd (s : State) (r : Running) (cm : Commit) (x : PlanSnapshot) : State :=
  let s1 := ((s.writeMarks x (some cm.entry)).planRewrite).setWork .idle
  match r.job.source with
  | .setCarrier n _ => s1.complete n (okOrClamped r.job.clamped) (carrierWords (some cm.entry) cm.reason)
  | .bind _ _ => s1
  | .move _ => s1
  | .place _ => s1
  | .audit _ => s1

/-- The AUDIT's recompute ends (R40). -/
def State.auditEnd (s : State) (r : Running) (x : PlanSnapshot) : State :=
  let s1 := (s.writeRefresh x).setWork .idle
  match r.job.source with
  | .audit n => s1.complete n .ok x.audit
  | .setCarrier _ _ => s1
  | .bind _ _ => s1
  | .move _ => s1
  | .place _ => s1

end Sys2Proof.Machine
end

