-- ==== Sys2Proof/Machine/Frame.lean ====
section
/-! DEFINITION. Frame events and the reference monitor: pending tally becomes applied tally and is handed on (chapter 8.3, 8.4). -/

namespace Sys2Proof.Machine

/-- The bound links whose pending and applied tally differ, rising (R136). -/
def State.tallyChanges (s : State) : List Nat :=
  placesWhere 32 fun l => decide ((s.link l).state ≠ .vacant ∧ (s.linkTally l).pending ≠ (s.link l).applied)

/-- Link l's applied tally takes its pending value, a rewrite of the record (R136). -/
def State.applyTally (s : State) (l : Nat) : State :=
  s.rewriteLink l fun r => { r with applied := (s.linkTally l).pending }

/-- A change of link l's applied tally from `old` is handed to the lamp driver, the move controller, the duck ramp and the head tally (R137). -/
def State.handTally (s : State) (l : Nat) (old : Tally) : State :=
  let s1 := (s.lampLevelChange l).moveTally l
  let r := s1.link l
  let s2 := if r.kind = .iem ∧ decide (old = .program) ≠ decide (r.applied = .program) then s1.duckRecompute l else s1
  if r.kind = .camera then s2.headChange l else s2

/-- A frame event: the frame counter increments, every differing pending tally is applied, and each change is handed on (R136, R137). -/
def State.frameEvent (s : State) : State :=
  let ls := s.tallyChanges
  let s1 := { s with ref := { s.ref with frames := s.ref.frames + 1 } }
  let s2 := ls.foldl State.applyTally s1
  let s3 := ls.foldl (fun t l => t.handTally l (s.link l).applied) s2
  if ls.isEmpty then s3 else s3.raise .tally

/-- The reference monitor's fields changed. -/
def State.setRef (s : State) (f : RefMonitor → RefMonitor) : State := { s with ref := f s.ref }

/-- A pulse on the studio reference input (R134). -/
def State.referencePulse (s : State) : State :=
  let s1 := if s.ref.locked then s else (s.setRef fun r => { r with locked := true, synthTimer := none }).raise .ref
  s1.frameEvent.setRef fun r => { r with lossTimer := s.timer Config.refLossMs }

/-- The loss timer expires: LOST, a synthetic frame event at once, and the synthetic timer starts (R134). -/
def State.refLost (s : State) : State :=
  (((s.setRef fun r => { r with locked := false, lossTimer := none }).raise .ref).frameEvent).setRef fun r =>
    { r with synthTimer := s.timer Config.syntheticMs }

/-- The synthetic timer expires: a frame event, and the timer restarts (R135). -/
def State.syntheticFrame (s : State) : State :=
  s.frameEvent.setRef fun r => { r with synthTimer := s.timer Config.syntheticMs }

end Sys2Proof.Machine
end

