-- ==== Sys2Proof/Machine/Controller.lean ====
section
/-! DEFINITION. The events of the unit bus and of the links' timers: reply bytes, the end of an attempt and of a transaction, the delivery of a STATUS, notices, and supervision (chapters 4 and 5). -/

namespace Sys2Proof.Machine

/-! ## Timers of a link (R84) -/

/-- Weak timer expiry: a LIVE or BOUND link becomes WEAK, and its rescue timer starts (R84). -/
def State.weakExpiry (s : State) (l : Nat) : State :=
  if (s.link l).state = .live ∨ (s.link l).state = .bound then
    (s.linkChange l fun r => { r with state := .weak, weakTimer := none }).startRescue l
  else s

/-- Loss timer expiry: the link becomes LOST, its loss count and last loss time are written (R84). -/
def State.lossExpiry (s : State) (l : Nat) : State :=
  s.linkChange l fun r => { r with state := .lost, lossTimer := none, lossCount := satInc r.lossCount, lastLoss := s.now }

/-! ## STATUS at the link supervisor (R82, R83, R91) -/

/-- The entries of an ADRIFT link settled on its origin: the target is freed (R91, R92). -/
def State.settleOrigin (s : State) (l : Nat) : State :=
  match (s.link l).targetEntry with
  | none => s
  | some t => s.freeEntry t

/-- The entries of an ADRIFT link settled on its target: the target is adopted (R91, R92). -/
def State.settleTarget (s : State) (l : Nat) : State :=
  match (s.link l).targetEntry with
  | none => s
  | some t => s.adopt (s.link l).originEntry t

/-- The record of an ADRIFT link settled on its origin. -/
def LinkRec.keptOrigin (r : LinkRec) : LinkRec := { r with targetEntry := none, outcome := .reverted }

/-- The record of an ADRIFT link settled on its target. -/
def LinkRec.keptTarget (r : LinkRec) : LinkRec := { r with originEntry := r.targetEntry.getD r.originEntry, targetEntry := none, outcome := .ok }

/-- LIVE or WEAK by the reported level (R91). -/
def LinkRec.liveOrWeak (r : LinkRec) (p : Report) : LinkRec :=
  { r with state := if r.options.rfThreshold ≤ p.rf then .live else .weak }

/-- A report of an ADRIFT link: lock on its origin code or its target code resolves it (R91). -/
def State.adriftReport (s : State) (l : Nat) (p : Report) : State :=
  if p.lock ∧ p.tuned = s.originCode l then
    ((s.settleOrigin l).linkChange l fun r => ((r.withReport p).keptOrigin).liveOrWeak p).startRescue l
  else if p.lock ∧ some p.tuned = s.linkTargetCode l then
    ((s.settleTarget l).linkChange l fun r => ((r.withReport p).keptTarget).liveOrWeak p).startRescue l
  else s.rewriteLink l fun r => r.withReport p

/-- A judgement of link l with record r starts a weak timer of 0 ms (R83). -/
def LinkRec.weakAtOnce (r : LinkRec) (judged : LinkRec) : Bool := r.weakTimer.isNone && judged.weakTimer.isSome && decide (r.options.weakTime = 0)

/-- The judgement of a report, one rewrite of the record; a weak timer that it starts for 0 ms expires at once, which is a second rewrite (R82 to R84). -/
def State.judgeReport (s : State) (l : Nat) (p : Report) : State :=
  let s1 := s.linkChange l fun r => r.judge p (s.originCode l) (s.timer r.options.weakTime) (s.timer r.options.lossTime)
  if (s.link l).weakAtOnce (s1.link l) then s1.weakExpiry l else s1

/-- The evaluation of a report of link l (R82). -/
def State.evaluate (s : State) (l : Nat) (p : Report) : State :=
  match (s.link l).state with
  | .vacant => s
  | .moving => s.rewriteLink l fun r => r.withReport p
  | .adrift => s.adriftReport l p
  | .bound => s.judgeReport l p
  | .live => s.judgeReport l p
  | .weak => s.judgeReport l p
  | .lost => s.judgeReport l p
  | .unitMissing => s.judgeReport l p
  | .mistuned => s.judgeReport l p

/-- A valid STATUS delivered to the link supervisor and then to the move controller (R70, R82, R103).DESIGN CHOICE (log entry 12): the links of the unit are judged in ascending link index, not by channel, each with all it hands on before the next; the contexts follow in ascending order. -/
def State.deliverStatus (s : State) (a : Nat) (payload : List Byte) : State :=
  let s1 := (s.linksOfUnit a).foldl (fun t l => t.evaluate l (reportAt payload (t.link l).channel)) s
  forPlaces 4 (fun c t =>
    let r := t.link (t.ctx c).link
    if (t.ctx c).phase ≠ .free ∧ r.unit = a then t.ctxReport c (reportAt payload r.channel) else t) s1

/-! ## State notices (R85) -/

/-- A LINK unit became MISSING or PRESENT: its links become UNIT_MISSING, or return to BOUND (R85). DESIGN CHOICE (log entry 12): in ascending link index, each with all it hands on before the next. -/
def State.stateNotice (s : State) (a : Nat) : State :=
  (s.linksOfUnit a).foldl (fun t l =>
    match (s.unit a).state, (t.link l).state with
    | .missing, .bound => t.linkChange l fun r => { r with state := .unitMissing }
    | .missing, .live => t.linkChange l fun r => { r with state := .unitMissing }
    | .missing, .weak => t.linkChange l fun r => { r with state := .unitMissing }
    | .missing, .lost => t.linkChange l fun r => { r with state := .unitMissing }
    | .missing, .mistuned => t.linkChange l fun r => { r with state := .unitMissing }
    | .present, .unitMissing => t.linkChange l fun r => { r with state := .bound }
    | _, _ => t) s

/-- The unit table is updated by f, and a change of a LINK unit's state is noticed to the link supervisor (R68, R70). -/
def State.withNotice (s : State) (a : Nat) (f : State → State) : State :=
  let s1 := f s
  if (s1.unit a).state = (s.unit a).state ∨ (s.unit a).role ≠ .link then s1 else s1.stateNotice a

/-! ## The end of an attempt and of a transaction (R62, R63, R68, R70, R71) -/

/-- The level a head TALLY carried. -/
def BusCmd.level : BusCmd → Tally
  | .tally _ t => t
  | .query => .off
  | .tuneLocal _ _ => .off
  | .tuneFar _ _ => .off
  | .muteLocal _ _ => .off
  | .probeTune _ _ => .off

/-- A transaction's result handed to the originator that offered it, unless that instance has ended (R66, R71). -/
def State.handResult (s : State) (tx : Tx) (ok : Bool) (cause : Cause) : State :=
  if !tx.live then s
  else match tx.orig with
    | .head l => s.headEnded l tx.cmd.level ok
    | .ctx c => s.ctxTxEnded c tx.cmd ok cause
    | .link l => s.linkTxEnded l ok cause
    | .probe => s.probeTuneEnded ok tx.discarded
    | .poller => s.pollEnded

/-- The controller becomes IDLE, the transaction over (R63). -/
def State.busFreed (s : State) : State :=
  { s with bus := { s.bus with state := .idle, inFlight := none, reply := [], window := none } }

/-- The good-reply notice to the link supervisor and the tally resolver (R70). -/
def State.goodNotice (s : State) (a : Nat) : State :=
  if (s.unit a).role = .link then (s.unmuteNotice a).headNotice a else s

/-- A good reply ends the transaction: the unit table, the originator, the STATUS delivery, then the notice (R63, R68, R70). -/
def State.transactionGood (s : State) (tx : Tx) (k : ReplyKind) (payload : List Byte) : State :=
  let s1 := s.busFreed.withNotice tx.unit fun t => t.unitReplied tx.unit true
  let s2 := s1.handResult tx true .none
  let s3 := match k with
    | .status => s2.deliverStatus tx.unit payload
    | .ack => s2
    | .nak => s2
  s3.goodNotice tx.unit

/-- A failed attempt: the same frame is sent again, or the second failure fails the transaction (R62, R63, R68). -/
def State.attemptFailed (s : State) (tx : Tx) (cause : Cause) : State :=
  let s1 := if cause = .refused then s.withNotice tx.unit fun t => t.unitReplied tx.unit false else s
  if tx.attempt = 1 then
    { s1 with bus := { s1.bus with state := .sending, inFlight := some { tx with attempt := 2 }, reply := [], window := none } }
  else
    (s1.busFreed.withNotice tx.unit fun t => t.unitFailed tx.unit (decide (cause ≠ .refused))).handResult tx false cause

/-- One byte on the unit bus, with a framing error or without: in LISTENING it is judged, elsewhere it is discarded (R58, R62). -/
def State.busByte (s : State) (b : Byte) (framing : Bool) : State :=
  match s.bus.state, s.bus.inFlight with
  | .listening, some tx =>
    if framing then { s with bus := { s.bus with state := .draining, reply := [] } }
    else match tx.judge (s.bus.reply ++ [b]) with
      | .incomplete => { s with bus := { s.bus with reply := s.bus.reply ++ [b] } }
      | .garbled => { s with bus := { s.bus with state := .draining, reply := [] } }
      | .good .nak _ => s.attemptFailed tx .refused
      | .good .status p => s.transactionGood tx .status p
      | .good .ack p => s.transactionGood tx .ack p
  | _, _ => s

/-- The last stop bit of a request frame is sent: the reply window opens (R62). -/
def State.frameSent (s : State) : State :=
  if s.bus.state = .sending then
    { s with bus := { s.bus with state := .listening, reply := [], window := s.timer Config.replyWindowMs } }
  else s

/-- The reply window ends: a garbled or incomplete reply, or none at all, fails the attempt (R62). -/
def State.windowEnd (s : State) : State :=
  match s.bus.state, s.bus.inFlight with
  | .draining, some tx => s.attemptFailed tx .garbled
  | .listening, some tx => s.attemptFailed tx (if s.bus.reply.isEmpty then .noReply else .garbled)
  | _, _ => s

end Sys2Proof.Machine
end

