-- ==== Sys2Proof/Machine/Lines.lean ====
section
/-! DEFINITION. The receive lines: characters, the frame decoder, line states and staleness (chapter 7). -/

namespace Sys2Proof.Machine

/-- The marker of a line's frames (R119). -/
def lineMarker (n : Nat) : Byte := if n = 2 then 0xE2 else 0xE1

/-- What a byte 0 to 3 says as a tally level. -/
def levelOfByte (b : Byte) : Tally := (tallyOf b.toNat).getD .off

/-- The frame's fields lie in the values of R120 or R121. -/
def frameFieldsOk (n : Nat) (b1 b2 : Byte) : Bool :=
  if n = 2 then
    decide ((b1.toNat ≤ 15 ∨ b1 = 0x7F) ∧ (b2.toNat ≤ 11 ∨ (0x80 ≤ b2.toNat ∧ b2.toNat ≤ 0x8B)))
  else decide (b1.toNat ≤ 64 ∧ b2.toNat ≤ 3)

/-- The state change of a good frame: ACTIVE with the stale timer restarted; leaving STALE stops the stale-clear timer and clears held (R119, R122). -/
def State.goodFrame (s : State) (n : Nat) : State :=
  let s1 := s.touchLine n fun r => { r with good := satInc r.good, lastGood := s.now, staleTimer := s.timer r.staleTime, clearTimer := none }
  if (s.line n).state = .active then s1
  else s1.rewriteLine n fun r => { r with state := .active, held := false }

/-- A good frame is handed to the block that owns its meaning; a keepalive to none (R120, R121). -/
def State.handFrame (s : State) (n : Nat) (b1 b2 : Byte) : State :=
  if n = 2 then
    if b1.toNat ≤ 15 then s.keyEvent b1.toNat (b2.toNat % 128) (decide (128 ≤ b2.toNat)) else s
  else if b1 = 0 then s
  else s.writeSource n b1.toNat (levelOfByte b2)

/-- A collected frame is judged (R119). -/
def State.judgeFrame (s : State) (n : Nat) (b1 b2 check : Byte) : State :=
  if check = lineCheck b1 b2 ∧ frameFieldsOk n b1 b2 then (s.goodFrame n).handFrame n b1 b2
  else s.touchLine n fun r => { r with frameErrors := satInc r.frameErrors }

/-- A good byte at line n's frame decoder (R119). -/
def State.goodByte (s : State) (n : Nat) (b : Byte) : State :=
  match (s.line n).decoder with
  | .hunt =>
    if b = lineMarker n then s.touchLine n fun r => { r with decoder := .collecting [] }
    else s.touchLine n fun r => { r with discarded := satInc r.discarded }
  | .collecting (b1 :: b2 :: _) => (s.touchLine n fun r => { r with decoder := .hunt }).judgeFrame n b1 b2 b
  | .collecting bs => s.touchLine n fun r => { r with decoder := .collecting (bs ++ [b]) }

/-- A good byte has come in on line n, with its start bit taken and its stop bits at mark: the receiver is ready for the next start bit (R117). -/
def State.lineByte (s : State) (n : Nat) (b : Byte) : State :=
  if (s.line n).enable then (s.touchLine n fun r => { r with rx := Receiver.ready }).goodByte n b else s

/-- Good bytes in their order. -/
def State.lineBytes (s : State) (n : Nat) (bs : List Byte) : State := bs.foldl (fun s b => s.lineByte n b) s

/-- The bytes of a frame that has not begun yet start with the marker; a decoder in COLLECTING has had it (R119). -/
def State.frameBytes (s : State) (n : Nat) (b1 b2 check : Byte) : State :=
  match (s.line n).decoder with
  | .hunt => s.lineBytes n [lineMarker n, b1, b2, check]
  | .collecting _ => s.lineBytes n [b1, b2, check]

/-! ## The sampled receiver (R116 to R118) -/

/-- A character as its bits read at their middles: the data byte, the parity bit (none with parity NONE) and the checked stop bit, true being mark (R117). -/
structure RxChar where
  data : Byte
  parityBit : Bool
  stop : Bool
  deriving DecidableEq, Repr

/-- The successive samples by which the receiver sees a change of level (R117). -/
def NoiseFilter.samples : NoiseFilter → Nat
  | .off => 1
  | .short => 2
  | .long => 4

/-- One sample at the noise filter: the level it sees changes when the sample completes a run long enough (R117). -/
def NoiseFilter.sample (f : NoiseFilter) (x : Receiver) (v : Bool) : Receiver :=
  if v = x.level then { x with run := 0 }
  else if x.run + 1 < f.samples then { x with run := x.run + 1 }
  else { x with level := v, run := 0 }

/-- The bits of a character, its start bit and its stop bits counted (R117). -/
def Line.charBits (r : Line) : Nat := 9 + (if r.parity = .none then 0 else 1) + r.stopBits

/-- The byte of eight bits, the least significant first (R117). -/
def byteOfBits (bits : List Bool) : Byte := BitVec.ofNat 8 (bits.foldr (fun b v => 2 * v + b.toNat) 0)

/-- The character that the bits of a line spell, the start bit first: the last stop bit is the checked one (R117). -/
def charOfBits (bits : List Bool) : RxChar :=
  { data := byteOfBits ((bits.drop 1).take 8), parityBit := (bits.drop 9).headD false, stop := bits.getLastD false }

/-- What the receiver does with the filtered level at one sample, `fell` telling that the level has just changed to space: the wait ends by one bit time of mark; a start bit begins by the change; each bit is read at its middle, the ninth of its 16 samples; a start bit back at mark by then was noise (R116, R117). DESIGN CHOICE: see log entry 22. -/
def Line.receive (r : Line) (level fell : Bool) : RxPhase → RxPhase × Option RxChar
  | .waiting marks => (if !level then .waiting 0 else if marks + 1 < 16 then .waiting (marks + 1) else .idle, none)
  | .idle => (if fell then .receiving 7 [] else .idle, none)
  | .receiving (wait + 1) bits => (.receiving wait bits, none)
  | .receiving 0 bits =>
    let read := bits ++ [level]
    if bits = [] ∧ level = true then (.idle, none)
    else if read.length < r.charBits then (.receiving 15 read, none)
    else (.idle, some (charOfBits read))

/-- One sample of the line at its receiver, breaks left aside (R117). -/
def Line.sampleBits (r : Line) (x : Receiver) (v : Bool) : Receiver × Option RxChar :=
  let y := r.filter.sample x v
  let p := r.receive y.level (x.level && !y.level) y.phase
  ({ y with phase := p.1 }, p.2)

/-- The samples of one byte on the line (R117). -/
def Line.byteSamples (r : Line) : Nat := 16 * r.charBits

/-- The samples for which the line has been held at space, after one more: enough of them to tell a break (R118). -/
def Line.spacesAfter (r : Line) (spaces : Nat) (level : Bool) : Nat := if level then 0 else min (r.byteSamples + 1) (spaces + 1)

/-- A line held at space for longer than a byte is a break: a receiver that is not in the middle of a character waits for one bit time of mark (R118). -/
def Line.breakTest (r : Line) (x : Receiver) : Receiver :=
  if r.byteSamples < x.spaces ∧ x.phase = .idle then { x with phase := .waiting 0 } else x

/-- One sample of the line at its receiver (R117, R118). -/
def Line.sample (r : Line) (x : Receiver) (v : Bool) : Receiver × Option RxChar :=
  let p := r.sampleBits x v
  (r.breakTest { p.1 with spaces := r.spacesAfter x.spaces p.1.level }, p.2)

/-- The samples of the line in their order: what they leave of the receiver, and the characters they spell (R117). -/
def Line.hear (r : Line) : Receiver → List Bool → Receiver × List RxChar
  | x, [] => (x, [])
  | x, v :: vs =>
    let y := r.sample x v
    let z := r.hear y.1 vs
    (z.1, y.2.toList ++ z.2)

/-- The number of ones among the data bits and the parity bit is even. -/
def rxEven (c : RxChar) : Bool :=
  decide (((List.range 8).filter fun k => c.data.getLsbD k).length % 2 = if c.parityBit then 1 else 0)

/-- The character's parity disagrees with the line's (R117). -/
def rxParityError (c : RxChar) (p : Parity) : Bool :=
  match p with
  | .none => false
  | .even => !rxEven c
  | .odd => rxEven c

/-- A received character: counted and discarded when it carries a byte error, a framing error before a parity error; a good byte otherwise (R117, R118). -/
def State.character (s : State) (n : Nat) (c : RxChar) : State :=
  if !c.stop then s.touchLine n fun r => { r with framingErrors := satInc r.framingErrors, decoder := .hunt }
  else if rxParityError c (s.line n).parity then s.touchLine n fun r => { r with parityErrors := satInc r.parityErrors, decoder := .hunt }
  else s.goodByte n c.data

/-- The samples of line n in their order, each character judged as it is complete; a disabled line is not received (R116 to R118). -/
def State.lineSamples (s : State) (n : Nat) (vs : List Bool) : State :=
  if (s.line n).enable then
    let h := (s.line n).hear (s.line n).rx vs
    h.2.foldl (fun t c => t.character n c) (s.touchLine n fun r => { r with rx := h.1 })
  else s

/-! ## Line states (R116, R122 to R124) -/

/-- An ACTIVE line's stale timer expires: STALE, the partial frame dropped; a tally line holds its table, the panel line gives its release notice (R122 to R124). -/
def State.lineStale (s : State) (n : Nat) : State :=
  let s1 := s.rewriteLine n fun r =>
    { r with state := .stale, decoder := .hunt, staleTimer := none, held := decide (n ≠ 2),
             clearTimer := if n = 2 then none else s.timer r.staleClear }
  if n = 2 then s1.releaseNotice else s1

/-- A tally line's stale-clear timer expires: its table is cleared and held is cleared (R123). -/
def State.lineCleared (s : State) (n : Nat) : State :=
  (s.clearTable n).rewriteLine n fun r => { r with held := false, clearTimer := none }

/-- A line's record as it is switched off (R116). -/
def Line.disabled (r : Line) : Line :=
  { r with state := .disabled, decoder := .hunt, held := false, staleTimer := none, clearTimer := none, rx := Receiver.off }

/-- A line's record as it is switched on: the receiver waits for one bit time of mark (R116). -/
def Line.enabled (r : Line) : Line :=
  { r with state := .neverHeard, decoder := .hunt, staleTimer := none, clearTimer := none, rx := Receiver.off }

/-- The other blocks learn that line n was disabled: a tally table is set to OFF, the panel line gives its release notice (R116). -/
def State.lineDisabled (s : State) (n : Nat) : State := if n = 2 then s.releaseNotice else s.clearTable n

end Sys2Proof.Machine
end

