-- ==== Sys2Proof/Machine/Format.lean ====
section
/-! DEFINITION. Exchange memory as the host sees it: the packing of every published record, the 32-bit read latch, the ownership check of host writes, and the register window (chapters 12.1 and 13). -/

namespace Sys2Proof.Machine

/-! ## Packing (R192) -/

/-- Two byte fields in a word, the first in the low byte. -/
def twoIn (lo hi : Nat) : Word := BitVec.ofNat 16 (lo % 256 + 256 * (hi % 256))

/-- A byte field that may be absent. -/
def optByte (v : Option Nat) : Nat := v.getD 0xFF

/-- A word field. -/
def whole (v : Nat) : Word := BitVec.ofNat 16 v

/-- A flag as a number. -/
def flag (b : Bool) : Nat := if b then 1 else 0

/-- A field of a word: its value at its lowest bit. -/
def fieldAt (v shift : Nat) : Nat := v * 2 ^ shift

/-- The expiry of a timer, absent while it is stopped (R93). -/
def expiryOf (t : Option Timer) : BitVec 32 :=
  match t with
  | none => BitVec.allOnes 32
  | some t => t.expiry

/-- Word k of a 64-bit or 32-bit number, lowest word first. -/
def wordOf (v k : Nat) : Word := BitVec.ofNat 16 (v / 65536 ^ k)

/-! ## Header (R190, R194) -/

/-- The done bitmap: bit n is set exactly while slot n is DONE (R186). -/
def State.doneBitmap (s : State) : BitVec 32 :=
  BitVec.ofNat 32 (((List.range 32).map fun n => if s.slot n = .done then 2 ^ n else 0).foldl (· + ·) 0)

/-- The plan engine state, numbered as R27 lists them: IDLE, CHECK, SEARCH, AUDIT, REFRESH. -/
def Plan.engineState (p : Plan) : Nat :=
  match p.work with
  | .idle => 0
  | .job r => match r.job.work with
    | .check _ _ => 1
    | .search _ => 2
    | .audit => 3
  | .refresh _ => 4

/-- A header word (R194); the ident copy stands in words 0 to 2. -/
def State.headerWord (s : State) (a : Nat) : Word :=
  match a with
  | 0x00 => Config.vendorCode
  | 0x01 => Config.partCode
  | 0x02 => Config.revision
  | 0x04 => lowWord s.board.time
  | 0x05 => highWord s.board.time
  | 0x06 => lowWord s.ref.frames
  | 0x07 => highWord s.ref.frames
  | 0x08 => whole (flag (!s.ref.locked))
  | 0x09 => s.board.stray
  | 0x0A => s.board.refused
  | 0x0C => lowWord s.doneBitmap
  | 0x0D => highWord s.doneBitmap
  | 0x10 => s.links.edition
  | 0x11 => s.plan.edition
  | 0x12 => s.probe.edition
  | 0x13 => s.tally.edition
  | 0x14 => s.lamps.edition
  | 0x15 => s.talk.edition
  | 0x16 => s.lines.edition
  | 0x17 => s.moves.edition
  | 0x18 => twoIn s.plan.engineState s.plan.waiting.length
  | 0x19 => whole (flag s.plan.refreshPending)
  | 0x20 => whole s.probe.state.ctorIdx
  | 0x21 => whole s.probe.unit
  | 0x22 => whole s.probe.settle
  | 0x23 => whole s.probe.nref
  | 0x24 => whole s.probe.recal
  | 0x25 => whole s.probe.lo
  | 0x26 => whole s.probe.hi
  | 0x27 => whole s.probe.cur
  | 0x28 => whole s.probe.measured
  | 0x29 => whole s.probe.sinceRef
  | 0x2A => whole (flag s.probe.hostHold + 2 * flag s.probe.autoHold)
  | 0x2B => whole (flag s.probe.fault)
  | 0x2C => wordOf s.probe.cal.tref 0
  | 0x2D => wordOf s.probe.cal.tref 1
  | 0x2E => whole s.probe.cal.nrefUsed
  | 0x30 => lowWord s.probe.cal.time
  | 0x31 => highWord s.probe.cal.time
  | 0x34 => whole s.talk.latchWindow
  | 0x35 => s.matrix.spills
  | _ => 0

/-! ## Records (R196) -/

/-- The rescue timer field. -/
def RescueTimer.code : RescueTimer → Nat
  | .stopped => 0
  | .running _ => 1
  | .waiting => 2

/-- The byte of a place of the tally source list: line × 128 + source, 0 for an unused place. -/
def sourceByte (l : List (Nat × Nat)) (k : Nat) : Nat :=
  match l[k]? with
  | none => 0
  | some x => 128 * x.1 + x.2

/-- The long times of a link record: rescue time, rescue backoff and hold timeout. -/
def Options.longTimes (o : Options) : Nat := o.rescueTime + fieldAt o.backoff 20 + fieldAt o.hold 42

/-- The last rescue time, absent until the first. -/
def LinkRec.rescueTime32 (r : LinkRec) : BitVec 32 := r.lastRescue.getD (BitVec.allOnes 32)

/-- A word of a link record. -/
def LinkRec.word (r : LinkRec) (w : Nat) : Word :=
  match w with
  | 0 => whole (r.state.ctorIdx + fieldAt r.applied.ctorIdx 4 + fieldAt r.kind.ctorIdx 6 + fieldAt r.studio.ctorIdx 8 + fieldAt r.channel 9 + fieldAt r.unit 11)
  | 1 => twoIn r.originEntry (optByte r.targetEntry)
  | 2 => whole (flag r.lock + fieldAt (flag r.farPresent) 1 + fieldAt (flag r.localMuted) 2 + fieldAt (flag r.mistuned) 3 +
      fieldAt (flag r.retunedOnAir) 4 + fieldAt (flag r.headPending) 5 + fieldAt (flag r.mutePending) 6 + fieldAt (flag r.options.rescue) 7 +
      fieldAt r.rescueTimer.code 8 + fieldAt ((r.moveOrigin.map fun o => o.ctorIdx).getD 3) 10 + fieldAt r.outcome.ctorIdx 12)
  | 3 => twoIn r.rfLevel r.battery
  | 4 => resultOpt r.tuned
  | 5 => twoIn r.options.rfThreshold (optByte r.output)
  | 6 => r.lossCount
  | 7 => lowWord r.lastLoss
  | 8 => highWord r.lastLoss
  | 9 => r.rescueCount
  | 10 => lowWord r.rescueTime32
  | 11 => highWord r.rescueTime32
  | 12 => twoIn (sourceByte r.sources 0) (sourceByte r.sources 1)
  | 13 => twoIn (sourceByte r.sources 2) (sourceByte r.sources 3)
  | 14 => whole r.options.weakTime
  | 15 => whole r.options.lossTime
  | 16 => whole r.options.confirm
  | 17 => whole r.options.searchLo
  | 18 => whole r.options.searchHi
  | 19 => wordOf r.options.longTimes 0
  | 20 => wordOf r.options.longTimes 1
  | 21 => wordOf r.options.longTimes 2
  | 22 => wordOf r.options.longTimes 3
  | 23 => r.edition
  | _ => 0

/-- A word of a plan entry. -/
def PlanEntry.word (e : PlanEntry) (w : Nat) : Word :=
  match w with
  | 0 => twoIn e.status.ctorIdx e.kind.ctorIdx
  | 1 => resultOpt e.owner
  | 2 => whole e.code
  | 3 => whole e.width
  | 4 => whole (flag e.lock + 2 * flag e.mark + fieldAt e.worst.ctorIdx 8)
  | 5 => whole e.count
  | 6 => e.edition
  | _ => 0

/-- A word of an exclusion place. -/
def Exclusion.word (x : Exclusion) (w : Nat) : Word :=
  match w with
  | 0 => whole (flag x.present)
  | 1 => whole x.lo
  | 2 => whole x.hi
  | 3 => x.edition
  | _ => 0

/-- A word of a unit record. -/
def UnitRec.word (u : UnitRec) (w : Nat) : Word :=
  match w with
  | 0 => twoIn (u.state.ctorIdx + fieldAt u.role.ctorIdx 2) u.misses.toNat
  | 1 => twoIn u.good.toNat u.failed.toNat
  | _ => 0

/-- A word of a lamp record. -/
def Lamp.word (p : Lamp) (w : Nat) : Word :=
  match w with
  | 0 => twoIn p.mode.ctorIdx p.state.ctorIdx
  | 1 => whole p.link
  | 2 => twoIn p.dutyOff p.dutyIso
  | 3 => twoIn p.dutyPreview p.dutyProgram
  | 4 => twoIn p.fixed p.fadeN
  | 5 => whole (flag p.alarm + 2 * flag p.inverted)
  | 6 => twoIn p.target p.duty
  | 7 => p.edition
  | _ => 0

/-- A word of a key record. -/
def Key.word (k : Key) (w : Nat) : Word :=
  match w with
  | 0 => whole (k.target + fieldAt k.talking 6 + fieldAt k.summary.ctorIdx 12)
  | 1 => whole (k.held + fieldAt k.queued 6)
  | 2 => whole (k.denied + fieldAt k.atten 6)
  | 3 => whole (k.hang + fieldAt k.mode.ctorIdx 11 + fieldAt k.activity.ctorIdx 13)
  | _ => 0

/-- Station, key and priority of a request. -/
def Waiter.code (w : Waiter) : Nat := w.station + fieldAt w.key 4 + fieldAt w.priority 8

/-- The word of a talker slot; an empty slot is absent. -/
def talkerWord (t : Option Talker) : Word :=
  match t with
  | none => absentWord
  | some t => whole (t.req.code + fieldAt (flag (!t.talking)) 11)

/-- The word of a place of the wait list; an unused place is absent. -/
def waiterWord (w : Option Waiter) : Word :=
  match w with
  | none => absentWord
  | some w => whole w.code

/-- The grant order: four 4-bit fields, the earliest lowest, 15 for an empty slot. -/
def Dest.grantWord (d : Dest) : Word :=
  let g (k : Nat) : Nat := d.grant.getD k 15
  whole (g 0 + fieldAt (g 1) 4 + fieldAt (g 2) 8 + fieldAt (g 3) 12)

/-- A word of a destination record. -/
def Dest.word (d : Dest) (w : Nat) : Word :=
  match w with
  | 0 => d.edition
  | 1 => whole d.base
  | 2 => whole d.offAir
  | 3 => whole d.onAir
  | 4 => whole d.rate
  | 5 => whole d.current
  | 6 => whole d.target
  | 7 => whole (flag d.talking)
  | 8 => d.grantWord
  | 9 => talkerWord (d.slot 0)
  | 10 => talkerWord (d.slot 1)
  | 11 => talkerWord (d.slot 2)
  | 12 => talkerWord (d.slot 3)
  | 21 => whole d.waiters.length
  | _ => if 13 ≤ w ∧ w ≤ 20 then waiterWord d.waiters[w - 13]? else 0

/-- The decoder field: HUNT 0, COLLECTING 1. -/
def Decoder.code : Decoder → Nat
  | .hunt => 0
  | .collecting _ => 1

/-- A word of a line record. -/
def Line.word (r : Line) (w : Nat) : Word :=
  match w with
  | 0 => twoIn r.state.ctorIdx r.decoder.code
  | 1 => whole (flag r.enable + fieldAt r.parity.ctorIdx 1 + fieldAt (r.stopBits - 1) 3 + fieldAt r.filter.ctorIdx 4 + fieldAt (flag r.held) 6)
  | 2 => whole r.rate
  | 3 => whole r.staleTime
  | 4 => wordOf r.staleClear 0
  | 5 => wordOf r.staleClear 1
  | 6 => r.good
  | 7 => r.parityErrors
  | 8 => r.framingErrors
  | 9 => r.frameErrors
  | 10 => r.discarded
  | 11 => lowWord r.lastGood
  | 12 => highWord r.lastGood
  | 13 => r.edition
  | _ => 0

/-- The target request field: the code, or absent for AUTO. -/
def Target.codeWord : Target → Word
  | .code x => whole x
  | .auto _ _ _ => absentWord

/-- The grid step of the target request. DESIGN CHOICE (log entry 27): 0 for an explicit code, which has none. -/
def Target.step : Target → Nat
  | .code _ => 0
  | .auto k _ _ => k

/-- The start of the target request. DESIGN CHOICE (log entry 27): 0 for an explicit code, which has none. -/
def Target.start : Target → Nat
  | .code _ => 0
  | .auto _ st _ => st

/-- The limit of the target request. DESIGN CHOICE (log entry 27): 0 for an explicit code, which has none. -/
def Target.limit : Target → Nat
  | .code _ => 0
  | .auto _ _ lim => lim

/-- A word of a move context. -/
def Ctx.word (x : Ctx) (w : Nat) : Word :=
  match w with
  | 0 => twoIn x.phase.ctorIdx x.link
  | 1 => whole (optByte x.slot + fieldAt x.origin.ctorIdx 8 + fieldAt (flag x.holdTimer.isSome) 9 + fieldAt (flag x.confirmTimer.isSome) 10 +
      fieldAt (flag x.queryTimer.isSome) 11)
  | 2 => x.target.codeWord
  | 3 => twoIn (optByte x.targetEntry) x.target.step
  | 4 => whole x.target.start
  | 5 => whole x.target.limit
  | 6 => resultOpt x.targetCode
  | 7 => whole (flag x.urgent + fieldAt (flag x.manualGo) 1 + fieldAt (flag x.force) 2 + fieldAt (flag x.override) 3 + fieldAt (flag x.go) 4 +
      fieldAt (flag x.abort) 5 + fieldAt x.outcome.ctorIdx 6 + fieldAt x.cause.ctorIdx 10 + fieldAt x.reason.ctorIdx 12)
  | 8 => whole x.examined
  | 9 => lowWord (expiryOf x.holdTimer)
  | 10 => highWord (expiryOf x.holdTimer)
  | 11 => lowWord (expiryOf x.confirmTimer)
  | 12 => highWord (expiryOf x.confirmTimer)
  | 13 => lowWord (expiryOf x.queryTimer)
  | 14 => highWord (expiryOf x.queryTimer)
  | 15 => x.edition
  | _ => 0

/-- A word of the occupancy map: bins 2k and 2k + 1 (R197). -/
def Probe.levelWord (p : Probe) (k : Nat) : Word := twoIn (p.levels.get 0 (2 * k)) (p.levels.get 0 (2 * k + 1))

/-- A word of the own-mark map: bins 16k to 16k + 15 (R197). -/
def Probe.markWord (p : Probe) (k : Nat) : Word :=
  whole (((List.range 16).map fun i => if p.ownMarks.get false (16 * k + i) then 2 ^ i else 0).foldl (· + ·) 0)

/-! ## Memory map (R191) -/

/-- The present value of any word: a slot word, a published word, or 0 for an unassigned word. -/
def State.word (s : State) (a : Nat) : Word :=
  if a < 0x0040 then s.headerWord a
  else if a < 0x0440 then
    let n := (a - 0x0040) / 32
    let w := (a - 0x0040) % 32
    if w = 0 then whole (s.slot n).ctorIdx else s.slotWord n w
  else if a < 0x0740 then (s.link ((a - 0x0440) / 24)).word ((a - 0x0440) % 24)
  else if a < 0x08C0 then (s.entry ((a - 0x0740) / 8)).word ((a - 0x0740) % 8)
  else if a < 0x08E0 then (look s.plan.exclusions ((a - 0x08C0) / 4)).word ((a - 0x08C0) % 4)
  else if a < 0x0900 then (look s.bus.units ((a - 0x08E0) / 2)).word ((a - 0x08E0) % 2)
  else if a < 0x0980 then whole (look s.tally.sources (a - 0x0900)).ctorIdx
  else if a < 0x0A40 then (s.lamp ((a - 0x0980) / 8)).word ((a - 0x0980) % 8)
  else if a < 0x0D40 then (s.key ((a - 0x0A40) / 4)).word ((a - 0x0A40) % 4)
  else if a < 0x0D50 then whole (look s.talk.stations (a - 0x0D40))
  else if a < 0x1050 then (s.dest ((a - 0x0D50) / 24)).word ((a - 0x0D50) % 24)
  else if a < 0x1080 then (s.line ((a - 0x1050) / 16)).word ((a - 0x1050) % 16)
  else if a < 0x10C0 then (s.ctx ((a - 0x1080) / 16)).word ((a - 0x1080) % 16)
  else if a < 0x1400 then 0
  else if a < 0x1720 then s.probe.levelWord (a - 0x1400)
  else if a < 0x1784 then s.probe.markWord (a - 0x1720)
  else 0

/-! ## The 32-bit read latch (R182) -/

/-- The words at which a slot of a kind begins a 32-bit field, of a parameter or of a result (R195). -/
def slotLow32 (kind w : Nat) : Bool :=
  match kind with
  | 7 => [6, 8, 10, 12, 14, 16].contains w
  | 9 => w == 8
  | 14 => [18, 20, 23].contains w
  | 16 => [10, 12, 15].contains w
  | 20 => w == 11
  | _ => false

/-- Word a is the low word of a 32-bit field (R182, R194 to R196). -/
def State.isLow32 (s : State) (a : Nat) : Bool :=
  if a < 0x0040 then [0x04, 0x06, 0x0C, 0x2C, 0x30].contains a
  else if a < 0x0440 then slotLow32 (s.param ((a - 0x0040) / 32) 1) ((a - 0x0040) % 32)
  else if a < 0x0740 then [7, 10].contains ((a - 0x0440) % 24)
  else if 0x1050 ≤ a ∧ a < 0x1080 then [4, 11].contains ((a - 0x1050) % 16)
  else if 0x1080 ≤ a ∧ a < 0x10C0 then [9, 11, 13].contains ((a - 0x1080) % 16)
  else false

/-- Word a is the high word of a 32-bit field. -/
def State.isHigh32 (s : State) (a : Nat) : Bool := decide (0 < a) && s.isLow32 (a - 1)

/-- What a read of word a returns and what it leaves in the latch, once initialised (R182). -/
def State.latchedRead (s : State) (a : Nat) : Word × Option (Nat × Word) :=
  if s.isLow32 a then (s.word a, some (a, s.word (a + 1)))
  else if s.isHigh32 a then
    match s.board.latch with
    | none => (s.word a, none)
    | some (low, h) => if low = a - 1 then (h, none) else (s.word a, some (low, h))
  else (s.word a, s.board.latch)

/-- A host read of word a: 0 while READY reads 0 (R181, R182). -/
def State.hostRead (s : State) (a : Nat) : State :=
  if s.board.ready then
    { s with board := { s.board with hostData := (s.latchedRead a).1, latch := (s.latchedRead a).2 } }
  else { s with board := { s.board with hostData := 0 } }

/-! ## Host writes (R181, R183) -/

/-- A dropped write is counted (R181). -/
def State.dropWrite (s : State) : State := { s with board := { s.board with refused := satInc s.board.refused } }

/-- Slot n's words 1 to 31 are open to the host (R183). -/
def SlotState.hostOwns : SlotState → Bool
  | .free => true
  | .posted => true
  | .taken => false
  | .done => false

/-- A host write of v to slot n's state word (R183). -/
def State.writeSlotState (s : State) (n : Nat) (v : Word) : State :=
  match s.slot n with
  | .free => if v = 1 then s.setSlot n .posted else s.dropWrite
  | .posted => if v = 0 then s.setSlot n .free else s.dropWrite
  | .taken => s.dropWrite
  | .done => if v = 0 then s.setSlot n .free else s.dropWrite

/-- A host write of word a, once initialised: checked against the slot's state, or dropped outside the board (R181, R183). -/
def State.checkedWrite (s : State) (a : Nat) (v : Word) : State :=
  if Config.boardBase ≤ a ∧ a < Config.boardEnd then
    let n := (a - Config.boardBase) / 32
    let w := (a - Config.boardBase) % 32
    if w = 0 then s.writeSlotState n v
    else if (s.slot n).hostOwns then s.setSlotWord n w v
    else s.dropWrite
  else s.dropWrite

/-- A host write of word a: dropped uncounted while READY reads 0 (R181, R189). -/
def State.hostWrite (s : State) (a : Nat) (v : Word) : State := if s.board.ready then s.checkedWrite a v else s

/-! ## Register window (R184, R188, R189, R193) -/

/-- A host read of the register window: EVENTS and EVENT_ENABLE read 0 while READY reads 0, RESET reads 0 (R188, R189, R193). DESIGN CHOICE (log entry 27): an offset above 6, where R193 gives no register, reads 0, and so does every bit that R193 does not list (bits 9 to 15 of EVENTS and EVENT_ENABLE, 2 to 15 of CONTROL). -/
def State.register (s : State) (offset : Nat) : Word :=
  match offset with
  | 0 => if s.board.ready then s.board.events.setWidth 16 else 0
  | 1 => if s.board.ready then s.board.enable.setWidth 16 else 0
  | 2 => whole s.board.attention.length
  | 3 => whole (2 * flag s.board.ready)
  | 4 => Config.vendorCode
  | 5 => Config.partCode
  | 6 => Config.revision
  | _ => 0

end Sys2Proof.Machine
end

