-- ==== Sys2Proof/Machine/PlanRequests.lean ====
section
/-! DEFINITION. The requests of the plan engine and the occupancy probe, from the take of their slot (chapters 1 to 3). A handler is given the state with its slot TAKEN. -/

namespace Sys2Proof.Machine

/-! ## Plan rules and exclusions (R8, R9) -/

/-- A selected value clamped, or the value in force. -/
def selected (mask k lo hi raw cur : Nat) : Clamped :=
  if maskBit mask k then clampTo lo hi raw else { value := cur, was := false }

/-- The plan rules a SET_RULES in slot n writes, and whether a selected value was clamped (R9, R195). -/
def State.rulesField (s : State) (n : Nat) : Rules × Bool :=
  let r := s.plan.rules
  let f (k lo hi cur : Nat) : Clamped := selected (s.param n 4) k lo hi (s.param n (5 + k)) cur
  let adj := f 0 0 400 r.gAdj
  let g3 := f 1 0 200 r.g3
  let g5 := f 2 0 200 r.g5
  let im5 := f 3 0 1 (flag r.im5)
  let thr := f 4 1 255 r.threshold
  let ovr := f 5 0 1 (flag r.lockOverride)
  let mic := f 6 1 Config.maxWidth r.widthMic
  let iem := f 7 1 Config.maxWidth r.widthIem
  let cam := f 8 1 Config.maxWidth r.widthCamera
  ({ gAdj := adj.value, g3 := g3.value, g5 := g5.value, im5 := decide (im5.value = 1), threshold := thr.value,
     lockOverride := decide (ovr.value = 1), widthMic := mic.value, widthIem := iem.value, widthCamera := cam.value },
   adj.was || g3.was || g5.was || im5.was || thr.was || ovr.was || mic.was || iem.was || cam.was)

/-- New plan rules are written: a change increments the plan edition and sets refresh-pending (R9). -/
def State.writeRules (s : State) (r : Rules) : State :=
  if r = s.plan.rules then s else ({ s with plan := { s.plan with rules := r } }.planRewrite).setRefreshPending

/-- SET_RULES (R9). -/
def State.doSetRules (s : State) (n : Nat) : State :=
  (s.writeRules (s.rulesField n).1).complete n (okOrClamped (s.rulesField n).2)

/-- An exclusion place is written: a change increments both editions and sets refresh-pending (R8). -/
def State.writeExclusion (s : State) (place : Nat) (present : Bool) (lo hi : Nat) : State :=
  let x := look s.plan.exclusions place
  if x.present = present ∧ x.lo = lo ∧ x.hi = hi then s
  else
    ({ s with plan := { s.plan with exclusions := put s.plan.exclusions place { present := present, lo := lo, hi := hi, edition := x.edition + 1 } } }.planRewrite).setRefreshPending

/-- SET_EXCLUSION (R8). -/
def State.doSetExclusion (s : State) (n : Nat) : State :=
  let place := s.param n 4
  let action := s.param n 5
  let lo := clampTo 0 Config.maxCode (s.param n 6)
  let hi := clampTo 0 Config.maxCode (s.param n 7)
  if 7 < place ∨ 1 < action then s.complete n .badField
  else if action = 0 then (s.writeExclusion place false 0 0).complete n .ok
  else if hi.value < lo.value then s.complete n .badField
  else (s.writeExclusion place true lo.value hi.value).complete n (okOrClamped (lo.was || hi.was))

/-! ## Plan jobs of the host (R38 to R40) -/

/-- A half-width that may be left to the default: 0 stands for it (R37, R38, R77). -/
def widthField (v : Nat) : Clamped := clampOpt 1 Config.maxWidth 0 (optNonzero v)

/-- PLACE (R38): the search parameters, then the link's binding, then room in the list. -/
def State.doPlace (s : State) (n : Nat) : State :=
  let refuse (r : Result) : State := s.complete n r (placeWords none 0)
  let width := widthField (s.param n 5)
  let link := optWord (s.param n 6)
  let g := gridField (s.param n 7) (s.param n 8) (s.param n 9) (s.param n 10) (s.param n 11)
  match linkKindOf (s.param n 4) with
  | none => refuse .badField
  | some k =>
    if (31 < link.getD 0) ∨ g.bad then refuse .badField
    else if link.isSome ∧ (s.link (link.getD 0)).state = .vacant then refuse .notBound
    else if s.hostJobsFull then refuse .busy
    else s.pushJob { source := .place n, work := .search g.grid, kind := .link, width := width.value, linkKind := k, link := link,
                     clamped := width.was || g.was }

/-- SET_CARRIER (R39): the entry's checks, then room in the list. -/
def State.doSetCarrier (s : State) (n : Nat) : State :=
  let refuse (r : Result) : State := s.complete n r (carrierWords none none)
  let code := clampTo 0 Config.maxCode (s.param n 4)
  let width := clampTo 1 Config.maxWidth (s.param n 5)
  let entry := optWord (s.param n 6)
  let flags := s.param n 7
  let accept : State :=
    if s.hostJobsFull then refuse .busy
    else s.pushJob { source := .setCarrier n entry, work := .check code.value (flagForce flags), kind := .foreign, width := width.value,
                     linkKind := .camera, link := none, clamped := code.was || width.was }
  match entry with
  | none => accept
  | some e =>
    if 47 < e then refuse .badField
    else if !(s.entry e).inUse then refuse .notFound
    else if (s.entry e).kind = .link then refuse .inUse
    else if s.carrierNamed e then refuse .busy
    else if s.lockRefuses e (flagOverride flags) then refuse .locked
    else accept

/-- CLEAR_CARRIER (R18). -/
def State.doClearCarrier (s : State) (n : Nat) : State :=
  let e := s.param n 4
  if 47 < e then s.complete n .badField
  else if !(s.entry e).inUse then s.complete n .notFound
  else if (s.entry e).kind = .link then s.complete n .inUse
  else if s.carrierNamed e then s.complete n .busy
  else if s.lockRefuses e (flagOverride (s.param n 5)) then s.complete n .locked
  else (s.freeEntry e).complete n .ok

/-- The lock flag of entry e is written: a change increments both editions (R13). -/
def State.writeLock (s : State) (e : Nat) (lock : Bool) : State :=
  if (s.entry e).lock = lock then s
  else (s.setEntry e fun x => { x with lock := lock, edition := x.edition + 1 }).planRewrite

/-- LOCK_CARRIER (R13). -/
def State.doLockCarrier (s : State) (n : Nat) : State :=
  let e := s.param n 4
  let action := s.param n 5
  if 47 < e ∨ 1 < action then s.complete n .badField
  else match (s.entry e).status with
    | .free => s.complete n .notFound
    | .reserved => s.complete n .inUse
    | .active => (s.writeLock e (decide (action = 1))).complete n .ok

/-- AUDIT (R40). -/
def State.doAudit (s : State) (n : Nat) : State :=
  if s.hostJobsFull then s.complete n .busy (auditWords 0 0 [])
  else s.pushJob { source := .audit n, work := .audit, kind := .link, width := 0, linkKind := .camera, link := none, clamped := false }

/-! ## Occupancy probe (R42, R50, R53, R56, R57) -/

/-- A bound link uses unit a, or a binding in progress claims it (R42). -/
def State.unitClaimed (s : State) (a : Nat) : Bool :=
  !(s.linksOfUnit a).isEmpty || s.links.bindings.any fun b => decide (b.unit = a)

/-- The probe unit changes from the present one to a (R42, R69). -/
def State.nameProbeUnit (s : State) (a : Nat) : State :=
  let old := s.probe.unit
  if a = old then s
  else
    let s1 := if old = 0 then s else s.unitReleased old
    let s2 := if a = 0 then s1 else s1.unitReferred a .probe
    s2.setProbe fun p => { p with unit := a }

/-- SET_PROBE (R42). -/
def State.doSetProbe (s : State) (n : Nat) : State :=
  let a := s.param n 4
  let settle := clampTo 0 50 (s.param n 5)
  let nref := clampTo 256 65535 (s.param n 6)
  let recal := clampTo 1 1600 (s.param n 7)
  if s.probe.sweeping then s.complete n .busy
  else if 16 < a then s.complete n .badField
  else if s.unitClaimed a then s.complete n .inUse
  else
    let s1 := (s.nameProbeUnit a).setProbe fun p => { p with settle := settle.value, nref := nref.value, recal := recal.value }
    let s2 := if s1.probe = s.probe then s1 else s1.raise .probe
    s2.complete n (okOrClamped (settle.was || nref.was || recal.was))

/-- The sweep a SCAN creates: HELD under the automatic hold, in its first reference phase otherwise (R50, R54). -/
def Probe.startSweep (p : Probe) (slot lo hi : Nat) (clamped : Bool) : Probe :=
  let p1 := { p with lo := lo, hi := hi, cur := lo, measured := 0, sinceRef := 0, hostHold := false, slot := some slot, clamped := clamped,
                     lastBin := none, phase := .reference, settleTimer := none, window := none, offer := none }
  if p.autoHold then { p1 with state := .held } else p1.beginPhase .reference

/-- The result words of a SCAN refused at its take (R186, R195). -/
def scanRefusedWords : List (Nat × Word) := [(6, 0), (7, absentWord), (8, absentWord), (9, absentWord)]

/-- SCAN (R50). -/
def State.doScan (s : State) (n : Nat) : State :=
  let refuse (r : Result) : State := s.complete n r scanRefusedWords
  let lo := clampTo 0 (Config.bins - 1) (s.param n 4)
  let hi := clampTo 0 (Config.bins - 1) (s.param n 5)
  if s.probe.fault then refuse .faulted
  else if s.probe.sweeping then refuse .busy
  else if s.probe.unit = 0 then refuse .notFound
  else if hi.value < lo.value then refuse .badField
  else (s.setProbe fun p => p.startSweep n lo.value hi.value (lo.was || hi.was)).raise .probe

/-- The host hold is set; it takes effect on the sweep (R53, R54). -/
def State.setHostHold (s : State) : State :=
  if s.probe.hostHold then s else ((s.setProbe fun p => { p with hostHold := true }).raise .probe).holdEffect

/-- The host hold is cleared; the release takes effect on the sweep (R53, R54). -/
def State.clearHostHold (s : State) : State :=
  if s.probe.hostHold then ((s.setProbe fun p => { p with hostHold := false }).raise .probe).releaseEffect else s

/-- HOLD_SCAN (R53). -/
def State.doHoldScan (s : State) (n : Nat) : State :=
  if s.probe.sweeping then s.setHostHold.complete n .ok else s.complete n .notFound

/-- RESUME_SCAN (R53). -/
def State.doResumeScan (s : State) (n : Nat) : State :=
  if s.probe.sweeping then s.clearHostHold.complete n .ok else s.complete n .notFound

/-- CLEAR_PROBE_FAULT (R56). -/
def State.doClearProbeFault (s : State) (n : Nat) : State :=
  (if s.probe.fault then (s.setProbe fun p => { p with fault := false }).raise .probe else s).complete n .ok

/-- Both maps are cleared; the occupancy edition counts it when a level or a mark was not zero (R57). -/
def State.clearMaps (s : State) : State :=
  if s.probe.levels = [] ∧ s.probe.ownMarks = [] then s
  else (s.setProbe fun p => { p with levels := [], ownMarks := [] }).occupancyRewrite

/-- CLEAR_MAP (R57). -/
def State.doClearMap (s : State) (n : Nat) : State :=
  if s.probe.sweeping then s.complete n .busy else s.clearMaps.complete n .ok

end Sys2Proof.Machine
end

