-- ==== Sys2Proof/Machine/LinkRequests.lean ====
section
/-! DEFINITION. The requests of the link supervisor, the move controller, the receive lines and the tally resolver, and ABORT (chapters 5 to 8, R187). -/

namespace Sys2Proof.Machine

/-! ## BIND_LINK (R77, R78) -/

/-- A BIND_LINK whose fields stand: the binding it begins, its plan job and its clamps. -/
structure BindFields where
  binding : Binding
  work : JobWork
  width : Nat
  deriving DecidableEq, Repr

/-- The matrix output of a BIND_LINK: absent for a MIC link, none when a CAMERA or IEM link's is out of range (R77, step 2). -/
def outputField (k : LinkKind) (v : Nat) : Option (Option Nat) :=
  match k with
  | .mic => some none
  | .camera => if v ≤ 31 then some (some v) else none
  | .iem => if v ≤ 31 then some (some v) else none

/-- The fields of the BIND_LINK in slot n; none where R77's steps 1 to 3 complete BAD_FIELD. -/
def State.bindFields (s : State) (n : Nat) : Option BindFields := do
  let kind ← linkKindOf (lowByte (s.param n 5))
  let studio ← studioOf (highByte (s.param n 5))
  let sources ← s.sourceList n 28 (s.param n 27)
  let output ← outputField kind (s.param n 7)
  let link := s.param n 4
  let unit := lowByte (s.param n 6)
  let channel := highByte (s.param n 6)
  let auto := decide (s.param n 9 = 0xFFFF)
  let force := flagForce (s.param n 13)
  let code := clampTo 0 Config.maxCode (s.param n 9)
  let width := widthField (s.param n 8)
  let o := (s.optionWords n 14).read Options.default
  let g := gridField o.options.searchLo o.options.searchHi (s.param n 10) (s.param n 11) (s.param n 12)
  if 31 < link ∨ unit = 0 ∨ 16 < unit ∨ 3 < channel ∨ (force && auto) ∨ o.bad then none
  else
    some
      { binding :=
          { slot := n, link := link, kind := kind, studio := studio, unit := unit, channel := channel, output := output, options := o.options,
            sources := sources, clamped := width.was || o.was || (if auto then g.was else code.was), stage := .seeking, entry := 0, code := 0,
            examined := 0, reason := none, farCause := .none }
        work := if auto then .search g.grid else .check code.value force
        width := width.value }

/-- A bound link satisfies p. -/
def State.someBound (s : State) (p : LinkRec → Bool) : Bool :=
  !(placesWhere 32 fun l => decide ((s.link l).state ≠ .vacant) && p (s.link l)).isEmpty

/-- The link, unit and channel pair or matrix output of b is taken (R77, steps 4 to 7). -/
def State.claimsTaken (s : State) (b : Binding) : Bool :=
  decide ((s.link b.link).state ≠ .vacant) || s.links.bindings.any (fun x => decide (x.link = b.link)) ||
  decide (s.probe.unit = b.unit) ||
  s.someBound (fun r => decide (r.unit = b.unit ∧ r.channel = b.channel)) ||
  s.links.bindings.any (fun x => decide (x.unit = b.unit ∧ x.channel = b.channel)) ||
  (b.output.isSome && (s.someBound (fun r => decide (r.output = b.output)) || s.links.bindings.any (fun x => decide (x.output = b.output))))

/-- BIND_LINK (R77). -/
def State.doBindLink (s : State) (n : Nat) : State :=
  let refuse (r : Result) : State := s.complete n r (bindWords none none 0 none .none)
  match s.bindFields n with
  | none => refuse .badField
  | some f =>
    if s.claimsTaken f.binding then refuse .inUse
    else if s.hostJobsFull then refuse .busy
    else (s.mapBindings fun bs => bs ++ [f.binding]).pushJob
      { source := .bind n f.binding.link, work := f.work, kind := .link, width := f.width, linkKind := f.binding.kind, link := none,
        clamped := f.binding.clamped }

/-! ## UNBIND_LINK (R80) -/

/-- The link supervisor's and the tally resolver's transactions of link l are withdrawn or end unreported (R66, R80, R128). -/
def State.dropLinkTransactions (s : State) (l : Nat) : State :=
  (s.dropUnmute l).endInstance (.head l)

/-- Unit a becomes UNUSED when no link is bound to it any more, and the poller lets go of it (R69, R72). -/
def State.releaseUnit (s : State) (a : Nat) : State :=
  if (s.linksOfUnit a).isEmpty then (s.unitReleased a).pollDrop a else s

/-- Link l is unbound, with all the effects of R80. DESIGN CHOICE (log entry 10): the record becoming VACANT is one rewrite, and HEAD_TALLY_PENDING is cleared within it, not by a rewrite of its own (R138, R74). -/
def State.unbind (s : State) (l : Nat) : State :=
  let s1 := (s.freeEntry (s.link l).originEntry).settleOrigin l
  let s2 := (((s1.dropLinkTransactions l).tallyUnbind l).talkUnbind l).duckUnbind l
  let s3 := (s2.rewriteLink l fun _ => LinkRec.vacant).lampLevelChange l
  s3.releaseUnit (s.link l).unit

/-- UNBIND_LINK (R80). -/
def State.doUnbindLink (s : State) (n : Nat) : State :=
  let l := s.param n 4
  if 31 < l then s.complete n .badField
  else if (s.link l).state = .vacant then s.complete n .notBound
  else if s.tuning l then s.complete n .busy
  else if (s.ctxOf l).isSome then s.complete n .inUse
  else if s.lockRefuses (s.link l).originEntry (flagOverride (s.param n 5)) then s.complete n .locked
  else (s.unbind l).complete n .ok

/-! ## SET_LINK_OPTIONS and RESOLVE_LINK (R73, R81, R92) -/

/-- Link l takes new options: a change rewrites the record, and a change of rescue acts on the rescue timer at once (R81). -/
def State.writeOptions (s : State) (l : Nat) (o : Options) : State :=
  let old := (s.link l).options
  if o = old then s
  else
    let s1 := s.rewriteLink l fun r => { r with options := o }
    if old.rescue ∧ !o.rescue then s1.setRescue l .stopped
    else if !old.rescue ∧ o.rescue then s1.startRescue l
    else s1

/-- The poll gap of a SET_LINK_OPTIONS in slot n, when it carries one (R73, R195). -/
def State.gapField (s : State) (n : Nat) : Option Nat := if maskBit (s.param n 5) 10 then optWord (s.param n 19) else none

/-- The poll gap carried by the request is written (R73). -/
def State.writeGap (s : State) (gap : Option Nat) : State :=
  match gap with
  | none => s
  | some v => { s with bus := { s.bus with pollGap := clamp 0 1000 v } }

/-- SET_LINK_OPTIONS (R73, R81). -/
def State.doSetLinkOptions (s : State) (n : Nat) : State :=
  let gap := s.gapField n
  let gapWas := (clampOpt 0 1000 0 gap).was
  match optWord (s.param n 4) with
  | none => (s.writeGap gap).complete n (okOrClamped gapWas)
  | some l =>
    let f := ((s.optionWords n 6).select (s.param n 5)).read (s.link l).options
    if 31 < l then s.complete n .badField
    else if (s.link l).state = .vacant then s.complete n .notBound
    else if s.tuning l then s.complete n .busy
    else if (s.ctxOf l).isSome then s.complete n .inUse
    else if f.bad then s.complete n .badField
    else ((s.writeOptions l f.options).writeGap gap).complete n (okOrClamped (f.was || gapWas))

/-- RESOLVE_LINK (R92). -/
def State.doResolveLink (s : State) (n : Nat) : State :=
  let l := s.param n 4
  let keep := s.param n 5
  if 31 < l ∨ 1 < keep then s.complete n .badField
  else if (s.link l).state = .vacant then s.complete n .notBound
  else if (s.link l).state ≠ .adrift then s.complete n .notFound
  else if keep = 0 then ((s.settleOrigin l).linkChange l fun r => { r.keptOrigin with state := .bound }).complete n .ok
  else ((s.settleTarget l).linkChange l fun r => { r.keptTarget with state := .bound }).complete n .ok

/-! ## MOVE_LINK and GO_MOVE (R95, R100) -/

/-- The target a MOVE_LINK asks for, and whether a field of it was clamped (R95, step 2). -/
def State.moveTarget (s : State) (n : Nat) (o : Options) : Target × Bool :=
  if s.param n 5 = 0xFFFF then
    let k := stepField (s.param n 6)
    let st := startField o.searchLo o.searchHi (s.param n 7)
    let lim := limitField (s.param n 8)
    (.auto k.value st.value lim.value, k.was || st.was || lim.was)
  else
    let code := clampTo 0 Config.maxCode (s.param n 5)
    (.code code.value, code.was)

/-- MOVE_LINK (R95). -/
def State.doMoveLink (s : State) (n : Nat) : State :=
  let refuse (r : Result) : State := s.complete n r (moveWords none none 0 none .none 0)
  let l := s.param n 4
  let flags := s.param n 9
  let t := s.moveTarget n (s.link l).options
  if 31 < l ∨ (flagForce flags ∧ s.param n 5 = 0xFFFF) then refuse .badField
  else if (s.link l).state = .vacant then refuse .notBound
  else if s.tuning l then refuse .busy
  else if (s.link l).state = .adrift then refuse .adrift
  else if (s.ctxOf l).isSome then refuse .inUse
  else if s.lockRefuses (s.link l).originEntry (flagOverride flags) then refuse .locked
  else match s.freeCtx with
    | none => refuse .busy
    | some c => s.openCtx c
        { link := l, slot := some n, origin := .host, target := t.1, urgent := flagUrgent flags, manualGo := flagManualGo flags,
          force := flagForce flags, override := flagOverride flags, clamped := t.2 }

/-- GO received is set in context c, and the conditions of R98 are tested (R100). -/
def State.goReceived (s : State) (c : Nat) : State :=
  (if (s.ctx c).go then s else s.rewriteCtx c fun x => { x with go := true }).heldTest c

/-- GO_MOVE (R100). -/
def State.doGoMove (s : State) (n : Nat) : State :=
  let l := s.param n 4
  if 31 < l then s.complete n .badField
  else match s.ctxOf l with
    | none => s.complete n .notFound
    | some c => if (s.ctx c).phase = .held then (s.goReceived c).complete n .ok else s.complete n .notFound

/-! ## SET_LINE (R115, R116) -/

/-- The configuration a SET_LINE carries. -/
structure LineFields where
  enable : Bool
  rate : Nat
  parity : Parity
  stopBits : Nat
  filter : NoiseFilter
  staleTime : Clamped
  staleClear : Clamped
  deriving DecidableEq, Repr

/-- The fields of the SET_LINE in slot n; none where R115 completes BAD_FIELD. -/
def State.lineFields (s : State) (n : Nat) : Option LineFields := do
  let parity ← parityOf (s.param n 7)
  let filter ← filterOf (s.param n 9)
  if 2 < s.param n 4 ∨ 1 < s.param n 5 ∨ 4 < s.param n 6 ∨ s.param n 8 = 0 ∨ 2 < s.param n 8 then none
  else
    some { enable := decide (s.param n 5 = 1), rate := s.param n 6, parity := parity, stopBits := s.param n 8, filter := filter,
           staleTime := clampTo 100 10000 (s.param n 10), staleClear := clampTo 1000 600000 (s.param32 n 11) }

/-- The request carries a rate, parity, stop-bit count or filter that differs from the one in force. -/
def Line.serialDiffers (r : Line) (f : LineFields) : Bool :=
  decide (r.rate ≠ f.rate ∨ r.parity ≠ f.parity ∨ r.stopBits ≠ f.stopBits ∨ r.filter ≠ f.filter)

/-- The line's record after a SET_LINE: an enabled line keeps its serial settings, and a change of enable changes the state (R115, R116). -/
def Line.configured (r : Line) (f : LineFields) : Line :=
  let r1 := { r with enable := f.enable, staleTime := f.staleTime.value, staleClear := f.staleClear.value }
  let r2 := if r.enable then r1 else { r1 with rate := f.rate, parity := f.parity, stopBits := f.stopBits, filter := f.filter }
  if r.enable ∧ !f.enable then r2.disabled else if !r.enable ∧ f.enable then r2.enabled else r2

/-- A SET_LINE's fields written into line l: a change is a rewrite, and a disabled line tells the other blocks (R115, R116). -/
def State.configureLine (s : State) (l : Nat) (f : LineFields) : State :=
  let r := s.line l
  let s1 := if r.configured f = r then s else s.rewriteLine l fun r => r.configured f
  if r.enable ∧ !f.enable then s1.lineDisabled l else s1

/-- SET_LINE (R115). -/
def State.doSetLine (s : State) (n : Nat) : State :=
  let l := s.param n 4
  match s.lineFields n with
  | none => s.complete n .badField
  | some f =>
    (s.configureLine l f).complete n
      (if (s.line l).enable ∧ (s.line l).serialDiffers f then .lineActive else okOrClamped (f.staleTime.was || f.staleClear.was))

/-! ## Tally requests (R131, R132) -/

/-- The result words of SET_TALLY_SOURCES (R195). -/
def sourcesWords (pending applied : Option Tally) : List (Nat × Word) :=
  [(10, resultOpt (pending.map (·.ctorIdx))), (11, resultOpt (applied.map (·.ctorIdx)))]

/-- Link l takes a new source list: a change is a rewrite, and the pending tally is recomputed (R131). -/
def State.writeSources (s : State) (l : Nat) (sources : List (Nat × Nat)) : State :=
  (if (s.link l).sources = sources then s else s.rewriteLink l fun r => { r with sources := sources }).recomputePending l

/-- SET_TALLY_SOURCES (R131). -/
def State.doSetTallySources (s : State) (n : Nat) : State :=
  let l := s.param n 4
  match s.sourceList n 6 (s.param n 5) with
  | none => s.complete n .badField (sourcesWords none none)
  | some sources =>
    if 31 < l then s.complete n .badField (sourcesWords none none)
    else if (s.link l).state = .vacant then s.complete n .notBound (sourcesWords none none)
    else
      let s1 := s.writeSources l sources
      s1.complete n .ok (sourcesWords (some (s1.linkTally l).pending) (some (s1.link l).applied))

/-- The result words of SET_TALLY_OVERRIDE (R195). -/
def overrideWords (previous : Option Override) (pending applied : Option Tally) : List (Nat × Word) :=
  [(6, resultOpt (previous.map (·.ctorIdx))), (7, resultOpt (pending.map (·.ctorIdx))), (8, resultOpt (applied.map (·.ctorIdx)))]

/-- SET_TALLY_OVERRIDE (R132). -/
def State.doSetTallyOverride (s : State) (n : Nat) : State :=
  let l := s.param n 4
  match overrideOf (s.param n 5) with
  | none => s.complete n .badField (overrideWords none none none)
  | some o =>
    if 31 < l then s.complete n .badField (overrideWords none none none)
    else if (s.link l).state = .vacant then s.complete n .notBound (overrideWords none none none)
    else
      let s1 := (s.setLinkTally l fun t => { t with override := o }).recomputePending l
      s1.complete n .ok (overrideWords (some (s.linkTally l).override) (some (s1.linkTally l).pending) (some (s1.link l).applied))

/-! ## ABORT (R30, R55, R78, R112, R187) -/

/-- The running job is the work of the request in slot m. A BIND_LINK's job past its commit is no longer: from there the binding holds the slot (R78), and once it has completed it (R79) the slot may hold another request. -/
def Running.worksFor (r : Running) (m : Nat) : Bool :=
  match r.job.source with
  | .bind n _ => decide (n = m ∧ r.stage = .testing)
  | src => decide (src.slot? = some m)

/-- The running job, if it is the work of the request in slot m (R30). -/
def State.runningFor (s : State) (m : Nat) : Option Running :=
  match s.plan.work with
  | .job r => if r.worksFor m then some r else none
  | .idle => none
  | .refresh _ => none

/-- The answer of the running job of the aborted slot (R30). -/
def State.abortRunningJob (s : State) (r : Running) : Result × State :=
  match r.stage with
  | .testing => (.ok, s.abortRunning)
  | .closing _ _ => (.tooLate, s)
  | .auditing _ => (.tooLate, s)

/-- The context of the move in slot m. -/
def State.ctxOfSlot (s : State) (m : Nat) : Option Nat :=
  (placesWhere 4 fun c => decide ((s.ctx c).phase ≠ .free ∧ (s.ctx c).slot = some m)).head?

/-- ABORT of the request in a TAKEN slot m, answered by the block that holds it: the plan engine, a binding past its commit, a move, a sweep. -/
def State.abortHolder (s : State) (m : Nat) : Result × State :=
  match s.plan.waiting.find? fun j => decide (j.source.slot? = some m) with
  | some j => (.ok, (s.withdrawJob j.source).jobFailed j .aborted 0 none)
  | none =>
    match s.runningFor m with
    | some r => s.abortRunningJob r
    | none =>
      if s.links.bindings.any fun b => decide (b.slot = m) then (.tooLate, s)
      else
        match s.ctxOfSlot m with
        | some c => s.abortMove c
        | none => if s.probe.slot = some m then (.ok, s.endSweep .aborted false) else (.notFound, s)

/-- The answer of an ABORT naming slot m (R187). -/
def State.abortSlot (s : State) (m : Nat) : Result × State :=
  match s.slot m with
  | .free => (.notFound, s)
  | .posted => (.notFound, s)
  | .done => (.tooLate, s)
  | .taken => s.abortHolder m

/-- The answer of an ABORT naming link l (R112, R187). -/
def State.abortLink (s : State) (l : Nat) : Result × State :=
  match s.ctxOf l with
  | none => (.notFound, s)
  | some c => s.abortMove c

/-- ABORT (R187). -/
def State.doAbort (s : State) (n : Nat) : State :=
  let selector := s.param n 4
  let m := s.param n 5
  if 1 < selector ∨ 31 < m ∨ (selector = 0 ∧ m = n) then s.complete n .badField
  else
    let r := if selector = 0 then s.abortSlot m else s.abortLink m
    r.2.complete n r.1

end Sys2Proof.Machine
end

