-- ==== Sys2Proof/Machine/StudioRequests.lean ====
section
/-! DEFINITION. The requests of the lamp driver, the talkback controller and the duck ramp (chapters 9 to 11). -/

namespace Sys2Proof.Machine

/-! ## SET_LAMP and LAMP_TEST (R143, R150, R151) -/

/-- The result words of SET_LAMP (R195). -/
def lampWords (state : Option LampState) (duty : Option Nat) : List (Nat × Word) :=
  [(15, resultOpt (state.map (·.ctorIdx))), (16, resultOpt duty)]

/-- The link a SET_LAMP writes: 0 in place of one out of range, which only a mode other than LINK may carry (R143, step 2). -/
def lampLink (v : Nat) : Nat := if v ≤ 31 then v else 0

/-- SET_LAMP (R143, R152). -/
def State.doSetLamp (s : State) (n : Nat) : State :=
  let refuse : State := s.complete n .badField (lampWords none none)
  let i := s.param n 4
  let link := s.param n 6
  let off := clampTo 0 64 (s.param n 7)
  let iso := clampTo 0 64 (s.param n 8)
  let pvw := clampTo 0 64 (s.param n 9)
  let pgm := clampTo 0 64 (s.param n 10)
  let fixed := clampTo 0 64 (s.param n 11)
  let fade := clampTo 0 16 (s.param n 12)
  let alarm := clampTo 0 1 (s.param n 13)
  match lampModeOf (s.param n 5) with
  | none => refuse
  | some mode =>
    if 23 < i ∨ 1 < s.param n 14 ∨ (mode = .link ∧ 31 < link) then refuse
    else
      let s1 := s.rewriteLamp i fun p =>
        { p with
            mode := mode, link := lampLink link, dutyOff := off.value, dutyIso := iso.value, dutyPreview := pvw.value, dutyProgram := pgm.value,
            fixed := fixed.value, fadeN := fade.value, alarm := decide (alarm.value = 1), inverted := decide (s.param n 14 = 1)
          }.configured (s.link (lampLink link)) s.testing (s.timer Config.blinkMs)
      s1.complete n (okOrClamped (off.was || iso.was || pvw.was || pgm.was || fixed.was || fade.was || alarm.was))
        (lampWords (some (s1.lamp i).state) (some (s1.lamp i).duty))

/-- The result words of LAMP_TEST (R195). -/
def testWords (before : Option Bool) (lamps : Nat) : List (Nat × Word) := [(6, resultOpt (before.map flag)), (7, resultNat lamps)]

/-- The lamps in TEST. -/
def State.lampsInTest (s : State) : Nat := (placesWhere 24 fun n => decide ((s.lamp n).state = .test)).length

/-- A test starts, or its timer restarts (R150). -/
def State.testOn (s : State) (ms : Nat) : State :=
  let s1 := if s.testing then s else s.startTest
  { s1 with lamps := { s1.lamps with testTimer := s.timer ms } }

/-- A test in progress ends (R151). -/
def State.testStop (s : State) : State := if s.testing then s.endTest else s

/-- LAMP_TEST (R150, R151). -/
def State.doLampTest (s : State) (n : Nat) : State :=
  let action := s.param n 4
  let dur := clampOpt 1 60 10 (optNonzero (s.param n 5))
  if 1 < action then s.complete n .badField (testWords none 0)
  else
    let s1 := if action = 1 then s.testOn (1000 * dur.value) else s.testStop
    s1.complete n (okOrClamped (decide (action = 1) && dur.was)) (testWords (some s.testing) s1.lampsInTest)

/-! ## SET_STATION, SET_KEY, TALK_KEY and CANCEL_TALK (R153, R155, R156, R160) -/

/-- The station table and the latch window written: one rewrite of the talk region when either changed (R153). -/
def State.writeStation (s : State) (stations : Vector Nat 16) (window : Nat) : State :=
  let s1 := { s with talk := { s.talk with stations := stations, latchWindow := window } }
  if stations = s.talk.stations ∧ window = s.talk.latchWindow then s else s1.talkRewrites 1

/-- SET_STATION (R153). -/
def State.doSetStation (s : State) (n : Nat) : State :=
  let station := optWord (s.param n 4)
  let priority := clampTo 0 7 (s.param n 5)
  let window := clampOpt 100 2000 s.talk.latchWindow (optWord (s.param n 6))
  if 15 < station.getD 0 then s.complete n .badField
  else
    let stations := match station with
      | none => s.talk.stations
      | some st => put s.talk.stations st priority.value
    (s.writeStation stations window.value).complete n (okOrClamped ((station.isSome && priority.was) || window.was))

/-- A key's configuration written: a change is one rewrite of the talk region (R154, R155). -/
def State.writeKey (s : State) (p : Nat) (mode : KeyMode) (target atten hang : Nat) : State :=
  let key := { s.key p with mode := mode, target := target, atten := atten, hang := hang }
  if key = s.key p then s else (s.setKey p fun _ => key).talkRewrites 1

/-- SET_KEY (R155). -/
def State.doSetKey (s : State) (n : Nat) : State :=
  let st := s.param n 4
  let k := s.param n 5
  let target := s.param n 7
  let atten := clampTo 0 Config.maxAtten (s.param n 8)
  let hang := clampTo 0 2000 (s.param n 9)
  match keyModeOf (s.param n 6) with
  | none => s.complete n .badField
  | some mode =>
    if 15 < st ∨ 11 < k ∨ 37 < target then s.complete n .badField
    else if (s.key (keyPlace st k)).active then s.complete n .inUse
    else (s.writeKey (keyPlace st k) mode target atten.value hang.value).complete n (okOrClamped (atten.was || hang.was))

/-- The result words of TALK_KEY (R195). -/
def talkWords (key : Option Key) : List (Nat × Word) :=
  match key with
  | none => [(7, absentWord), (8, absentWord), (9, 0), (10, 0), (11, 0), (12, 0)]
  | some key => [(7, resultNat key.activity.ctorIdx), (8, resultNat key.summary.ctorIdx), (9, resultNat key.talking), (10, resultNat key.held),
      (11, resultNat key.queued), (12, resultNat key.denied)]

/-- TALK_KEY (R156). -/
def State.doTalkKey (s : State) (n : Nat) : State :=
  let st := s.param n 4
  let k := s.param n 5
  let dir := s.param n 6
  if 15 < st ∨ 11 < k ∨ 1 < dir then s.complete n .badField (talkWords none)
  else if (s.key (keyPlace st k)).mode = .none then s.complete n .notFound (talkWords none)
  else
    let s1 := s.keyEvent st k (decide (dir = 1))
    s1.complete n .ok (talkWords (some (s1.key (keyPlace st k))))

/-- CANCEL_TALK (R160). -/
def State.doCancelTalk (s : State) (n : Nat) : State :=
  let station := optWord (s.param n 4)
  if 15 < station.getD 0 then s.complete n .badField [(5, 0)]
  else
    let ps := s.activeKeys station
    (s.deactivateAll ps).complete n .ok [(5, resultNat ps.length)]

/-! ## SET_DEST (R172, R174) -/

/-- The result words of SET_DEST (R195). -/
def destWords (d : Option Dest) : List (Nat × Word) :=
  [(10, resultOpt (d.map (·.base))), (11, resultOpt (d.map (·.current))), (12, resultOpt (d.map (·.target)))]

/-- Link l's current value becomes c, written into the image when it changes (R174). -/
def State.setCurrent (s : State) (l c : Nat) : State :=
  if (s.dest l).current = c then s else (s.setDest l fun d => { d with current := c }).writeProgramme l

/-- New programme settings of link l: the rewrite, the base's move of the current value, the correction to the bound, the target and the ramp timer, in that order (R172, R174). -/
def State.writeSettings (s : State) (l base offAir onAir rate : Nat) : State :=
  let d := s.dest l
  if d.base = base ∧ d.offAir = offAir ∧ d.onAir = onAir ∧ d.rate = rate then s
  else
    let s1 := s.rewriteDest l fun d => { d with base := base, offAir := offAir, onAir := onAir, rate := rate }
    let s2 := if d.base = base then s1 else s1.setCurrent l (rebase d.base base d.current)
    let s3 := if d.offAir = offAir ∧ d.onAir = onAir then s2 else s2.setCurrent l (s2.dest l).correct.current
    s3.duckRecompute l

/-- SET_DEST (R172). -/
def State.doSetDest (s : State) (n : Nat) : State :=
  let refuse (r : Result) : State := s.complete n r (destWords none)
  let l := s.param n 4
  let m := s.param n 5
  let d := s.dest l
  let base := selected m 0 0 Config.mute (s.param n 6) d.base
  let off := selected m 1 0 Config.maxAtten (s.param n 7) d.offAir
  let on := selected m 2 0 Config.maxAtten (s.param n 8) d.onAir
  let rate := selected m 3 1 32 (s.param n 9) d.rate
  if 31 < l then refuse .badField
  else if (s.link l).state = .vacant then refuse .notBound
  else if (s.link l).kind ≠ .iem then refuse .badField
  else
    let s1 := s.writeSettings l base.value off.value on.value rate.value
    s1.complete n (okOrClamped (base.was || off.was || on.was || rate.was)) (destWords (some (s1.dest l)))

end Sys2Proof.Machine
end

