-- ==== Sys2Proof/WellFormed.lean ====
section
/-! DEFINITION. Which commands the part can be given: every index within its range (spec/00_scope.md, 5.2), every address inside exchange memory (R181). -/

namespace Sys2Proof

/-- The write names a register whose writes the part ignores: READY with the RESET bit written 0, or one of the IDENT offsets 4 to 6 (R189, R193). -/
def IgnoredRegister.wf (r : IgnoredRegister) (value : Word) : Bool :=
  match r with
  | .ready => !value.getLsbD 0
  | .ident o => decide (4 ≤ o ∧ o ≤ 6)

/-- A command is well-formed when every index it carries lies in its range. A byte list of a reply is one to 28 bytes long (R59). -/
def Instr.wf : Instr → Bool
  | .powerOnReset => true
  | .softReset => true
  | .initialisationEnd => true
  | .eventsWrite _ => true
  | .eventEnableWrite _ => true
  | .attentionWrite _ => true
  | .registerWriteIgnored r v => r.wf v
  | .hostWordWrite a _ => decide (a < Config.memoryWords)
  | .slotPost n => decide (n < 32)
  | .slotWithdraw n => decide (n < 32)
  | .slotHandBack n => decide (n < 32)
  | .latchLowRead a => decide (a < Config.memoryWords)
  | .latchHighRead a => decide (a < Config.memoryWords)
  | .intakeTake => true
  | .setRules n => decide (n < 32)
  | .setExclusion n => decide (n < 32)
  | .place n => decide (n < 32)
  | .setCarrier n => decide (n < 32)
  | .clearCarrier n => decide (n < 32)
  | .lockCarrier n => decide (n < 32)
  | .audit n => decide (n < 32)
  | .setProbe n => decide (n < 32)
  | .scan n => decide (n < 32)
  | .holdScan n => decide (n < 32)
  | .resumeScan n => decide (n < 32)
  | .clearProbeFault n => decide (n < 32)
  | .clearMap n => decide (n < 32)
  | .bindLink n => decide (n < 32)
  | .unbindLink n => decide (n < 32)
  | .setLinkOptions n => decide (n < 32)
  | .resolveLink n => decide (n < 32)
  | .moveLink n => decide (n < 32)
  | .goMove n => decide (n < 32)
  | .setLine n => decide (n < 32)
  | .setTallySources n => decide (n < 32)
  | .setTallyOverride n => decide (n < 32)
  | .setLamp n => decide (n < 32)
  | .lampTest n => decide (n < 32)
  | .setStation n => decide (n < 32)
  | .setKey n => decide (n < 32)
  | .talkKey n => decide (n < 32)
  | .cancelTalk n => decide (n < 32)
  | .setDest n => decide (n < 32)
  | .abort n => decide (n < 32)
  | .candidateTest => true
  | .refreshEnd => true
  | .settleExpiry => true
  | .probePulse t => decide (t ≤ Config.probeCounterMax)
  | .referenceTimeout => true
  | .sampleWindowEnd => true
  | .requestFrameSent => true
  | .replyFrame bs => decide (0 < bs.length ∧ bs.length ≤ 28)
  | .replyWindowEnd => true
  | .pollGapExpiry => true
  | .weakTimerExpiry l => decide (l < 32)
  | .lossTimerExpiry l => decide (l < 32)
  | .rescueTimerExpiry l => decide (l < 32)
  | .holdTimerExpiry c => decide (c < 4)
  | .confirmTimerExpiry c => decide (c < 4)
  | .queryTimerExpiry c => decide (c < 4)
  | .receiveByteError n _ => decide (n < 3)
  | .discardedByte n _ => decide (n < 3)
  | .frameError n _ _ _ => decide (n < 3)
  | .tallyFrame n _ _ => decide (n < 2)
  | .panelFrame _ _ => true
  | .staleTimerExpiry n => decide (n < 3)
  | .staleClearExpiry n => decide (n < 2)
  | .referencePulse => true
  | .refLossTimerExpiry => true
  | .syntheticTimerExpiry => true
  | .pwmPeriodStart => true
  | .fadeStepExpiry n => decide (n < 24)
  | .blinkTimerExpiry n => decide (n < 24)
  | .lampTestExpiry => true
  | .hangTimerExpiry st k => decide (st < 16 ∧ k < 12)
  | .latchWindowExpiry st k => decide (st < 16 ∧ k < 12)
  | .rampTimerExpiry l => decide (l < 32)
  | .matrixFrameSent => true
  | .garbledReplyByte _ _ => true
  | .frameMarkerByte n => decide (n < 3)
  | .deviceTimeTick => true
  | .pwmActiveEnd n => decide (n < 24)

end Sys2Proof
end

