-- ==== Sys2Proof/Machine/Board.lean ====
section
/-! DEFINITION. The commands of the exchange memory port, the intake, the event register and CONTROL: resets, register and memory accesses, and the take (chapter 12). -/

namespace Sys2Proof.Machine

/-- What every command answers. -/
abbrev Answer := Host.Outcome State Fault Refusal

/-! ## Resets and initialisation (R6, R44, R180, R189, R190) -/

/-- The state a soft reset begins from: the occupancy map, the own-marks and the calibration record are kept (R189). -/
def State.softReset (s : State) : State :=
  { State.reset with
    probe := { Probe.reset with levels := s.probe.levels, ownMarks := s.probe.ownMarks, cal := s.probe.cal }
    pending := s.pending }

/-- Initialisation ends: READY becomes 1, device time counts from 0, the synthetic timer starts and CLEAR_ALL is begun (R180, R190). -/
def State.initialised (s : State) : State :=
  { s with
    board := { s.board with ready := true, time := 0 }
    ref := { s.ref with synthTimer := some { start := 0, len := Config.syntheticMs } }
    matrix := { s.matrix with sender := .clearAll } }

/-- POWER_ON_RESET: every block at its reset value, initialisation begun, also during another initialisation (R189). -/
def execPowerOnReset (s : State) : Answer := .next { State.reset with pending := s.pending }

/-- SOFT_RESET: a write of 1 to CONTROL.RESET, ignored while READY reads 0 (R189). -/
def execSoftReset (s : State) : Answer := .next (if s.board.ready then s.softReset else s)

/-- INITIALISATION_END (R189, R190): it occurs only while READY reads 0. -/
def execInitialisationEnd (s : State) : Answer := .next (if s.board.ready then s else s.initialised)

/-! ## Registers (R184, R188, R189) -/

/-- EVENTS_WRITE: each bit written 1 is cleared (R188). -/
def execEventsWrite (v : Word) (s : State) : Answer :=
  .next (if s.board.ready then { s with board := { s.board with events := s.board.events &&& ~~~(v.setWidth 9) } } else s)

/-- EVENT_ENABLE_WRITE (R188). -/
def execEventEnableWrite (v : Word) (s : State) : Answer :=
  .next (if s.board.ready then { s with board := { s.board with enable := v.setWidth 9 } } else s)

/-- A number named by ATTENTION: into the pending set, or counted stray above 31 (R184). -/
def State.attend (s : State) (v : Nat) : State :=
  if v ≤ 31 then { s with board := { s.board with attention := insertRising v s.board.attention } }
  else { s with board := { s.board with stray := satInc s.board.stray } }

/-- ATTENTION_WRITE (R184), ignored while READY reads 0 (R189). -/
def execAttentionWrite (v : Word) (s : State) : Answer := .next (if s.board.ready then s.attend v.toNat else s)

/-- REGISTER_WRITE_IGNORED: IDENT and READY keep their values, and nothing is counted (R189). -/
def execRegisterWriteIgnored (r : IgnoredRegister) (v : Word) (s : State) : Answer :=
  if r.wf v then .next s else .fault .noSuchRegister

/-! ## Exchange memory (R181 to R183) -/

/-- HOST_WORD_WRITE (R181, R183). -/
def execHostWordWrite (a : Nat) (v : Word) (s : State) : Answer :=
  if a < Config.memoryWords then .next (s.hostWrite a v) else .fault (.noSuchWord a)

/-- SLOT_POST: a host write of 1 to the slot's state word (R183). -/
def execSlotPost (n : Nat) (s : State) : Answer :=
  if n < 32 then .next (s.hostWrite (slotAddr n 0) 1) else .fault (.noSuchSlot n)

/-- SLOT_WITHDRAW: a host write of 0 to the state word of a POSTED slot (R183). -/
def execSlotWithdraw (n : Nat) (s : State) : Answer :=
  if n < 32 then .next (s.hostWrite (slotAddr n 0) 0) else .fault (.noSuchSlot n)

/-- SLOT_HAND_BACK: a host write of 0 to the state word of a DONE slot (R183, R186). -/
def execSlotHandBack (n : Nat) (s : State) : Answer :=
  if n < 32 then .next (s.hostWrite (slotAddr n 0) 0) else .fault (.noSuchSlot n)

/-- LATCH_LOW_READ: a host read of the low word of a 32-bit field (R182). -/
def execLatchLowRead (a : Nat) (s : State) : Answer :=
  if a < Config.memoryWords then .next (s.hostRead a) else .fault (.noSuchWord a)

/-- LATCH_HIGH_READ: a host read of the high word of a 32-bit field (R182). -/
def execLatchHighRead (a : Nat) (s : State) : Answer :=
  if a < Config.memoryWords then .next (s.hostRead a) else .fault (.noSuchWord a)

/-! ## The take (R185, R195) -/

/-- The handler of each request kind (R195); none for a kind the part does not know. -/
def handlerOf (kind : Nat) : Option (State → Nat → State) :=
  match kind with
  | 1 => some State.doSetRules
  | 2 => some State.doSetExclusion
  | 3 => some State.doPlace
  | 4 => some State.doSetCarrier
  | 5 => some State.doClearCarrier
  | 6 => some State.doLockCarrier
  | 7 => some State.doAudit
  | 8 => some State.doSetProbe
  | 9 => some State.doScan
  | 10 => some State.doHoldScan
  | 11 => some State.doResumeScan
  | 12 => some State.doClearProbeFault
  | 13 => some State.doClearMap
  | 14 => some State.doBindLink
  | 15 => some State.doUnbindLink
  | 16 => some State.doSetLinkOptions
  | 17 => some State.doResolveLink
  | 18 => some State.doMoveLink
  | 19 => some State.doGoMove
  | 20 => some State.doSetLine
  | 21 => some State.doSetTallySources
  | 22 => some State.doSetTallyOverride
  | 23 => some State.doSetLamp
  | 24 => some State.doLampTest
  | 25 => some State.doSetStation
  | 26 => some State.doSetKey
  | 27 => some State.doTalkKey
  | 28 => some State.doCancelTalk
  | 29 => some State.doSetDest
  | 30 => some State.doAbort
  | _ => none

/-- The number at the head of the pending set leaves it. -/
def State.dropAttention (s : State) : State :=
  { s with board := { s.board with attention := s.board.attention.drop 1 } }

/-- A POSTED slot n is taken: TAKEN, its kind and body read, and handed to its owner block, which makes its checks at once; an unknown kind completes BAD_KIND (R185). -/
def State.takePosted (s : State) (n : Nat) : State :=
  let s1 := s.setSlot n .taken
  match handlerOf (s1.param n 1) with
  | some h => (h s1 n).settle
  | none => s1.complete n .badKind

/-- The take of slot n, a member of the pending set (R185). -/
def State.takeSlot (s : State) (n : Nat) : State :=
  let s1 := s.dropAttention
  match s1.slot n with
  | .posted => s1.takePosted n
  | .free => { s1 with board := { s1.board with stray := satInc s1.board.stray } }
  | .taken => { s1 with board := { s1.board with stray := satInc s1.board.stray } }
  | .done => { s1 with board := { s1.board with stray := satInc s1.board.stray } }

/-- INTAKE_TAKE: the lowest-numbered member of the pending set (R185). -/
def execIntakeTake (s : State) : Answer :=
  .next (match s.board.ready, s.board.attention with
    | true, n :: _ => s.takeSlot n
    | true, [] => s
    | false, _ => s)

/-- The intake takes slot n next and finds it POSTED with the kind: what a request command stands for. -/
def State.takesNext (s : State) (n kind : Nat) : Bool :=
  s.board.ready && decide (s.board.attention.head? = some n) && decide (s.slot n = .posted) && decide (s.param n 1 = kind)

/-- A request command: the take of slot n when it holds the kind and is the intake's next, and nothing otherwise. -/
def State.request (s : State) (n kind : Nat) (h : State → Nat → State) : Answer :=
  if n < 32 then .next (if s.takesNext n kind then (h (s.dropAttention.setSlot n .taken) n).settle else s) else .fault (.noSuchSlot n)

end Sys2Proof.Machine
end

