-- ==== Sys2Proof/Machine/Requests.lean ====
section
/-! DEFINITION. The commands of the request board: each is the take of a slot that holds its kind, with all its owner block does at the take (R185, R195). -/

namespace Sys2Proof.Machine

/-- SET_RULES, kind 1 (R9). -/
def execSetRules (n : Nat) (s : State) : Answer := s.request n 1 State.doSetRules

/-- SET_EXCLUSION, kind 2 (R8). -/
def execSetExclusion (n : Nat) (s : State) : Answer := s.request n 2 State.doSetExclusion

/-- PLACE, kind 3 (R38). -/
def execPlace (n : Nat) (s : State) : Answer := s.request n 3 State.doPlace

/-- SET_CARRIER, kind 4 (R39). -/
def execSetCarrier (n : Nat) (s : State) : Answer := s.request n 4 State.doSetCarrier

/-- CLEAR_CARRIER, kind 5 (R18). -/
def execClearCarrier (n : Nat) (s : State) : Answer := s.request n 5 State.doClearCarrier

/-- LOCK_CARRIER, kind 6 (R13). -/
def execLockCarrier (n : Nat) (s : State) : Answer := s.request n 6 State.doLockCarrier

/-- AUDIT, kind 7 (R40). -/
def execAudit (n : Nat) (s : State) : Answer := s.request n 7 State.doAudit

/-- SET_PROBE, kind 8 (R42). -/
def execSetProbe (n : Nat) (s : State) : Answer := s.request n 8 State.doSetProbe

/-- SCAN, kind 9 (R50). -/
def execScan (n : Nat) (s : State) : Answer := s.request n 9 State.doScan

/-- HOLD_SCAN, kind 10 (R53). -/
def execHoldScan (n : Nat) (s : State) : Answer := s.request n 10 State.doHoldScan

/-- RESUME_SCAN, kind 11 (R53). -/
def execResumeScan (n : Nat) (s : State) : Answer := s.request n 11 State.doResumeScan

/-- CLEAR_PROBE_FAULT, kind 12 (R56). -/
def execClearProbeFault (n : Nat) (s : State) : Answer := s.request n 12 State.doClearProbeFault

/-- CLEAR_MAP, kind 13 (R57). -/
def execClearMap (n : Nat) (s : State) : Answer := s.request n 13 State.doClearMap

/-- BIND_LINK, kind 14 (R77). -/
def execBindLink (n : Nat) (s : State) : Answer := s.request n 14 State.doBindLink

/-- UNBIND_LINK, kind 15 (R80). -/
def execUnbindLink (n : Nat) (s : State) : Answer := s.request n 15 State.doUnbindLink

/-- SET_LINK_OPTIONS, kind 16 (R81). -/
def execSetLinkOptions (n : Nat) (s : State) : Answer := s.request n 16 State.doSetLinkOptions

/-- RESOLVE_LINK, kind 17 (R92). -/
def execResolveLink (n : Nat) (s : State) : Answer := s.request n 17 State.doResolveLink

/-- MOVE_LINK, kind 18 (R95). -/
def execMoveLink (n : Nat) (s : State) : Answer := s.request n 18 State.doMoveLink

/-- GO_MOVE, kind 19 (R100). -/
def execGoMove (n : Nat) (s : State) : Answer := s.request n 19 State.doGoMove

/-- SET_LINE, kind 20 (R115). -/
def execSetLine (n : Nat) (s : State) : Answer := s.request n 20 State.doSetLine

/-- SET_TALLY_SOURCES, kind 21 (R131). -/
def execSetTallySources (n : Nat) (s : State) : Answer := s.request n 21 State.doSetTallySources

/-- SET_TALLY_OVERRIDE, kind 22 (R132). -/
def execSetTallyOverride (n : Nat) (s : State) : Answer := s.request n 22 State.doSetTallyOverride

/-- SET_LAMP, kind 23 (R143). -/
def execSetLamp (n : Nat) (s : State) : Answer := s.request n 23 State.doSetLamp

/-- LAMP_TEST, kind 24 (R150). -/
def execLampTest (n : Nat) (s : State) : Answer := s.request n 24 State.doLampTest

/-- SET_STATION, kind 25 (R153). -/
def execSetStation (n : Nat) (s : State) : Answer := s.request n 25 State.doSetStation

/-- SET_KEY, kind 26 (R155). -/
def execSetKey (n : Nat) (s : State) : Answer := s.request n 26 State.doSetKey

/-- TALK_KEY, kind 27 (R156). -/
def execTalkKey (n : Nat) (s : State) : Answer := s.request n 27 State.doTalkKey

/-- CANCEL_TALK, kind 28 (R160). -/
def execCancelTalk (n : Nat) (s : State) : Answer := s.request n 28 State.doCancelTalk

/-- SET_DEST, kind 29 (R172). -/
def execSetDest (n : Nat) (s : State) : Answer := s.request n 29 State.doSetDest

/-- ABORT, kind 30 (R187). -/
def execAbort (n : Nat) (s : State) : Answer := s.request n 30 State.doAbort

end Sys2Proof.Machine
end

