-- ==== Sys2Proof/Machine/Events.lean ====
section
/-! DEFINITION. The commands that are events of the part: engine steps, timer expiries, bytes, pulses and frames (chapters 2 to 11). An expiry that is not due, and any event while READY reads 0, has no effect. -/

namespace Sys2Proof.Machine

/-- What an event leaves: s' once the part is initialised (R189). -/
def State.onEvent (s s' : State) : State := if s.board.ready then s' else s

/-- What an expiry of timer t leaves: s' when the timer runs and is due. -/
def State.onExpiry (s : State) (t : Option Timer) (s' : State) : State := s.onEvent (if timerDue t s.now then s' else s)

/-! ## Plan engine (R26, R29 to R35) -/

/-- What one test of the running CHECK or SEARCH leaves. -/
def State.engineTest (s : State) : State :=
  match s.plan.work with
  | .job r => match r.stage with
    | .testing => (s.testCandidate r).settle
    | .closing _ _ => s
    | .auditing _ => s
  | .idle => s
  | .refresh _ => s

/-- CANDIDATE_TEST (R31). -/
def execCandidateTest (s : State) : Answer := .next (s.onEvent s.engineTest)

/-- What the end of the running refresh leaves, however it runs (R26). -/
def State.engineRefresh (s : State) : State :=
  match s.plan.work with
  | .job r => match r.stage with
    | .testing => s
    | .closing cm x => (s.closingEnd r cm x).settle
    | .auditing x => (s.auditEnd r x).settle
  | .idle => s
  | .refresh x => ((s.writeRefresh x).setWork .idle).settle

/-- REFRESH_END (R26). -/
def execRefreshEnd (s : State) : Answer := .next (s.onEvent s.engineRefresh)

/-! ## Occupancy probe (R43 to R46) -/

/-- SETTLE_EXPIRY (R45, R46). -/
def execSettleExpiry (s : State) : Answer := .next (s.onExpiry s.probe.settleTimer s.settleExpiry)

/-- PROBE_PULSE, with the tick counter's reading at the pulse (R43). -/
def execProbePulse (tick : Nat) (s : State) : Answer := .next (s.onEvent (s.probePulse tick).settle)

/-- REFERENCE_TIMEOUT (R45). -/
def execReferenceTimeout (s : State) : Answer := .next (s.onEvent s.referenceTimeout.settle)

/-- SAMPLE_WINDOW_END (R46). -/
def execSampleWindowEnd (s : State) : Answer := .next (s.onEvent s.sampleWindowEnd.settle)

/-! ## Unit bus (R62, R72) -/

/-- REQUEST_FRAME_SENT (R62). -/
def execRequestFrameSent (s : State) : Answer := .next (s.onEvent s.frameSent)

/-- REPLY_FRAME: the bytes of a reply in their order, judged one by one (R62). -/
def execReplyFrame (bs : List Byte) (s : State) : Answer := .next (s.onEvent (bs.foldl (fun t b => t.busByte b false) s).settle)

/-- REPLY_WINDOW_END (R62). -/
def execReplyWindowEnd (s : State) : Answer := .next (s.onExpiry s.bus.window s.windowEnd.settle)

/-- POLL_GAP_EXPIRY (R72). -/
def execPollGapExpiry (s : State) : Answer := .next (s.onExpiry s.bus.gapTimer s.pollChoose.settle)

/-- GARBLED_REPLY_BYTE (R62). -/
def execGarbledReplyByte (b : Byte) (framing : Bool) (s : State) : Answer := .next (s.onEvent (s.busByte b framing).settle)

/-! ## Link timers (R84, R88) -/

/-- WEAK_TIMER_EXPIRY (R84). -/
def execWeakTimerExpiry (l : Nat) (s : State) : Answer :=
  if l < 32 then .next (s.onExpiry (s.link l).weakTimer (s.weakExpiry l).settle) else .fault (.noSuchLink l)

/-- LOSS_TIMER_EXPIRY (R84). -/
def execLossTimerExpiry (l : Nat) (s : State) : Answer :=
  if l < 32 then .next (s.onExpiry (s.link l).lossTimer (s.lossExpiry l).settle) else .fault (.noSuchLink l)

/-- What a rescue timer's expiry leaves: a running timer's attempt once it is due (R88); a waiting rescue is published as a timer with no time remaining, and its expiry serves the free contexts to the waiting rescues (R89). -/
def State.rescueExpiry (s : State) (l : Nat) : State :=
  match (s.link l).rescueTimer with
  | .stopped => s
  | .running t => s.onExpiry (some t) (s.attemptRescue l).settle
  | .waiting => s.onEvent s.serveRescues.settle

/-- RESCUE_TIMER_EXPIRY (R88, R89). -/
def execRescueTimerExpiry (l : Nat) (s : State) : Answer := if l < 32 then .next (s.rescueExpiry l) else .fault (.noSuchLink l)

/-! ## Timers of a move context (R99, R103, R106) -/

/-- HOLD_TIMER_EXPIRY (R99). -/
def execHoldTimerExpiry (c : Nat) (s : State) : Answer :=
  if c < 4 then .next (s.onExpiry (s.ctx c).holdTimer (s.endMove c .holdTimeout .none).settle) else .fault (.noSuchContext c)

/-- CONFIRM_TIMER_EXPIRY (R103, R106). -/
def execConfirmTimerExpiry (c : Nat) (s : State) : Answer :=
  if c < 4 then .next (s.onExpiry (s.ctx c).confirmTimer (s.confirmExpiry c).settle) else .fault (.noSuchContext c)

/-- The query timer of context c expires: the next QUERY is offered (R103). -/
def State.queryAgain (s : State) (c : Nat) : State := s.rewriteCtx c fun x => { x with queryTimer := none, offer := some .query }

/-- QUERY_TIMER_EXPIRY (R103, R106). -/
def execQueryTimerExpiry (c : Nat) (s : State) : Answer :=
  if c < 4 then .next (s.onExpiry (s.ctx c).queryTimer (s.queryAgain c).settle) else .fault (.noSuchContext c)

/-! ## Receive lines (R117 to R124) -/

/-- RECEIVE_BYTE_ERROR: the levels the line's receiver samples, whatever characters they hold; a character with a byte error is counted and discarded (R117, R118). -/
def execReceiveByteError (n : Nat) (samples : List Bool) (s : State) : Answer :=
  if n < 3 then .next (s.onEvent (s.lineSamples n samples)) else .fault (.noSuchLine n)

/-- DISCARDED_BYTE: a good byte that is not the marker, met in HUNT (R119). -/
def execDiscardedByte (n : Nat) (b : Byte) (s : State) : Answer :=
  if n < 3 then .next (s.onEvent (s.lineByte n b)) else .fault (.noSuchLine n)

/-- FRAME_MARKER_BYTE: the line's marker (R119). -/
def execFrameMarkerByte (n : Nat) (s : State) : Answer :=
  if n < 3 then .next (s.onEvent (s.lineByte n (lineMarker n))) else .fault (.noSuchLine n)

/-- FRAME_ERROR: the three bytes of a frame after its marker (R119). -/
def execFrameError (n : Nat) (b1 b2 check : Byte) (s : State) : Answer :=
  if n < 3 then .next (s.onEvent (s.frameBytes n b1 b2 check)) else .fault (.noSuchLine n)

/-- TALLY_FRAME: source and level with the right check byte, on line 0 or 1 (R120). -/
def execTallyFrame (n : Nat) (source level : Byte) (s : State) : Answer :=
  if n < 2 then .next (s.onEvent (s.frameBytes n source level (lineCheck source level))) else .fault (.noSuchLine n)

/-- PANEL_FRAME: station and key with the right check byte, on line 2 (R121). -/
def execPanelFrame (station key : Byte) (s : State) : Answer :=
  .next (s.onEvent (s.frameBytes 2 station key (lineCheck station key)))

/-- STALE_TIMER_EXPIRY (R122 to R124). -/
def execStaleTimerExpiry (n : Nat) (s : State) : Answer :=
  if n < 3 then .next (s.onExpiry (s.line n).staleTimer (s.lineStale n)) else .fault (.noSuchLine n)

/-- STALE_CLEAR_EXPIRY (R123). -/
def execStaleClearExpiry (n : Nat) (s : State) : Answer :=
  if n < 2 then .next (s.onExpiry (s.line n).clearTimer (s.lineCleared n)) else .fault (.noSuchLine n)

/-! ## Reference (R134, R135) -/

/-- REFERENCE_PULSE (R134). -/
def execReferencePulse (s : State) : Answer := .next (s.onEvent s.referencePulse.settle)

/-- REF_LOSS_TIMER_EXPIRY (R134). -/
def execRefLossTimerExpiry (s : State) : Answer := .next (s.onExpiry s.ref.lossTimer s.refLost.settle)

/-- SYNTHETIC_TIMER_EXPIRY (R135). -/
def execSyntheticTimerExpiry (s : State) : Answer := .next (s.onExpiry s.ref.synthTimer s.syntheticFrame.settle)

/-! ## Lamps (R142, R146, R149, R151) -/

/-- PWM_PERIOD_START: all 24 outputs start their period together (R142). -/
def execPwmPeriodStart (s : State) : Answer :=
  .next { s with lamps := { s.lamps with recs := mapTable (fun _ p => p.periodStart) s.lamps.recs } }

/-- PWM_ACTIVE_END (R142). -/
def execPwmActiveEnd (n : Nat) (s : State) : Answer :=
  if n < 24 then .next (s.touchLamp n Lamp.activeEnd) else .fault (.noSuchLamp n)

/-- A fade step of lamp n, a rewrite when the fade ends by it (R141, R146). -/
def State.fadeExpiry (s : State) (n : Nat) : State :=
  s.lampEvent n fun p => p.fadeStep (s.timer (p.fadeN * Config.fadeUnitMs))

/-- FADE_STEP_EXPIRY (R146). -/
def execFadeStepExpiry (n : Nat) (s : State) : Answer :=
  if n < 24 then .next (s.onExpiry (s.lamp n).fadeTimer (s.fadeExpiry n)) else .fault (.noSuchLamp n)

/-- BLINK_TIMER_EXPIRY (R149). -/
def execBlinkTimerExpiry (n : Nat) (s : State) : Answer :=
  if n < 24 then .next (s.onExpiry (s.lamp n).blinkTimer (s.touchLamp n fun p => p.blinkStep (s.timer Config.blinkMs)))
  else .fault (.noSuchLamp n)

/-- LAMP_TEST_EXPIRY (R151). -/
def execLampTestExpiry (s : State) : Answer := .next (s.onExpiry s.lamps.testTimer s.endTest)

/-! ## Talkback and ducking (R157, R159, R175) -/

/-- HANG_TIMER_EXPIRY (R157, R159). -/
def execHangTimerExpiry (st k : Nat) (s : State) : Answer :=
  if st < 16 ∧ k < 12 then .next (s.onExpiry (s.key (keyPlace st k)).hangTimer (s.hangExpiry st k)) else .fault (.noSuchKey st k)

/-- LATCH_WINDOW_EXPIRY (R159). -/
def execLatchWindowExpiry (st k : Nat) (s : State) : Answer :=
  if st < 16 ∧ k < 12 then .next (s.onExpiry (s.key (keyPlace st k)).windowTimer (s.windowExpiry st k)) else .fault (.noSuchKey st k)

/-- RAMP_TIMER_EXPIRY (R175). -/
def execRampTimerExpiry (l : Nat) (s : State) : Answer :=
  if l < 32 then .next (s.onExpiry (s.dest l).rampTimer (s.rampExpiry l)) else .fault (.noSuchLink l)

/-! ## Matrix line and device time (R179, R190) -/

/-- The frame being sent ends; an IDLE sender sends none (R179). -/
def Matrix.sent (m : Matrix) : Matrix := if m.sender = .idle then m else m.frameSent

/-- MATRIX_FRAME_SENT (R179). -/
def execMatrixFrameSent (s : State) : Answer := .next (s.onEvent { s with matrix := s.matrix.sent })

/-- DEVICE_TIME_TICK: device time is held at 0 through initialisation (R190). -/
def execDeviceTimeTick (s : State) : Answer := .next (s.onEvent { s with board := { s.board with time := s.board.time + 1 } })

end Sys2Proof.Machine
end

