-- ==== Sys2Proof/Machine/Dispatch.lean ====
section
/-! DEFINITION. The meaning of every command: one arm per constructor, each one direct call. -/

namespace Sys2Proof.Machine

def exec (i : Instr) (s : State) : Host.Outcome State Fault Refusal :=
  match i with
  | .powerOnReset => Sys2Proof.Machine.execPowerOnReset s
  | .softReset => Sys2Proof.Machine.execSoftReset s
  | .initialisationEnd => Sys2Proof.Machine.execInitialisationEnd s
  | .eventsWrite value => Sys2Proof.Machine.execEventsWrite value s
  | .eventEnableWrite value => Sys2Proof.Machine.execEventEnableWrite value s
  | .attentionWrite value => Sys2Proof.Machine.execAttentionWrite value s
  | .registerWriteIgnored reg value => Sys2Proof.Machine.execRegisterWriteIgnored reg value s
  | .hostWordWrite addr value => Sys2Proof.Machine.execHostWordWrite addr value s
  | .slotPost slot => Sys2Proof.Machine.execSlotPost slot s
  | .slotWithdraw slot => Sys2Proof.Machine.execSlotWithdraw slot s
  | .slotHandBack slot => Sys2Proof.Machine.execSlotHandBack slot s
  | .latchLowRead addr => Sys2Proof.Machine.execLatchLowRead addr s
  | .latchHighRead addr => Sys2Proof.Machine.execLatchHighRead addr s
  | .intakeTake => Sys2Proof.Machine.execIntakeTake s
  | .setRules slot => Sys2Proof.Machine.execSetRules slot s
  | .setExclusion slot => Sys2Proof.Machine.execSetExclusion slot s
  | .place slot => Sys2Proof.Machine.execPlace slot s
  | .setCarrier slot => Sys2Proof.Machine.execSetCarrier slot s
  | .clearCarrier slot => Sys2Proof.Machine.execClearCarrier slot s
  | .lockCarrier slot => Sys2Proof.Machine.execLockCarrier slot s
  | .audit slot => Sys2Proof.Machine.execAudit slot s
  | .setProbe slot => Sys2Proof.Machine.execSetProbe slot s
  | .scan slot => Sys2Proof.Machine.execScan slot s
  | .holdScan slot => Sys2Proof.Machine.execHoldScan slot s
  | .resumeScan slot => Sys2Proof.Machine.execResumeScan slot s
  | .clearProbeFault slot => Sys2Proof.Machine.execClearProbeFault slot s
  | .clearMap slot => Sys2Proof.Machine.execClearMap slot s
  | .bindLink slot => Sys2Proof.Machine.execBindLink slot s
  | .unbindLink slot => Sys2Proof.Machine.execUnbindLink slot s
  | .setLinkOptions slot => Sys2Proof.Machine.execSetLinkOptions slot s
  | .resolveLink slot => Sys2Proof.Machine.execResolveLink slot s
  | .moveLink slot => Sys2Proof.Machine.execMoveLink slot s
  | .goMove slot => Sys2Proof.Machine.execGoMove slot s
  | .setLine slot => Sys2Proof.Machine.execSetLine slot s
  | .setTallySources slot => Sys2Proof.Machine.execSetTallySources slot s
  | .setTallyOverride slot => Sys2Proof.Machine.execSetTallyOverride slot s
  | .setLamp slot => Sys2Proof.Machine.execSetLamp slot s
  | .lampTest slot => Sys2Proof.Machine.execLampTest slot s
  | .setStation slot => Sys2Proof.Machine.execSetStation slot s
  | .setKey slot => Sys2Proof.Machine.execSetKey slot s
  | .talkKey slot => Sys2Proof.Machine.execTalkKey slot s
  | .cancelTalk slot => Sys2Proof.Machine.execCancelTalk slot s
  | .setDest slot => Sys2Proof.Machine.execSetDest slot s
  | .abort slot => Sys2Proof.Machine.execAbort slot s
  | .candidateTest => Sys2Proof.Machine.execCandidateTest s
  | .refreshEnd => Sys2Proof.Machine.execRefreshEnd s
  | .settleExpiry => Sys2Proof.Machine.execSettleExpiry s
  | .probePulse tick => Sys2Proof.Machine.execProbePulse tick s
  | .referenceTimeout => Sys2Proof.Machine.execReferenceTimeout s
  | .sampleWindowEnd => Sys2Proof.Machine.execSampleWindowEnd s
  | .requestFrameSent => Sys2Proof.Machine.execRequestFrameSent s
  | .replyFrame bytes => Sys2Proof.Machine.execReplyFrame bytes s
  | .replyWindowEnd => Sys2Proof.Machine.execReplyWindowEnd s
  | .pollGapExpiry => Sys2Proof.Machine.execPollGapExpiry s
  | .weakTimerExpiry link => Sys2Proof.Machine.execWeakTimerExpiry link s
  | .lossTimerExpiry link => Sys2Proof.Machine.execLossTimerExpiry link s
  | .rescueTimerExpiry link => Sys2Proof.Machine.execRescueTimerExpiry link s
  | .holdTimerExpiry ctx => Sys2Proof.Machine.execHoldTimerExpiry ctx s
  | .confirmTimerExpiry ctx => Sys2Proof.Machine.execConfirmTimerExpiry ctx s
  | .queryTimerExpiry ctx => Sys2Proof.Machine.execQueryTimerExpiry ctx s
  | .receiveByteError line samples => Sys2Proof.Machine.execReceiveByteError line samples s
  | .discardedByte line byte => Sys2Proof.Machine.execDiscardedByte line byte s
  | .frameError line byte1 byte2 check => Sys2Proof.Machine.execFrameError line byte1 byte2 check s
  | .tallyFrame line source level => Sys2Proof.Machine.execTallyFrame line source level s
  | .panelFrame station key => Sys2Proof.Machine.execPanelFrame station key s
  | .staleTimerExpiry line => Sys2Proof.Machine.execStaleTimerExpiry line s
  | .staleClearExpiry line => Sys2Proof.Machine.execStaleClearExpiry line s
  | .referencePulse => Sys2Proof.Machine.execReferencePulse s
  | .refLossTimerExpiry => Sys2Proof.Machine.execRefLossTimerExpiry s
  | .syntheticTimerExpiry => Sys2Proof.Machine.execSyntheticTimerExpiry s
  | .pwmPeriodStart => Sys2Proof.Machine.execPwmPeriodStart s
  | .fadeStepExpiry lamp => Sys2Proof.Machine.execFadeStepExpiry lamp s
  | .blinkTimerExpiry lamp => Sys2Proof.Machine.execBlinkTimerExpiry lamp s
  | .lampTestExpiry => Sys2Proof.Machine.execLampTestExpiry s
  | .hangTimerExpiry station key => Sys2Proof.Machine.execHangTimerExpiry station key s
  | .latchWindowExpiry station key => Sys2Proof.Machine.execLatchWindowExpiry station key s
  | .rampTimerExpiry link => Sys2Proof.Machine.execRampTimerExpiry link s
  | .matrixFrameSent => Sys2Proof.Machine.execMatrixFrameSent s
  | .garbledReplyByte byte framingError => Sys2Proof.Machine.execGarbledReplyByte byte framingError s
  | .frameMarkerByte line => Sys2Proof.Machine.execFrameMarkerByte line s
  | .deviceTimeTick => Sys2Proof.Machine.execDeviceTimeTick s
  | .pwmActiveEnd lamp => Sys2Proof.Machine.execPwmActiveEnd lamp s

end Sys2Proof.Machine
end

