-- ==== Sys2Proof/Safety.lean ====
section
/-! DEFINITION. What statements about the part are written in: the board around a request, the command a request kind stands for, and the invariants a safe part keeps. -/

namespace Sys2Proof.Machine

/-! ## The board around a request (R184 to R186, R188) -/

/-- The board after bits of EVENTS are set (R188). -/
def Board.note (b : Board) (es : List Event) : Board := { b with events := es.foldl (fun v e => v ||| e.bit) b.events }

/-- The board after slot n's request has been taken and waits or runs on in its owner block (R185). -/
def Board.holding (b : Board) (n : Nat) : Board := { b with attention := b.attention.drop 1, slots := put b.slots n .taken }

/-- The board after slot n's request has been taken and completed in the same step: the number has left the pending set, the results and the code are written, the slot is DONE and EVENTS.BOARD is set (R185, R186). -/
def Board.served (b : Board) (n : Nat) (r : Result) (words : List (Nat × Word)) : Board :=
  { b with
    attention := b.attention.drop 1
    slots := put b.slots n .done
    body := (words ++ [(3, resultNat r.ctorIdx)]).foldl (fun (m : Memory) (w : Nat × Word) => m.write (slotAddr n w.1) w.2) b.body
    events := b.events ||| Event.board.bit }

/-- The part after slot n's request was answered at its take, nothing but the board touched by the answer. -/
def State.answered (s : State) (n : Nat) (r : Result) (words : List (Nat × Word)) : State :=
  { s with board := s.board.served n r words }

/-- The command that a request of a kind in slot n stands for (R195). -/
def requestOf (kind n : Nat) : Option Instr :=
  match kind with
  | 1 => some (.setRules n)
  | 2 => some (.setExclusion n)
  | 3 => some (.place n)
  | 4 => some (.setCarrier n)
  | 5 => some (.clearCarrier n)
  | 6 => some (.lockCarrier n)
  | 7 => some (.audit n)
  | 8 => some (.setProbe n)
  | 9 => some (.scan n)
  | 10 => some (.holdScan n)
  | 11 => some (.resumeScan n)
  | 12 => some (.clearProbeFault n)
  | 13 => some (.clearMap n)
  | 14 => some (.bindLink n)
  | 15 => some (.unbindLink n)
  | 16 => some (.setLinkOptions n)
  | 17 => some (.resolveLink n)
  | 18 => some (.moveLink n)
  | 19 => some (.goMove n)
  | 20 => some (.setLine n)
  | 21 => some (.setTallySources n)
  | 22 => some (.setTallyOverride n)
  | 23 => some (.setLamp n)
  | 24 => some (.lampTest n)
  | 25 => some (.setStation n)
  | 26 => some (.setKey n)
  | 27 => some (.talkKey n)
  | 28 => some (.cancelTalk n)
  | 29 => some (.setDest n)
  | 30 => some (.abort n)
  | _ => none

/-! ## The levels of a character on a receive line (R117) -/

/-- Whole bit times of 16 samples each, true being mark. -/
def bitTimes (bits : List Bool) : List Bool := bits.flatMap fun b => List.replicate 16 b

/-- The bits of a character on a line: the start bit, the data bits, a parity bit where the line has one, the stop bits. -/
def Line.bits (r : Line) (b : Byte) (parityBit : Bool) (stops : List Bool) : List Bool :=
  false :: (bitsOf b ++ ((if r.parity = .none then [] else [parityBit]) ++ stops))

/-- The receiver is not in the middle of a character. -/
def Receiver.atRest (x : Receiver) : Prop := ∀ wait bits, x.phase ≠ .receiving wait bits

/-! ## Keys that leave their destinations (R160, R165) -/

/-- A key as its deactivation leaves it (R165). -/
def Key.silent (k : Key) : Key :=
  { k with activity := .idle, summary := .idle, talking := 0, held := 0, queued := 0, denied := 0, dests := [], deniedAt := [], hangTimer := none, windowTimer := none }

/-- The destinations and the matrix line after the keys at the places ps have left: in the order given each key leaves each destination of its set, in turn, and the destination is settled before the next is taken (R160, R165, R167). -/
def State.keysLeave (s : State) (ps : List Nat) : State :=
  let on (l : Nat) : Bool := decide ((s.link l).state = .live ∨ (s.link l).state = .weak)
  ps.foldl (fun t p => (s.key p).dests.foldl (fun t l => State.settleDest
    { t with talk := { t.talk with dests := put t.talk.dests l ((t.dest l).leave (p / 12) (p % 12) (on l)) } } l) t) s

/-- In u the keys of s at the places ps have deactivated, in that order, and no others: talkback and the matrix line (R160, R165 to R168). DESIGN CHOICE (log entry 10): a changed record counts once for the whole event. -/
structure State.Deactivated (s u : State) (ps : List Nat) : Prop where
  silent : ∀ p < 192, p ∈ ps → u.key p = (s.key p).silent
  kept : ∀ p < 192, p ∉ ps → u.key p =
    if (s.key p).activity = .idle then s.key p else (s.key p).summarised ((s.key p).dests.map (u.keyStateAt (p / 12) (p % 12) (s.key p)))
  dests : ∀ l < 32, u.dest l = { (s.keysLeave ps).dest l with
    edition := if ((s.keysLeave ps).dest l).slots = (s.dest l).slots ∧ ((s.keysLeave ps).dest l).waiters = (s.dest l).waiters
      then (s.dest l).edition else (s.dest l).edition + 1 }
  points : u.matrix = (s.keysLeave ps).matrix
  edition : u.talk.edition = s.talk.edition + BitVec.ofNat 16
    (((List.range 32).filter fun l => decide ((u.dest l).edition ≠ (s.dest l).edition)).length +
      ((List.range 192).filter fun p => decide ((u.key p).published ≠ (s.key p).published)).length)
  settings : u.talk.stations = s.talk.stations ∧ u.talk.latchWindow = s.talk.latchWindow ∧ u.talk.activations = s.talk.activations

/-! ## Invariants -/

/-- A list of numbers is strictly rising. -/
def rising (l : List Nat) : Prop := l.Pairwise (· < ·)

/-- The pending set is kept rising and holds slot numbers only, so at most 32 (R184). -/
def Board.attentionOk (b : Board) : Prop := rising b.attention ∧ ∀ n ∈ b.attention, n < 32

/-- R177 of the matrix line: at most 32 entries, no point twice, every entry's value its point's image value; no point both queued and marked; and every point whose image value differs from the last frame begun for it is queued or marked. -/
structure Matrix.Ok (m : Matrix) : Prop where
  bounded : m.queue.length ≤ Config.queuePlaces
  once : (m.queue.map (·.1)).Nodup
  current : ∀ e ∈ m.queue, e.2 = m.image.get Config.mute e.1
  marksRising : rising m.marks
  apart : ∀ e ∈ m.queue, e.1 ∉ m.marks
  covered : ∀ p, m.image.get Config.mute p ≠ m.begun.get Config.mute p → p ∈ m.queue.map (·.1) ∨ p ∈ m.marks

/-- R26 of the plan, and what keeps it: while refresh-pending is clear, a recompute runs on the carriers, exclusions and rules as they stand, and otherwise each in-use entry's mark is set exactly when it takes part in an instance. -/
def Plan.marksOk (p : Plan) : Prop :=
  let right : Prop := ∀ n < 48, (look p.entries n).status ≠ .free →
    ((look p.entries n).mark = true ↔ ∃ i ∈ instances p.rules p.exclusions.toList (signalsOf p.entries), n ∈ i.members)
  let present (x : PlanSnapshot) : Prop := signalsOf x.entries = signalsOf p.entries ∧ x.exclusions = p.exclusions ∧ x.rules = p.rules
  p.refreshPending = false →
    match p.work with
    | .idle => right
    | .refresh x => present x
    | .job r => match r.stage with
      | .testing => right
      | .closing _ x => present x
      | .auditing x => present x

/-- The maps of the probe and the matrix line's sparse tables are in canonical form, as the request board's bodies are. -/
abbrev State.tablesOk (s : State) : Prop :=
  s.board.body.wf = true ∧ Cells.wf 0 s.probe.levels = true ∧ Cells.wf false s.probe.ownMarks = true ∧
    Cells.wf Config.mute s.matrix.image = true ∧ Cells.wf Config.mute s.matrix.begun = true

end Sys2Proof.Machine
end

