-- ==== Sys2Proof/Certificates/Slice0/Obligations.lean ====
section
/-! DEFINITION. The statements about the part. A request statement names the request by its slot n and its kind (R195); `s.param n w` is word w of the slot, `State.answered` its completion in the take step (R185, R186), and `State.settle` the end of a step: the plan engine chooses its work if it is IDLE (R27) and the arbiter grants a free line (R64). -/

open Sys2Proof Sys2Proof.Machine

/-! ## The queue and the board (chapter 12) -/

/-- The part takes the command at the front of its queue and runs its meaning on the state with the queue's rest; on an empty queue it idles. The queue is the model's own (log entry 1). -/
def Obligations.StepRunsTheFrontCommand : Prop :=
  (∀ (c : Instr) (rest : List Instr) (s : State), step { s with pending := c :: rest } = exec c { s with pending := rest }) ∧
  (∀ s : State, s.pending = [] → step s = .next s)

/-- Every command whose operands lie in their ranges is taken, whatever state the part is in: exec answers a next state. (That the part has no command it stops on is the spec's; the ranges are those of spec/00_scope.md, 5.2, and R181.) -/
def Obligations.EveryWellFormedCommandCompletes : Prop :=
  ∀ (c : Instr) (s : State), c.wf = true → ∃ t : State, exec c s = .next t

/-- R189, R6, R41, R44, R56, R58, R73, R114, R125, R133, R141, R153, R170, R176: a power-on reset, whatever the part was doing. Values the spec gives; the queue of commands outside the part is kept (the model's, log entry 1). R189: a soft reset is a power-on reset that keeps the occupancy map, the own-marks and the calibration record; while READY reads 0 the write is ignored. R190, R180: initialisation ends: READY becomes 1, device time counts from 0, the synthetic timer of 40 ms starts and CLEAR_ALL is begun on the matrix line; everything else stays. While READY reads 1 the event cannot occur (log entry 3). -/
def Obligations.ResetsAndInitialisation : Prop :=
   (∀ s : State, ∃ t : State, exec .powerOnReset s = .next t ∧ t.pending = s.pending ∧
      t.board.ready = false ∧ t.board.events = 0 ∧ t.board.enable = 0 ∧ t.board.attention = [] ∧ t.board.latch = none ∧
      t.board.time = 0 ∧ t.board.stray = 0 ∧ t.board.refused = 0 ∧ (∀ n < 32, t.slot n = .free ∧ ∀ w < 32, t.slotWord n w = 0) ∧
      (∀ n < 48, t.entry n = PlanEntry.free) ∧ (∀ k < 8, look t.plan.exclusions k = Exclusion.absent) ∧
      t.plan.rules = { gAdj := 8, g3 := 4, g5 := 2, im5 := false, threshold := 96, lockOverride := false, widthMic := 4, widthIem := 6, widthCamera := 160 } ∧
      t.plan.work = .idle ∧ t.plan.waiting = [] ∧ t.plan.refreshPending = false ∧ t.plan.edition = 0 ∧
      (∀ b < 1600, t.probe.levels.get 0 b = 0 ∧ t.probe.ownMarks.get false b = false) ∧ t.probe.cal = { tref := 0, nrefUsed := 0, time := 0 } ∧
      t.probe.state = .idle ∧ t.probe.unit = 0 ∧ t.probe.settle = 2 ∧ t.probe.nref = 4096 ∧ t.probe.recal = 64 ∧ t.probe.fault = false ∧
      (∀ a, 1 ≤ a → a ≤ 16 → t.unit a = UnitRec.unused) ∧ t.bus.pollGap = 10 ∧ t.bus.state = .idle ∧
      (∀ l < 32, t.link l = LinkRec.vacant ∧ t.dest l = Dest.vacant ∧ t.linkTally l = LinkTally.vacant) ∧ (∀ c < 4, t.ctx c = Ctx.free) ∧
      (∀ l < 3, (t.line l).state = .disabled ∧ (t.line l).rate = 2 ∧ (t.line l).staleTime = 1000 ∧ (t.line l).staleClear = 10000) ∧
      (∀ k < 128, look t.tally.sources k = .off) ∧ t.ref.locked = false ∧ t.ref.frames = 0 ∧
      (∀ n < 24, (t.lamp n).mode = .off ∧ (t.lamp n).state = .off ∧ (t.lamp n).duty = 0) ∧
      (∀ k < 16, look t.talk.stations k = 0) ∧ t.talk.latchWindow = 400 ∧ (∀ k < 192, t.key k = Key.reset) ∧
      (∀ p, t.imageAt p = 127) ∧ t.matrix.queue = [] ∧ t.matrix.marks = [] ∧ t.matrix.spills = 0) ∧
   (∀ s : State,
      (s.board.ready = false → exec .softReset s = .next s) ∧
      (s.board.ready = true → ∃ t u : State, exec .powerOnReset s = .next t ∧ exec .softReset s = .next u ∧
        u.probe.levels = s.probe.levels ∧ u.probe.ownMarks = s.probe.ownMarks ∧ u.probe.cal = s.probe.cal ∧
        u = { t with probe := { t.probe with levels := s.probe.levels, ownMarks := s.probe.ownMarks, cal := s.probe.cal } })) ∧
   (∀ s : State,
      (s.board.ready = false → exec .initialisationEnd s = .next
        { s with board := { s.board with ready := true, time := 0 }
                 ref := { s.ref with synthTimer := some { start := 0, len := 40 } }
                 matrix := { s.matrix with sender := .clearAll } }) ∧
      (s.board.ready = true → exec .initialisationEnd s = .next s) ∧
      Sender.clearAll.frame = [0xE4#8, 0#8, 0#8, 0#8, 0xE4#8])

/-- R188: a host write to EVENTS clears each bit written 1 and leaves each bit written 0; a write to EVENT_ENABLE sets the nine enables; the interrupt output is asserted exactly while a set bit has its enable set. R189: while READY reads 0 both writes are ignored and both registers read 0. Everything else is unchanged. R189, R193: writes to READY and to the three IDENT words have no effect, whatever READY reads, and IDENT reads the part's codes. That the unlisted bits of CONTROL read 0 is the model's choice (log entry 27). -/
def Obligations.RegisterWritesAndTheInterrupt : Prop :=
   (∀ (v : Word) (s : State),
      (∃ t : State, exec (.eventsWrite v) s = .next t ∧
        (∀ i < 9, t.board.events.getLsbD i = (s.board.events.getLsbD i && !(s.board.ready && v.getLsbD i))) ∧
        t = { s with board := { s.board with events := t.board.events } }) ∧
      (∃ t : State, exec (.eventEnableWrite v) s = .next t ∧
        (∀ i < 9, t.board.enable.getLsbD i = if s.board.ready then v.getLsbD i else s.board.enable.getLsbD i) ∧
        t = { s with board := { s.board with enable := t.board.enable } } ∧
        (t.interrupt = true ↔ ∃ i < 9, t.board.events.getLsbD i = true ∧ t.board.enable.getLsbD i = true)) ∧
      (s.board.ready = false → s.register 0 = 0 ∧ s.register 1 = 0)) ∧
   (∀ (v : Word) (s : State),
      (v.getLsbD 0 = false → exec (.registerWriteIgnored .ready v) s = .next s) ∧
      (∀ o, 4 ≤ o → o ≤ 6 → exec (.registerWriteIgnored (.ident o) v) s = .next s) ∧
      s.register 4 = 0x0A31#16 ∧ s.register 5 = 0x3640#16 ∧ s.register 6 = 0x0001#16 ∧
      s.register 3 = if s.board.ready then 2#16 else 0#16)

/-- R184 with R189: a number 0 to 31 joins the pending set, which stays without duplicates and of at most 32 members; a number above 31 counts as stray, the count stopping at 65,535; a read of ATTENTION returns the number of members; while READY reads 0 the write is ignored. Nothing else changes. R185: INTAKE_TAKE takes the lowest-numbered member of the pending set. A POSTED slot of a kind the part knows is handled as its request's command handles it; an unknown kind completes BAD_KIND; a slot in any other state is not touched and counts as stray. With the set empty, or READY 0, nothing happens. The last clause is the model's choice (log entries 2, 3 and 6): a request command stands for the take of its slot, one whose slot is not the intake's next, POSTED with its kind, changes nothing, and one that names a slot above 31 ends in a fault. R189: while READY reads 0 no request is taken. -/
def Obligations.AttentionFeedsTheIntake : Prop :=
   (∀ (v : Word) (s : State), s.board.attentionOk →
      ∃ t : State, exec (.attentionWrite v) s = .next t ∧ t.board.attentionOk ∧ t.board.attention.length ≤ 32 ∧
        (∀ m, m ∈ t.board.attention ↔ m ∈ s.board.attention ∨ (s.board.ready = true ∧ m = v.toNat ∧ v.toNat ≤ 31)) ∧
        t.board.stray.toNat = (if s.board.ready = true ∧ 31 < v.toNat then min 65535 (s.board.stray.toNat + 1) else s.board.stray.toNat) ∧
        t.register 2 = BitVec.ofNat 16 t.board.attention.length ∧
        t = { s with board := { s.board with attention := t.board.attention, stray := t.board.stray } }) ∧
   (∀ s : State,
      (s.board.ready = false ∨ s.board.attention = [] → exec .intakeTake s = .next s) ∧
      (∀ n rest, s.board.attentionOk → s.board.ready = true → s.board.attention = n :: rest → (∀ m ∈ s.board.attention, n ≤ m) ∧
        (s.slot n = .posted →
          match requestOf (s.param n 1) n with
          | some c => exec .intakeTake s = exec c s
          | none => exec .intakeTake s = .next (s.answered n .badKind [])) ∧
        (s.slot n ≠ .posted → exec .intakeTake s = .next { s with board := { s.board with attention := rest, stray := satInc s.board.stray } }))) ∧
   (∀ (kind n : Nat) (c : Instr) (s : State), requestOf kind n = some c →
      (n < 32 → (s.board.ready = false ∨ s.board.attention.head? ≠ some n ∨ s.slot n ≠ .posted ∨ s.param n 1 ≠ kind) → exec c s = .next s) ∧
      (32 ≤ n → exec c s = .fault (.noSuchSlot n)))

/-- R181, R183: a host write to a word of exchange memory. A body word of a FREE or POSTED slot takes the value and every other word of the slots' bodies stays; any other body word, and every word outside the request board, is left as it was and the refused-write count increments, stopping at 65,535. While READY reads 0 nothing is written or counted. Nothing else changes. -/
def Obligations.HostWritesReachOnlyOpenSlotBodies : Prop :=
  ∀ (a : Nat) (v : Word) (s : State), a < 16384 → s.board.body.wf = true →
    (∀ n w, n < 32 → 1 ≤ w → w < 32 → a = 0x40 + 32 * n + w → s.board.ready = true → (s.slot n = .free ∨ s.slot n = .posted) →
      ∃ t : State, exec (.hostWordWrite a v) s = .next t ∧ t.word a = v ∧ (∀ b, 0x40 ≤ b → b < 0x440 → b ≠ a → t.word b = s.word b) ∧
        t = { s with board := { s.board with body := t.board.body } }) ∧
    (∀ n w, n < 32 → 1 ≤ w → w < 32 → a = 0x40 + 32 * n + w → s.board.ready = true → (s.slot n = .taken ∨ s.slot n = .done) →
      exec (.hostWordWrite a v) s = .next { s with board := { s.board with refused := satInc s.board.refused } }) ∧
    ((a < 0x40 ∨ 0x440 ≤ a) → s.board.ready = true →
      exec (.hostWordWrite a v) s = .next { s with board := { s.board with refused := satInc s.board.refused } }) ∧
    (s.board.ready = false → exec (.hostWordWrite a v) s = .next s) ∧
    (satInc s.board.refused).toNat = min 65535 (s.board.refused.toNat + 1)

/-- R183, R186: a host write to the state word of a slot follows the table of R183; posting, withdrawing and handing back are such writes; bit n of the done bitmap is set exactly while slot n is DONE; a withdrawal and a handing back leave the body. -/
def Obligations.StateWordWritesFollowTheSlotTable : Prop :=
  ∀ (n : Nat) (v : Word) (s : State), n < 32 → s.board.ready = true →
    let moved (t : SlotState) : Host.Outcome State Fault Refusal := .next { s with board := { s.board with slots := put s.board.slots n t } }
    let dropped : Host.Outcome State Fault Refusal := .next { s with board := { s.board with refused := satInc s.board.refused } }
    exec (.hostWordWrite (0x40 + 32 * n) v) s =
      (match s.slot n with
        | .free => if v = 1#16 then moved .posted else dropped
        | .posted => if v = 0#16 then moved .free else dropped
        | .taken => dropped
        | .done => if v = 0#16 then moved .free else dropped) ∧
    (s.slot n = .free → exec (.slotPost n) s = moved .posted) ∧
    (s.slot n = .posted → exec (.slotWithdraw n) s = moved .free) ∧
    (s.slot n = .done → ∃ t : State, exec (.slotHandBack n) s = .next t ∧ exec (.slotHandBack n) s = moved .free ∧ t.doneBitmap.getLsbD n = false) ∧
    (∀ m < 32, s.doneBitmap.getLsbD m = decide (s.slot m = .done))

/-- R182: the read latch. A read of the low word of a 32-bit field returns it and loads the latch with the field and its high word; a read of the high word under a latch loaded for the field returns the latched value and empties the latch, and otherwise the present value with the latch unchanged; a read of any other word returns it and leaves the latch; while READY reads 0 a read returns 0. Nothing else changes. The 32-bit fields are device time, the frame counter, the done bitmap, T_ref and the calibration time of the header (R194); in a slot those that R195 gives the kind in its word 1 (AUDIT's totals, SCAN's T_ref, the rescue time, backoff and hold timeout of BIND_LINK and SET_LINK_OPTIONS, SET_LINE's stale-clear time); the last loss and last rescue times of a link, the stale-clear and last good frame times of a line, the three expiries of a move context (R196). R191 to R197: which field of which record stands in which word, region by region, every unlisted and unassigned word reading 0 and an absent field all ones. (That these words are computed from the records, and which fields count as 32-bit, is log entries 16 and 25; that step, start and limit of a context with an explicit code read 0 is the model's choice, log entry 27.) -/
def Obligations.ReadsReturnThePublishedWords : Prop :=
   (∀ (a : Nat) (s : State), a < 16384 →
      let returns (w : Word) (l : Option (Nat × Word)) : Host.Outcome State Fault Refusal :=
        .next { s with board := { s.board with hostData := w, latch := l } }
      (s.board.ready = true → s.isLow32 a = true →
        exec (.latchLowRead a) s = returns (s.word a) (some (a, s.word (a + 1))) ∧
        (∀ h, s.board.latch = some (a, h) → exec (.latchHighRead (a + 1)) s = returns h none) ∧
        ((∀ h, s.board.latch ≠ some (a, h)) → exec (.latchHighRead (a + 1)) s = returns (s.word (a + 1)) s.board.latch)) ∧
      (s.board.ready = true → s.isLow32 a = false → (∀ b, a = b + 1 → s.isLow32 b = false) →
        exec (.latchLowRead a) s = returns (s.word a) s.board.latch ∧ exec (.latchHighRead a) s = returns (s.word a) s.board.latch) ∧
      (s.board.ready = false → exec (.latchLowRead a) s = returns 0 s.board.latch ∧ exec (.latchHighRead a) s = returns 0 s.board.latch) ∧
      (s.isLow32 a = true ↔ a ∈ [0x04, 0x06, 0x0C, 0x2C, 0x30] ∨
        (∃ n < 32, ∃ k < 32, a = 0x40 + 32 * n + k ∧ let kind := s.param n 1
          (kind = 7 ∧ k ∈ [6, 8, 10, 12, 14, 16]) ∨ (kind = 9 ∧ k = 8) ∨ (kind = 14 ∧ k ∈ [18, 20, 23]) ∨ (kind = 16 ∧ k ∈ [10, 12, 15]) ∨
          (kind = 20 ∧ k = 11)) ∨
        (∃ l < 32, a = 0x440 + 24 * l + 7 ∨ a = 0x440 + 24 * l + 10) ∨ (∃ n < 3, a = 0x1050 + 16 * n + 4 ∨ a = 0x1050 + 16 * n + 11) ∨
        (∃ c < 4, a = 0x1080 + 16 * c + 9 ∨ a = 0x1080 + 16 * c + 11 ∨ a = 0x1080 + 16 * c + 13))) ∧
   (∀ s : State,
      let w (v : Nat) : Word := BitVec.ofNat 16 v
      let bytes (lo hi : Nat) : Word := w (lo % 256 + 256 * (hi % 256))
      let bit (b : Bool) : Nat := if b then 1 else 0
      let byteOr (v : Option Nat) : Nat := v.getD 0xFF
      let wordOr (v : Option Nat) : Word := match v with
        | none => 0xFFFF#16
        | some x => w x
      let timeOr (v : Option Time) : Time := v.getD 0xFFFFFFFF#32
      let ends (v : Option Timer) : Time := timeOr (v.map fun x => x.start + BitVec.ofNat 32 x.len)
      let at16 (base size : Nat) : List Word := (List.range size).map fun k => s.word (base + k)
      at16 0 64 =
        [0x0A31#16, 0x3640#16, 0x0001#16, 0, lowWord s.board.time, highWord s.board.time, lowWord s.ref.frames, highWord s.ref.frames,
         w (bit !s.ref.locked), s.board.stray, s.board.refused, 0, lowWord s.doneBitmap, highWord s.doneBitmap, 0, 0,
         s.links.edition, s.plan.edition, s.probe.edition, s.tally.edition, s.lamps.edition, s.talk.edition, s.lines.edition, s.moves.edition,
         bytes (match s.plan.work with
           | .idle => 0
           | .job r => (match r.job.work with
             | .check _ _ => 1
             | .search _ => 2
             | .audit => 3)
           | .refresh _ => 4) s.plan.waiting.length,
         w (bit s.plan.refreshPending), 0, 0, 0, 0, 0, 0,
         w s.probe.state.ctorIdx, w s.probe.unit, w s.probe.settle, w s.probe.nref, w s.probe.recal, w s.probe.lo, w s.probe.hi, w s.probe.cur,
         w s.probe.measured, w s.probe.sinceRef, w (bit s.probe.hostHold + 2 * bit s.probe.autoHold), w (bit s.probe.fault),
         w s.probe.cal.tref, w (s.probe.cal.tref / 65536), w s.probe.cal.nrefUsed, 0,
         lowWord s.probe.cal.time, highWord s.probe.cal.time, 0, 0, w s.talk.latchWindow, s.matrix.spills, 0, 0, 0, 0, 0, 0, 0, 0, 0, 0] ∧
      (∀ n < 32, s.word (0x40 + 32 * n) = w (s.slot n).ctorIdx ∧ ∀ k, 1 ≤ k → k < 32 → s.word (0x40 + 32 * n + k) = s.slotWord n k) ∧
      (∀ l < 32, let r := s.link l
        let source (k : Nat) : Nat := match r.sources[k]? with
          | none => 0
          | some x => 128 * x.1 + x.2
        let long := r.options.rescueTime + 2 ^ 20 * r.options.backoff + 2 ^ 42 * r.options.hold
        let rescue : Nat := match r.rescueTimer with
          | .stopped => 0
          | .running _ => 1
          | .waiting => 2
        at16 (0x440 + 24 * l) 24 =
          [w (r.state.ctorIdx + 16 * r.applied.ctorIdx + 64 * r.kind.ctorIdx + 256 * r.studio.ctorIdx + 512 * r.channel + 2048 * r.unit),
           bytes r.originEntry (byteOr r.targetEntry),
           w (bit r.lock + 2 * bit r.farPresent + 4 * bit r.localMuted + 8 * bit r.mistuned + 16 * bit r.retunedOnAir + 32 * bit r.headPending +
             64 * bit r.mutePending + 128 * bit r.options.rescue + 256 * rescue + 1024 * (r.moveOrigin.map fun o => o.ctorIdx).getD 3 +
             4096 * r.outcome.ctorIdx),
           bytes r.rfLevel r.battery, wordOr r.tuned, bytes r.options.rfThreshold (byteOr r.output), r.lossCount,
           lowWord r.lastLoss, highWord r.lastLoss, r.rescueCount, lowWord (timeOr r.lastRescue), highWord (timeOr r.lastRescue),
           bytes (source 0) (source 1), bytes (source 2) (source 3), w r.options.weakTime, w r.options.lossTime, w r.options.confirm,
           w r.options.searchLo, w r.options.searchHi, w long, w (long / 2 ^ 16), w (long / 2 ^ 32), w (long / 2 ^ 48), r.edition]) ∧
      (∀ n < 48, let e := s.entry n
        at16 (0x740 + 8 * n) 8 = [bytes e.status.ctorIdx e.kind.ctorIdx, wordOr e.owner, w e.code, w e.width,
          w (bit e.lock + 2 * bit e.mark + 256 * e.worst.ctorIdx), w e.count, e.edition, 0]) ∧
      (∀ k < 8, let x := look s.plan.exclusions k
        at16 (0x8C0 + 4 * k) 4 = [w (bit x.present), w x.lo, w x.hi, x.edition]) ∧
      (∀ a, 1 ≤ a → a ≤ 16 → let u := s.unit a
        at16 (0x8E0 + 2 * (a - 1)) 2 = [bytes (u.state.ctorIdx + 4 * u.role.ctorIdx) u.misses.toNat, bytes u.good.toNat u.failed.toNat]) ∧
      (∀ t < 2, ∀ x, 1 ≤ x → x ≤ 64 → s.word (0x900 + 64 * t + x - 1) = w (look s.tally.sources (64 * t + x - 1)).ctorIdx) ∧
      (∀ n < 24, let p := s.lamp n
        at16 (0x980 + 8 * n) 8 = [bytes p.mode.ctorIdx p.state.ctorIdx, w p.link, bytes p.dutyOff p.dutyIso, bytes p.dutyPreview p.dutyProgram,
          bytes p.fixed p.fadeN, w (bit p.alarm + 2 * bit p.inverted), bytes p.target p.duty, p.edition]) ∧
      (∀ st < 16, ∀ k < 12, let x := s.key (12 * st + k)
        at16 (0xA40 + 4 * (12 * st + k)) 4 = [w (x.target + 64 * x.talking + 4096 * x.summary.ctorIdx), w (x.held + 64 * x.queued),
          w (x.denied + 64 * x.atten), w (x.hang + 2048 * x.mode.ctorIdx + 8192 * x.activity.ctorIdx)]) ∧
      (∀ n < 16, s.word (0xD40 + n) = w (look s.talk.stations n)) ∧
      (∀ l < 32, let d := s.dest l
        let who (x : Waiter) : Nat := x.station + 16 * x.key + 256 * x.priority
        let slot (i : Nat) : Word := match d.slot i with
          | none => 0xFFFF#16
          | some x => w (who x.req + (if x.talking then 0 else 2048))
        at16 (0xD50 + 24 * l) 13 = [d.edition, w d.base, w d.offAir, w d.onAir, w d.rate, w d.current, w d.target, w (bit d.talking),
          w (d.grant.getD 0 15 + 16 * d.grant.getD 1 15 + 256 * d.grant.getD 2 15 + 4096 * d.grant.getD 3 15), slot 0, slot 1, slot 2, slot 3] ∧
        (∀ k < 8, s.word (0xD50 + 24 * l + 13 + k) = wordOr (d.waiters[k]?.map who)) ∧
        at16 (0xD50 + 24 * l + 21) 3 = [w d.waiters.length, 0, 0]) ∧
      (∀ n < 3, let r := s.line n
        at16 (0x1050 + 16 * n) 16 = [bytes r.state.ctorIdx (if r.decoder = .hunt then 0 else 1),
          w (bit r.enable + 2 * r.parity.ctorIdx + 8 * (r.stopBits - 1) + 16 * r.filter.ctorIdx + 64 * bit r.held), w r.rate, w r.staleTime,
          w r.staleClear, w (r.staleClear / 65536), r.good, r.parityErrors, r.framingErrors, r.frameErrors, r.discarded,
          lowWord r.lastGood, highWord r.lastGood, r.edition, 0, 0]) ∧
      (∀ c < 4, let x := s.ctx c
        let asked : Nat × Nat × Nat := match x.target with
          | .code _ => (0, 0, 0)
          | .auto step start limit => (step, start, limit)
        at16 (0x1080 + 16 * c) 16 = [bytes x.phase.ctorIdx x.link,
          w (byteOr x.slot + 256 * x.origin.ctorIdx + 512 * bit x.holdTimer.isSome + 1024 * bit x.confirmTimer.isSome + 2048 * bit x.queryTimer.isSome),
          (match x.target with
            | .code v => w v
            | .auto _ _ _ => 0xFFFF#16),
          bytes (byteOr x.targetEntry) asked.1, w asked.2.1, w asked.2.2, wordOr x.targetCode,
          w (bit x.urgent + 2 * bit x.manualGo + 4 * bit x.force + 8 * bit x.override + 16 * bit x.go + 32 * bit x.abort + 64 * x.outcome.ctorIdx +
            1024 * x.cause.ctorIdx + 4096 * x.reason.ctorIdx), w x.examined,
          lowWord (ends x.holdTimer), highWord (ends x.holdTimer), lowWord (ends x.confirmTimer), highWord (ends x.confirmTimer),
          lowWord (ends x.queryTimer), highWord (ends x.queryTimer), x.edition]) ∧
      (∀ b < 1600, (s.word (0x1400 + b / 2)).toNat / (if b % 2 = 0 then 1 else 256) % 256 = s.probe.levels.get 0 b % 256 ∧
        (s.word (0x1720 + b / 16)).getLsbD (b % 16) = s.probe.ownMarks.get false b) ∧
      (∀ a, (0x10C0 ≤ a ∧ a < 0x1400) ∨ (0x1784 ≤ a ∧ a < 0x4000) → s.word a = 0))

/-- R182: reads of 32-bit fields and the resets alone change the latch, so that a host that reads a field low word first and high word next obtains both halves as they stood at the first read, however the part changes the field between the two reads. -/
def Obligations.NothingElseChangesTheReadLatch : Prop :=
  ∀ (c : Instr) (s t : State), (∀ a, c ≠ .latchLowRead a) → (∀ a, c ≠ .latchHighRead a) → c ≠ .powerOnReset → c ≠ .softReset →
    exec c s = .next t → t.board.latch = s.board.latch

/-! ## The frequency plan and the plan engine (chapters 1 and 2) -/

/-- R9: SET_RULES writes the selected rules, each clamped to its range, and keeps the others; a change increments the plan edition and sets EVENTS.PLAN and refresh-pending; CLAMPED if a selected value was clamped. The rules in force after a reset are the defaults of R9's table. An IM5 or lock-override enable above 1, taken as 1 and counted for CLAMPED, is the model's choice (log entry 15). -/
def Obligations.SetRulesAndTheDefaults : Prop :=
   (∀ (n : Nat) (s : State), n < 32 → s.takesNext n 1 = true →
      let sel (k : Nat) : Bool := (s.param n 4).testBit k
      let raw (k : Nat) : Nat := s.param n (5 + k)
      let pick (k lo hi cur : Nat) : Nat := if sel k then max lo (min hi (raw k)) else cur
      let off (k lo hi : Nat) : Bool := sel k && (decide (raw k < lo) || decide (hi < raw k))
      let old := s.plan.rules
      let new : Rules :=
        { gAdj := pick 0 0 400 old.gAdj, g3 := pick 1 0 200 old.g3, g5 := pick 2 0 200 old.g5,
          im5 := if sel 3 then decide (raw 3 ≠ 0) else old.im5, threshold := pick 4 1 255 old.threshold,
          lockOverride := if sel 5 then decide (raw 5 ≠ 0) else old.lockOverride,
          widthMic := pick 6 1 320 old.widthMic, widthIem := pick 7 1 320 old.widthIem, widthCamera := pick 8 1 320 old.widthCamera }
      let r : Result :=
        if off 0 0 400 || off 1 0 200 || off 2 0 200 || off 3 0 1 || off 4 1 255 || off 5 0 1 || off 6 1 320 || off 7 1 320 || off 8 1 320
        then .clamped else .ok
      exec (.setRules n) s = .next (State.settle (
        if new = old then s.answered n r []
        else { s with plan := { s.plan with rules := new, edition := s.plan.edition + 1, refreshPending := true }
                      board := s.board.note [.plan] }.answered n r []))) ∧
   (∀ s t : State, (exec .powerOnReset s = .next t ∨ (s.board.ready = true ∧ exec .softReset s = .next t)) →
      t.plan.rules = { gAdj := 8, g3 := 4, g5 := 2, im5 := false, threshold := 96, lockOverride := false, widthMic := 4, widthIem := 6, widthCamera := 160 })

/-- R8: SET_EXCLUSION, with its checks, clamps and results; an unchanged place changes nothing else, no carrier included; a changed one increments its edition and the plan edition and sets EVENTS.PLAN and refresh-pending. Word 5 is 1 for SET, 0 for CLEAR (R195). An in-use LINK entry that overlaps a present place is marked at the refresh that takes it, and stays the carrier it was. A candidate of a running job is tested against the places as they stand at its test: a LINK candidate within the band that overlaps one fails. -/
def Obligations.SetExclusionWritesItsPlace : Prop :=
  (∀ (n : Nat) (s : State), n < 32 → s.takesNext n 2 = true →
    let k := s.param n 4
    let action := s.param n 5
    let lo := min 12799 (s.param n 6)
    let hi := min 12799 (s.param n 7)
    let old := look s.plan.exclusions k
    let written (x : Exclusion) (r : Result) : State :=
      if x.present = old.present ∧ x.lo = old.lo ∧ x.hi = old.hi then s.answered n r []
      else { s with plan := { s.plan with exclusions := put s.plan.exclusions k { x with edition := old.edition + 1 }
                                          edition := s.plan.edition + 1, refreshPending := true }
                    board := s.board.note [.plan] }.answered n r []
    exec (.setExclusion n) s = .next (State.settle (
      if 7 < k ∨ 1 < action then s.answered n .badField []
      else if action = 0 then written { present := false, lo := 0, hi := 0, edition := 0 } .ok
      else if hi < lo then s.answered n .badField []
      else written { present := true, lo := lo, hi := hi, edition := 0 }
        (if 12799 < s.param n 6 ∨ 12799 < s.param n 7 then .clamped else .ok)))) ∧
  (∀ (s : State) (x : PlanSnapshot) (e : Nat), s.board.ready = true → s.plan.work = .refresh x → e < 48 →
    let old := s.entry e
    let begun := look x.entries e
    old.status ≠ .free → begun.status ≠ .free → begun.kind = .link →
    (∃ k < 8, (look x.exclusions k).present = true ∧ begun.code ≤ (look x.exclusions k).hi + begun.width ∧
      (look x.exclusions k).lo ≤ begun.code + begun.width) →
    ∃ u : State, exec .refreshEnd s = .next u.settle ∧ (u.entry e).mark = true ∧ 0 < (u.entry e).count ∧ (u.entry e).worst = .excl ∧
      u.entry e = { old with mark := true, count := (u.entry e).count, worst := .excl, edition := (u.entry e).edition }) ∧
  (∀ (s : State) (r : Running) (g : Grid) (n : Nat), s.board.ready = true → s.plan.work = .job r → r.stage = .testing →
    r.job.source = .place n → r.job.work = .search g → r.job.kind = .link → r.width ≤ r.cursor → r.cursor + r.width ≤ 12799 →
    (∃ k < 8, (look s.plan.exclusions k).present = true ∧ r.cursor ≤ (look s.plan.exclusions k).hi + r.width ∧
      (look s.plan.exclusions k).lo ≤ r.cursor + r.width) →
    let count := r.examined + 1
    exec .candidateTest s = .next (State.settle (
      if count < g.limit ∧ count ≤ (g.hi - g.lo) / g.step then
        { s with plan := { s.plan with work := .job { r with cursor := g.next r.cursor, examined := count } } }
      else State.complete { s with plan := { s.plan with work := .idle } } n (if r.aborted then .aborted else .noChannel)
        [(12, 0xFFFF#16), (13, BitVec.ofNat 16 count)])))

/-- R13: LOCK_CARRIER sets or clears the lock flag of an ACTIVE entry; a change increments the entry edition and the plan edition and sets EVENTS.PLAN; refresh-pending is not set. Word 5 is 1 for LOCK, 0 for UNLOCK (R195). R18 with R14 and R17: CLEAR_CARRIER's checks in their order, the first that applies deciding; a FOREIGN entry that passes them is freed through the removal path, which keeps its edition counting, increments the plan edition and sets EVENTS.PLAN and refresh-pending, leaving every other entry as it is. -/
def Obligations.LockCarrierAndClearCarrier : Prop :=
   (∀ (n : Nat) (s : State), n < 32 → s.takesNext n 6 = true →
      let e := s.param n 4
      let x := s.entry e
      let lock := decide (s.param n 5 = 1)
      exec (.lockCarrier n) s = .next (State.settle (
        if 47 < e ∨ 1 < s.param n 5 then s.answered n .badField []
        else if x.status = .free then s.answered n .notFound []
        else if x.status = .reserved then s.answered n .inUse []
        else if x.lock = lock then s.answered n .ok []
        else { s with plan := { s.plan with entries := put s.plan.entries e { x with lock := lock, edition := x.edition + 1 }
                                            edition := s.plan.edition + 1 }
                      board := s.board.note [.plan] }.answered n .ok []))) ∧
   (∀ (n : Nat) (s : State), n < 32 → s.takesNext n 5 = true →
      let e := s.param n 4
      let x := s.entry e
      let override := (s.param n 5).testBit 1 && s.plan.rules.lockOverride
      exec (.clearCarrier n) s = .next (State.settle (
        if 47 < e then s.answered n .badField []
        else if x.status = .free then s.answered n .notFound []
        else if x.kind = .link then s.answered n .inUse []
        else if s.carrierNamed e then s.answered n .busy []
        else if x.lock && !override then s.answered n .locked []
        else { s with plan := { s.plan with
                        entries := put s.plan.entries e
                          { status := .free, kind := .link, owner := none, code := 0, width := 0, lock := false, mark := false, count := 0,
                            worst := .none, edition := x.edition + 1 }
                        edition := s.plan.edition + 1, refreshPending := true }
                      board := s.board.note [.plan] }.answered n .ok [])))

/-- R34: the parameters of a search as read from its words: lo and hi clamped, step and limit 0 or absent taking 1 and 12,800, an absent start taking lo, otherwise each clamped into its range; clamping is noted; lo above hi after clamping is the BAD_FIELD case. R34, R35: from its first candidate, the first grid code not below the start or lo when there is none, a search stepped as often as the grid has codes meets every grid code once. A step and a limit word of 0xFFFF read as absent is the model's choice (log entry 15). -/
def Obligations.SearchesCoverTheirClampedGrid : Prop :=
   (∀ lo hi step start limit : Nat,
      let f := gridField lo hi step start limit
      let absent (v : Nat) : Prop := v = 0 ∨ v = 0xFFFF
      f.grid.lo = min 12799 lo ∧ f.grid.hi = min 12799 hi ∧
      (absent step → f.grid.step = 1) ∧ (¬absent step → f.grid.step = min 64 step) ∧
      (absent limit → f.grid.limit = 12800) ∧ (¬absent limit → f.grid.limit = min 12800 limit) ∧
      (start = 0xFFFF → f.grid.start = f.grid.lo) ∧
      (start ≠ 0xFFFF → f.grid.lo ≤ f.grid.hi → f.grid.start = max f.grid.lo (min f.grid.hi start)) ∧
      (f.bad = true ↔ min 12799 hi < min 12799 lo) ∧
      (f.bad = false → (f.was = true ↔ 12799 < lo ∨ 12799 < hi ∨ (¬absent step ∧ 64 < step) ∨ (¬absent limit ∧ 12800 < limit) ∨
        (start ≠ 0xFFFF ∧ (start < f.grid.lo ∨ f.grid.hi < start))))) ∧
   (∀ g : Grid, g.lo ≤ g.hi → 0 < g.step → g.lo ≤ g.start → g.start ≤ g.hi →
      let visited := (List.range g.size).map fun k => Nat.iterate g.next k g.first
      visited.Nodup ∧ visited.length = (g.hi - g.lo) / g.step + 1 ∧
      (∀ x, x ∈ visited ↔ ∃ j, x = g.lo + j * g.step ∧ x ≤ g.hi) ∧
      ((∃ x ∈ visited, g.start ≤ x) → g.start ≤ g.first ∧ ∀ x ∈ visited, g.start ≤ x → g.first ≤ x) ∧
      ((∀ x ∈ visited, x < g.start) → g.first = g.lo))

/-- R38: PLACE. Its checks at the take in the order kind, link index and range, binding, room among the 8 host places (the order of the first three is the model's choice, log entry 14); a refusal reports no code and 0 candidates; otherwise the slot stays TAKEN and a SEARCH of a LINK candidate joins the list. A half-width word 0xFFFF read as absent and not counted for CLAMPED is the model's choice as well (log entry 15). -/
def Obligations.PlaceRaisesASearch : Prop :=
  ∀ (n : Nat) (s : State), n < 32 → s.takesNext n 3 = true →
    let g := gridField (s.param n 7) (s.param n 8) (s.param n 9) (s.param n 10) (s.param n 11)
    let w := s.param n 5
    let l := s.param n 6
    let given := decide (l ≠ 0xFFFF)
    let refuse (r : Result) : State := s.answered n r [(12, 0xFFFF#16), (13, 0#16)]
    exec (.place n) s = .next (State.settle (
      if 2 < s.param n 4 then refuse .badField
      else if given ∧ 31 < l ∨ g.bad = true then refuse .badField
      else if given ∧ (s.link l).state = .vacant then refuse .notBound
      else if 8 ≤ (s.plan.waiting.filter fun j => !j.source.isMove).length then refuse .busy
      else { s with
        board := s.board.holding n
        plan := { s.plan with waiting := s.plan.waiting ++
          [{ source := .place n, work := .search g.grid, kind := .link, width := if w = 0 ∨ w = 0xFFFF then 0 else min 320 w,
             linkKind := if s.param n 4 = 0 then .camera else if s.param n 4 = 1 then .mic else .iem,
             link := if given then some l else none, clamped := decide (w ≠ 0xFFFF ∧ 320 < w) || g.was }] } }))

/-- R39: SET_CARRIER's checks at the take in their order; a refusal reports no entry and no reason; otherwise the slot stays TAKEN and a CHECK of a FOREIGN candidate, its code and half-width clamped, joins the list with the entry it names. R40, R28: AUDIT joins the waiting list as a host job, or completes BUSY with every total 0 when 8 host jobs wait. -/
def Obligations.SetCarrierAndAuditJoinTheList : Prop :=
   (∀ (n : Nat) (s : State), n < 32 → s.takesNext n 4 = true →
      let code := s.param n 4
      let width := s.param n 5
      let e := s.param n 6
      let flags := s.param n 7
      let x := s.entry e
      let override := flags.testBit 1 && s.plan.rules.lockOverride
      let refuse (r : Result) : State := s.answered n r [(8, 0xFFFF#16), (9, 0xFFFF#16)]
      let accept : State :=
        if 8 ≤ (s.plan.waiting.filter fun j => !j.source.isMove).length then refuse .busy
        else { s with
          board := s.board.holding n
          plan := { s.plan with waiting := s.plan.waiting ++
            [{ source := .setCarrier n (if e = 0xFFFF then none else some e), work := .check (min 12799 code) (flags.testBit 0), kind := .foreign,
               width := max 1 (min 320 width), linkKind := .camera, link := none,
               clamped := decide (12799 < code ∨ width = 0 ∨ 320 < width) }] } }
      exec (.setCarrier n) s = .next (State.settle (
        if e = 0xFFFF then accept
        else if 47 < e then refuse .badField
        else if x.status = .free then refuse .notFound
        else if x.kind = .link then refuse .inUse
        else if s.carrierNamed e then refuse .busy
        else if x.lock && !override then refuse .locked
        else accept))) ∧
   (∀ (n : Nat) (s : State), n < 32 → s.takesNext n 7 = true →
      exec (.audit n) s = .next (State.settle (
        if 8 ≤ (s.plan.waiting.filter fun j => !j.source.isMove).length
        then s.answered n .busy ((List.range 14).map fun k => (4 + k, 0#16))
        else { s with
          board := s.board.holding n
          plan := { s.plan with waiting := s.plan.waiting ++
            [{ source := .audit n, work := .audit, kind := .link, width := 0, linkKind := .camera, link := none, clamped := false }] } })))

/-- R31 to R33: the reason of a candidate is its first failing test: the band, then for a LINK candidate the exclusions and the bins under its span, then the first type of an instance it takes part in, in the order ADJ, IM3_2, IM3_3, IM5 (IM5 while enabled). A bin is occupied when its level is neither 0 nor below the threshold and it is not an own-marked bin that no other in-use LINK entry overlaps. -/
def Obligations.CandidateReasonIsTheFirstFailingTest : Prop :=
  ∀ (c : Candidate) (p : Plan) (pr : Probe),
    let band := c.width ≤ c.code ∧ c.code + c.width ≤ 12799
    let excluded := c.kind = .link ∧ ∃ k < 8, (look p.exclusions k).present = true ∧
      c.code - c.width ≤ (look p.exclusions k).hi ∧ (look p.exclusions k).lo ≤ c.code + c.width
    let overlapped (b : Nat) : Prop := ∃ n < 48, (look p.entries n).status ≠ .free ∧ (look p.entries n).kind = .link ∧ c.leftOut ≠ some n ∧
      (look p.entries n).code ≤ 8 * b + 7 + (look p.entries n).width ∧ 8 * b ≤ (look p.entries n).code + (look p.entries n).width
    let occupied (b : Nat) : Prop := pr.levels.get 0 b ≠ 0 ∧ p.rules.threshold ≤ pr.levels.get 0 b ∧
      ¬(pr.ownMarks.get false b = true ∧ ¬overlapped b)
    let busy := c.kind = .link ∧ ∃ b, (c.code - c.width) / 8 ≤ b ∧ b ≤ (c.code + c.width) / 8 ∧ occupied b
    let l := testSet p.entries c
    let partOf (is : List Inst) : Prop := ∃ i ∈ is, candidateId ∈ i.members
    (c.reason p pr = .band ↔ ¬band) ∧
    (c.reason p pr = .excl ↔ band ∧ excluded) ∧
    (c.reason p pr = .occupied ↔ band ∧ ¬excluded ∧ busy) ∧
    (c.reason p pr = .adj ↔ band ∧ ¬excluded ∧ ¬busy ∧ partOf (adjInstances p.rules l)) ∧
    (c.reason p pr = .im32 ↔ band ∧ ¬excluded ∧ ¬busy ∧ ¬partOf (adjInstances p.rules l) ∧ partOf (im32Instances p.rules l)) ∧
    (c.reason p pr = .im33 ↔ band ∧ ¬excluded ∧ ¬busy ∧ ¬partOf (adjInstances p.rules l) ∧ ¬partOf (im32Instances p.rules l) ∧
      partOf (im33Instances p.rules l)) ∧
    (c.reason p pr = .im5 ↔ band ∧ ¬excluded ∧ ¬busy ∧ ¬partOf (adjInstances p.rules l) ∧ ¬partOf (im32Instances p.rules l) ∧
      ¬partOf (im33Instances p.rules l) ∧ p.rules.im5 = true ∧ partOf (im5Instances p.rules l)) ∧
    (c.reason p pr = .none ↔ band ∧ ¬excluded ∧ ¬busy ∧ ¬partOf (adjInstances p.rules l) ∧ ¬partOf (im32Instances p.rules l) ∧
      ¬partOf (im33Instances p.rules l) ∧ (p.rules.im5 = true → ¬partOf (im5Instances p.rules l)))

/-- R20 to R25: the instances among the entries of a plan table, counted by type as an AUDIT totals them: EXCL by LINK entry and overlapped present place, ADJ by unordered pair, IM3_2 and IM5 by ordered source pair and victim, IM3_3 by unordered pair, third source and victim; products outside the band strike nothing. -/
def Obligations.InstancesAreCountedByType : Prop :=
  ∀ (r : Rules) (xs : Vector Exclusion 8) (es : Vector PlanEntry 48),
    let e (n : Fin 48) : PlanEntry := es[n]
    let f (n : Fin 48) : Int := (e n).code
    let w (n : Fin 48) : Int := (e n).width
    let used (n : Fin 48) : Bool := decide ((e n).status ≠ .free)
    let src (n : Fin 48) : Bool := used n && decide ((e n).kind = .link)
    let struck (p s g : Int) (v : Fin 48) : Prop := 0 ≤ p ∧ p ≤ 12799 ∧ |p - f v| < s + w v + g
    let total (t : Violation) : Nat := ((instances r xs.toList (signalsOf es)).filter fun i => decide (i.type = t)).length
    total .excl = Finset.card {q : Fin 48 × Fin 8 | src q.1 = true ∧ (xs[q.2]).present = true ∧
      f q.1 - w q.1 ≤ (xs[q.2]).hi ∧ ((xs[q.2]).lo : Int) ≤ f q.1 + w q.1} ∧
    total .adj = Finset.card {q : Fin 48 × Fin 48 | q.1 < q.2 ∧ used q.1 = true ∧ used q.2 = true ∧
      |f q.1 - f q.2| < w q.1 + w q.2 + (r.gAdj : Int)} ∧
    total .im32 = Finset.card {q : Fin 48 × Fin 48 × Fin 48 | src q.1 = true ∧ src q.2.1 = true ∧ q.1 ≠ q.2.1 ∧ used q.2.2 = true ∧
      q.2.2 ≠ q.1 ∧ q.2.2 ≠ q.2.1 ∧ struck (2 * f q.1 - f q.2.1) (2 * w q.1 + w q.2.1) r.g3 q.2.2} ∧
    total .im33 = Finset.card {q : Fin 48 × Fin 48 × Fin 48 × Fin 48 | src q.1 = true ∧ src q.2.1 = true ∧ src q.2.2.1 = true ∧
      q.1 < q.2.1 ∧ q.2.2.1 ≠ q.1 ∧ q.2.2.1 ≠ q.2.1 ∧ used q.2.2.2 = true ∧ q.2.2.2 ≠ q.1 ∧ q.2.2.2 ≠ q.2.1 ∧ q.2.2.2 ≠ q.2.2.1 ∧
      struck (f q.1 + f q.2.1 - f q.2.2.1) (w q.1 + w q.2.1 + w q.2.2.1) r.g3 q.2.2.2} ∧
    total .im5 = Finset.card {q : Fin 48 × Fin 48 × Fin 48 | r.im5 = true ∧ src q.1 = true ∧ src q.2.1 = true ∧ q.1 ≠ q.2.1 ∧
      used q.2.2 = true ∧ q.2.2 ≠ q.1 ∧ q.2.2 ≠ q.2.1 ∧ struck (3 * f q.1 - 2 * f q.2.1) (3 * w q.1 + 2 * w q.2.1) r.g5 q.2.2}

/-- R29 to R31, R33, R34: CANDIDATE_TEST tests the next candidate of the running CHECK or SEARCH. The test is the job's last when the candidate passes, or is forced inside the band, when the job is a CHECK, or when the grid or the limit is exhausted; any other test moves the search on, aborted or not. A last test that passes commits, unless the job was aborted; otherwise the job ends ABORTED, CONFLICT or NO_CHANNEL with the candidates examined. PLACE commits nothing: it completes with the code. R4, R39: a SET_CARRIER writes a new FOREIGN entry into the lowest FREE one, or the code and half-width of the entry it names; one that changes nothing completes at once. R78: a BIND_LINK's commit hands the new ACTIVE entry to its binding (BindingsCommitThenTune). R97, R98: a move's commit writes a RESERVED entry, its context enters HELD with the hold timer running, link and context name the target, and the move leaves HELD at once if it may. The write and the test are one step; the closing refresh begins on the plan with the entry, clearing refresh-pending. The model's choices: the entry of a SET_CARRIER that committed nothing reported absent and a BIND_LINK's failure cause 0 there (log entry 11), a SET_CARRIER that changes nothing completing in its test step, without a closing refresh (log entry 13). That the entry's edition counts the commit at this step, the closing refresh leaving it alone, is the model's reading (log entry 13, DEDUCED). That the closing refresh takes its plan, and clears refresh-pending, in the commit step itself is the model's choice (log entry 28). -/
def Obligations.CandidateTestsSettleSearchesAndChecks : Prop :=
  ∀ (s : State) (r : Running), s.board.ready = true → s.plan.work = .job r → r.stage = .testing →
    let reason := Candidate.reason { code := r.cursor, width := r.width, kind := r.job.kind, leftOut := r.leftOut } s.plan s.probe
    let count := r.examined + 1
    let w (v : Nat) : Word := BitVec.ofNat 16 v
    let tests (g : Grid) : Nat := min ((g.hi - g.lo) / g.step + 1) g.limit
    let passes : Bool := match r.job.work with
      | .check _ force => decide (reason = .none) || (force && decide (reason ≠ .band))
      | .search _ => decide (reason = .none)
      | .audit => false
    let last : Bool := passes || match r.job.work with
      | .check _ _ => true
      | .search g => decide (tests g ≤ count)
      | .audit => false
    let commits := passes = true ∧ r.aborted = false
    let fails := last = true ∧ (passes = false ∨ r.aborted = true)
    let failure : Result := if r.aborted then .aborted else match r.job.work with
      | .check _ _ => .conflict
      | .search _ => .noChannel
      | .audit => .noChannel
    let given : Option Reason := match r.job.work with
      | .check _ _ => some reason
      | .search _ => none
      | .audit => none
    let givenWord : Word := match given with
      | none => 0xFFFF#16
      | some x => w x.ctorIdx
    let done : State := { s with plan := { s.plan with work := .idle } }
    let answers (u : State) : Prop := exec .candidateTest s = .next u.settle
    let written (e : Nat) (new : PlanEntry) : Plan :=
      let entries := put s.plan.entries e new
      { s.plan with
        entries := entries, refreshPending := false
        work := .job { r with examined := count, stage := .closing { entry := e, code := r.cursor, reason := given }
                                { entries := entries, exclusions := s.plan.exclusions, rules := s.plan.rules } } }
    let fresh (e : Nat) (status : PlanStatus) (kind : CarrierKind) (owner : Option Nat) : PlanEntry :=
      { status := status, kind := kind, owner := owner, code := r.cursor, width := r.width, lock := false, mark := false, count := 0,
        worst := .none, edition := (s.entry e).edition + 1 }
    let lowest (e : Nat) : Prop := e < 48 ∧ (s.entry e).status = .free ∧ ∀ m < e, (s.entry m).status ≠ .free
    (∀ g, r.job.work = .search g → last = false →
      answers { s with plan := { s.plan with work := .job { r with cursor := g.next r.cursor, examined := count } } }) ∧
    (∀ n g, r.job.source = .place n → r.job.work = .search g →
      (commits → answers (done.complete n (if r.job.clamped then .clamped else .ok) [(12, w r.cursor), (13, w count)])) ∧
      (fails → answers (done.complete n failure [(12, 0xFFFF#16), (13, w count)]))) ∧
    (∀ n named e, r.job.source = .setCarrier n named →
      (fails → answers (done.complete n failure [(8, 0xFFFF#16), (9, givenWord)])) ∧
      (commits → named = none → lowest e → answers { s with plan := written e (fresh e .active .foreign none) }) ∧
      (commits → named = some e → e < 48 →
        let old := s.entry e
        answers (if old.code = r.cursor ∧ old.width = r.width
          then done.complete n (if r.job.clamped then .clamped else .ok) [(8, w e), (9, givenWord)]
          else { s with plan := written e { old with code := r.cursor, width := r.width, edition := old.edition + 1 } }))) ∧
    (∀ n l e, r.job.source = .bind n l →
      (fails → answers (State.complete
        { done with links := { s.links with bindings := s.links.bindings.filter fun b => decide (b.link ≠ l) } } n failure
        [(8, 0xFFFF#16), (9, 0xFFFF#16), (10, w count), (11, givenWord), (12, 0#16)])) ∧
      (commits → lowest e → answers
        (State.bindingCommit { s with plan := written e (fresh e .active .link (some l)) } l e r.cursor count given))) ∧
    (∀ c e, r.job.source = .move c → c < 4 → (s.ctx c).link < 32 →
      let x := s.ctx c
      let k := s.link x.link
      let held : State := { s with
        board := s.board.note [.link]
        plan := written e (fresh e .reserved .link r.job.link)
        links := { s.links with recs := put s.links.recs x.link { k with targetEntry := some e, edition := k.edition + 1 }
                                edition := s.links.edition + 1 }
        moves := { s.moves with
          ctxs := put s.moves.ctxs c { x with
            phase := .held, targetEntry := some e, targetCode := some r.cursor, examined := count, reason := given.getD .none
            holdTimer := some { start := s.board.time, len := k.options.hold }, edition := x.edition + 1 }
          edition := s.moves.edition + 1 } }
      let may := (k.applied ≠ .program ∨ x.urgent = true) ∧ (k.state = .live ∨ k.state = .weak ∨ k.state = .mistuned) ∧
        (x.manualGo = true → x.go = true)
      (fails → answers (State.endMove
        { done with moves := { s.moves with ctxs := put s.moves.ctxs c { x with examined := count, reason := given.getD .none } } } c
        (if r.aborted then .aborted else match r.job.work with
          | .check _ _ => .conflict
          | .search _ => .noChannel
          | .audit => .noChannel) .none)) ∧
      (commits → lowest e → ¬may → answers held) ∧
      (commits → lowest e → may → ∃ u : State, answers u ∧ u.plan = held.plan ∧ (u.link x.link).state = .moving ∧
        (u.link x.link).targetEntry = some e ∧ (u.ctx c).targetEntry = some e ∧ (u.ctx c).targetCode = some r.cursor ∧
        (u.ctx c).examined = count ∧ (u.ctx c).holdTimer = none ∧ u.probe.autoHold = true ∧
        (k.kind ≠ .camera → (u.ctx c).phase = .muting ∧ (u.ctx c).offer = some (.muteLocal k.channel true)) ∧
        (k.kind = .camera → (u.ctx c).phase = .tuneFar ∧ (u.ctx c).offer = some (.tuneFar k.channel r.cursor)) ∧
        (∀ m < 32, m ≠ x.link → u.link m = s.link m) ∧ (∀ d < 4, d ≠ c → u.ctx d = s.ctx d)))

/-- R11, R25, R26, R5: REFRESH_END for a refresh run on its own, a closing refresh and an AUDIT's recompute: every in-use entry takes its count (stopped at 65,535), its mark and its worst type from the instances among the entries the refresh began on, its edition counting a change; other entries and all other fields stay. Run on its own or by an AUDIT, the plan edition and EVENTS.PLAN count a change of any entry. R29: the end of a closing refresh is the committed job's one rewrite of the plan, and a SET_CARRIER completes then with the entry and the reason of its CHECK; that the entry it wrote counts no second edition is the model's reading (log entry 13, DEDUCED). R40: an AUDIT completes OK with the entries in use, those marked, and the instances in all and by type. Then the engine chooses its next work (R27). -/
def Obligations.RefreshWritesCountMarkAndWorstType : Prop :=
  ∀ (s : State) (x : PlanSnapshot), s.board.ready = true →
    let all := instances x.rules x.exclusions.toList (signalsOf x.entries)
    let refreshed (fresh : Option Nat) (entries : Vector PlanEntry 48) : Prop :=
      (∀ n < 48, (s.entry n).status = .free → look entries n = s.entry n) ∧
      (∀ n < 48, (s.entry n).status ≠ .free →
        let is := all.filter fun i => i.members.contains n
        let old := s.entry n
        let new := look entries n
        new.count = min 65535 is.length ∧ (new.mark = true ↔ is ≠ []) ∧
        new.worst = (if is.any (fun i => decide (i.type = .excl)) then .excl else if is.any (fun i => decide (i.type = .adj)) then .adj
          else if is.any (fun i => decide (i.type = .im32)) then .im32 else if is.any (fun i => decide (i.type = .im33)) then .im33
          else if is.any (fun i => decide (i.type = .im5)) then .im5 else .none) ∧
        new.edition = (if (new.count = old.count ∧ new.mark = old.mark ∧ new.worst = old.worst) ∨ fresh = some n then old.edition
          else old.edition + 1) ∧
        new = { old with count := new.count, mark := new.mark, worst := new.worst, edition := new.edition })
    let rewritten (entries : Vector PlanEntry 48) : State :=
      { s with plan := { s.plan with entries := entries, edition := s.plan.edition + 1, work := .idle }, board := s.board.note [.plan] }
    let left (entries : Vector PlanEntry 48) : State :=
      if entries = s.plan.entries then { s with plan := { s.plan with work := .idle } } else rewritten entries
    (s.plan.work = .refresh x → ∃ entries : Vector PlanEntry 48, refreshed none entries ∧
      exec .refreshEnd s = .next (left entries).settle) ∧
    (∀ r cm, s.plan.work = .job r → r.stage = .closing cm x → ∃ entries : Vector PlanEntry 48, refreshed (some cm.entry) entries ∧
      exec .refreshEnd s = .next (State.settle (match r.job.source with
        | .setCarrier n _ => (rewritten entries).complete n (if r.job.clamped then .clamped else .ok)
            [(8, BitVec.ofNat 16 cm.entry), (9, match cm.reason with | none => 0xFFFF#16 | some y => BitVec.ofNat 16 y.ctorIdx)]
        | _ => rewritten entries))) ∧
    (∀ r n, s.plan.work = .job r → r.stage = .auditing x → r.job.source = .audit n →
      let used := (List.range 48).filter fun e => decide ((look x.entries e).status ≠ .free)
      let marked := used.filter fun e => all.any fun i => i.members.contains e
      let double (k v : Nat) : List (Nat × Word) := [(k, BitVec.ofNat 16 v), (k + 1, BitVec.ofNat 16 (v / 65536))]
      let total (y : Violation) : Nat := (all.filter fun i => decide (i.type = y)).length
      ∃ entries : Vector PlanEntry 48, refreshed none entries ∧
        exec .refreshEnd s = .next (State.settle ((left entries).complete n .ok
          ([(4, BitVec.ofNat 16 used.length), (5, BitVec.ofNat 16 marked.length)] ++ double 6 all.length ++ double 8 (total .excl) ++
            double 10 (total .adj) ++ double 12 (total .im32) ++ double 14 (total .im33) ++ double 16 (total .im5)))))

/-- R26, R27, R12: the plan as the engine keeps it. While refresh-pending is clear, a work that recomputes (a refresh, a closing refresh, an AUDIT) runs on the present carriers, exclusions and rules, and with no such work running each in-use entry's conflict mark is set exactly when it takes part in an instance. That a closing refresh takes its plan in the commit step is the model's choice (log entry 28). -/
def Obligations.EveryStepKeepsTheMarksRight : Prop :=
  ∀ s t : State, s.plan.marksOk → step s = .next t → t.plan.marksOk

/-- R4, R12, R27, R29, R37, R38, R40: how the plan engine chooses at the end of a step. With work running, or IDLE with refresh-pending clear and nothing waiting, it stays; IDLE with the flag set it begins a refresh on the plan as it stands, clearing the flag; otherwise it takes the head job. A CHECK stands at its code and a SEARCH at its first candidate, with the job's half-width, or that of the link's origin entry, or the default for the kind, and leaving out the entry SET_CARRIER names or the origin of the link a PLACE or a move is for. An AUDIT begins its recompute on the plan as it stands, clearing refresh-pending. A job that would add an entry to a full table ends FULL with no candidate examined, and a PLACE for a link that is VACANT then ends NOT_BOUND; the engine chooses again. The result words of a job that ends FULL (entry, code and reason absent, a BIND_LINK's failure cause 0) are the model's choice (log entry 11). (The bus is held busy so that the engine's choice stands alone; `chooseWork (k + 1)` takes one job before `chooseWork k`.) -/
def Obligations.EngineChoosesRefreshThenHeadJob : Prop :=
   (∀ s : State, s.bus.state ≠ .idle →
      (s.plan.work ≠ .idle ∨ (s.plan.refreshPending = false ∧ s.plan.waiting = []) → s.settle = s) ∧
      (s.plan.work = .idle → s.plan.refreshPending = true → s.settle =
        { s with plan := { s.plan with refreshPending := false
                                       work := .refresh { entries := s.plan.entries, exclusions := s.plan.exclusions, rules := s.plan.rules } } }) ∧
      (∀ j n, s.plan.work = .idle → s.plan.refreshPending = false → s.plan.waiting = [j] → j.source = .setCarrier n none →
        (∀ m < 48, (s.entry m).status ≠ .free) →
        s.settle = State.complete { s with plan := { s.plan with waiting := [] } } n .full [(8, 0xFFFF#16), (9, 0xFFFF#16)])) ∧
   (∀ (s : State) (j : Job) (js : List Job), s.plan.work = .idle → s.plan.refreshPending = false → s.plan.waiting = j :: js →
      let rest : State := { s with plan := { s.plan with waiting := js } }
      let full := ∀ m < 48, (s.entry m).status ≠ .free
      let adds : Bool := match j.source with
        | .place _ => false
        | .setCarrier _ e => e.isNone
        | .audit _ => false
        | .bind _ _ => true
        | .move _ => true
      let unbound : Bool := match j.source, j.link with
        | .place _, some l => decide ((s.link l).state = .vacant)
        | _, _ => false
      let width : Nat := if j.width ≠ 0 then j.width else match j.link with
        | some l => (s.entry (s.link l).originEntry).width
        | none => match j.linkKind with
          | .mic => s.plan.rules.widthMic
          | .iem => s.plan.rules.widthIem
          | .camera => s.plan.rules.widthCamera
      let leftOut : Option Nat := match j.source with
        | .setCarrier _ e => e
        | .place _ => j.link.map fun l => (s.link l).originEntry
        | .move _ => j.link.map fun l => (s.link l).originEntry
        | .audit _ => none
        | .bind _ _ => none
      let begins (cursor : Nat) : Prop := s.bus.state ≠ .idle → s.settle = { s with plan := { s.plan with
        waiting := js
        work := .job { job := j, width := width, leftOut := leftOut, cursor := cursor, examined := 0, aborted := false, stage := .testing } } }
      let ends (u : State) : Prop := ∀ k, State.chooseWork (k + 1) s = State.chooseWork k u
      ((adds = true → ¬full) → unbound = false →
        (∀ code force, j.work = .check code force → begins code) ∧
        (∀ g, j.work = .search g → begins g.first) ∧
        (j.work = .audit → s.bus.state ≠ .idle → s.settle = { s with plan := { s.plan with
          waiting := js, refreshPending := false
          work := .job { job := j, width := 0, leftOut := none, cursor := 0, examined := 0, aborted := false
                         stage := .auditing { entries := s.plan.entries, exclusions := s.plan.exclusions, rules := s.plan.rules } } } })) ∧
      (∀ n, full → j.source = .setCarrier n none → ends (rest.complete n .full [(8, 0xFFFF#16), (9, 0xFFFF#16)])) ∧
      (∀ n l, full → j.source = .bind n l → ends (State.complete
        { rest with links := { s.links with bindings := s.links.bindings.filter fun b => decide (b.link ≠ l) } } n .full
        [(8, 0xFFFF#16), (9, 0xFFFF#16), (10, 0#16), (11, 0xFFFF#16), (12, 0#16)])) ∧
      (∀ c, full → j.source = .move c → ends (State.endMove
        { rest with moves := { s.moves with ctxs := put s.moves.ctxs c { s.ctx c with examined := 0, reason := .none } } } c .full .none)) ∧
      (∀ n, unbound = true → j.source = .place n → ends (rest.complete n .notBound [(12, 0xFFFF#16), (13, 0#16)])))

/-! ## The occupancy probe (chapter 3) -/

/-- R42, R67, R69: SET_PROBE's checks in their order; a written request clamps and writes the settings, releases the old unit and refers to the new one in the unit table when the address changes, and sets EVENTS.PROBE when a setting changed. A unit is claimed when a bound link uses it or a binding in progress claims it. EVENTS.LINK set when the request names a unit that was UNUSED is the model's reading of R67 (log entry 19, DEDUCED). -/
def Obligations.SetProbeNamesTheUnitAndItsSettings : Prop :=
  ∀ (n : Nat) (s : State), n < 32 → s.takesNext n 8 = true →
    let a := s.param n 4
    let old := s.probe.unit
    let settings : Probe := { s.probe with
      unit := a, settle := min 50 (s.param n 5), nref := max 256 (min 65535 (s.param n 6)), recal := max 1 (min 1600 (s.param n 7)) }
    let eventOf (u : UnitRec) : Event := match u.role with
      | .link => .link
      | .probe => .probe
    let oldUnit := look s.bus.units (old - 1)
    let leaves := decide (a ≠ old ∧ old ≠ 0)
    let units1 := if leaves then put s.bus.units (old - 1) { state := .unused, role := .link, misses := 0, good := 0, failed := 0 } else s.bus.units
    let newUnit := look units1 (a - 1)
    let enters := decide (a ≠ old ∧ a ≠ 0 ∧ newUnit.state = .unused)
    let units2 := if enters then put units1 (a - 1) { state := .unknown, role := .probe, misses := 0, good := 0, failed := 0 } else units1
    let events : List Event := (if leaves ∧ oldUnit.state ≠ .unused then [eventOf oldUnit] else []) ++ (if enters then [eventOf newUnit] else []) ++
      (if settings = s.probe then [] else [.probe])
    (s.unitClaimed a = true ↔ (∃ l < 32, (s.link l).state ≠ .vacant ∧ (s.link l).unit = a) ∨ ∃ b ∈ s.links.bindings, b.unit = a) ∧
    exec (.setProbe n) s = .next (State.settle (
      if s.probe.state ≠ .idle then s.answered n .busy []
      else if 16 < a then s.answered n .badField []
      else if s.unitClaimed a then s.answered n .inUse []
      else { s with probe := settings, bus := { s.bus with units := units2 }, board := s.board.note events }.answered n
        (if 50 < s.param n 5 ∨ s.param n 6 < 256 ∨ s.param n 7 = 0 ∨ 1600 < s.param n 7 then .clamped else .ok) []))

/-- R50, R54: SCAN's checks in their order; a refusal reports 0 bins measured and nothing else (its last bin and T_ref written absent is the model's choice, log entry 11); an accepted one creates the sweep, HELD under the automatic hold and otherwise CALIBRATING with its first reference PROBE_TUNE waiting for the bus, keeps the slot TAKEN and sets EVENTS.PROBE. R53, R54: HOLD_SCAN and RESUME_SCAN. With no sweep both complete NOT_FOUND; a hold that takes effect discards the phase in progress (window, settle timer and waiting PROBE_TUNE dropped, one in flight marked discarded) and enters HELD; the release of the last hold begins the discarded phase again, in CALIBRATING or in TUNING for the same bin; an unchanged host hold changes nothing; a changed one sets EVENTS.PROBE. That the dropped counts of a discarded phase read 0 is the model's choice (log entry 7). -/
def Obligations.ScansAreCreatedHeldAndResumed : Prop :=
   (∀ (n : Nat) (s : State), n < 32 → s.takesNext n 9 = true →
      let lo := min 1599 (s.param n 4)
      let hi := min 1599 (s.param n 5)
      let refuse (r : Result) : State := s.answered n r [(6, 0#16), (7, 0xFFFF#16), (8, 0xFFFF#16), (9, 0xFFFF#16)]
      exec (.scan n) s = .next (State.settle (
        if s.probe.fault then refuse .faulted
        else if s.probe.state ≠ .idle then refuse .busy
        else if s.probe.unit = 0 then refuse .notFound
        else if hi < lo then refuse .badField
        else { s with
          board := (s.board.holding n).note [.probe]
          probe := { s.probe with
            lo := lo, hi := hi, cur := lo, measured := 0, sinceRef := 0, hostHold := false, slot := some n, lastBin := none
            clamped := decide (1599 < s.param n 4 ∨ 1599 < s.param n 5), phase := .reference, settleTimer := none, window := none
            state := if s.probe.autoHold then .held else .calibrating
            offer := if s.probe.autoHold then none else some (.reference, 0) } }))) ∧
   (∀ (n : Nat) (s : State), n < 32 →
      (s.takesNext n 10 = true → exec (.holdScan n) s = .next (State.settle (
        if s.probe.state = .idle then s.answered n .notFound []
        else if s.probe.hostHold then s.answered n .ok []
        else if s.probe.state = .held then
          { s with probe := { s.probe with hostHold := true }, board := s.board.note [.probe] }.answered n .ok []
        else
          { s with probe := { s.probe with hostHold := true, state := .held, settleTimer := none, window := none, pulses := 0, ticks := 0, offer := none }
                   bus := { s.bus with inFlight := s.bus.inFlight.map fun (t : Tx) => if t.orig = Originator.probe then { t with discarded := true } else t }
                   board := s.board.note [.probe] }.answered n .ok []))) ∧
      (s.takesNext n 11 = true → exec (.resumeScan n) s = .next (State.settle (
        if s.probe.state = .idle then s.answered n .notFound []
        else if s.probe.hostHold = false then s.answered n .ok []
        else if s.probe.state ≠ .held ∨ s.probe.autoHold then
          { s with probe := { s.probe with hostHold := false }, board := s.board.note [.probe] }.answered n .ok []
        else
          { s with probe := { s.probe with
                     hostHold := false, settleTimer := none, window := none
                     state := if s.probe.phase = PhaseKind.reference then .calibrating else .tuning
                     offer := if s.probe.phase = PhaseKind.reference then some (.reference, 0) else some (.antenna, 8 * s.probe.cur + 4) }
                   board := s.board.note [.probe] }.answered n .ok []))))

/-- R56: CLEAR_PROBE_FAULT clears the sticky fault and completes OK; EVENTS.PROBE is set if the fault was set. R57: CLEAR_MAP completes BUSY while a sweep exists; otherwise every bin's level becomes 0 and every own-mark clear, and if one was not zero the occupancy edition increments and EVENTS.PROBE is set; the calibration record and everything else stay. -/
def Obligations.ClearProbeFaultAndClearMap : Prop :=
   (∀ (n : Nat) (s : State), n < 32 → s.takesNext n 12 = true →
      exec (.clearProbeFault n) s = .next (State.settle (
        if s.probe.fault then { s with probe := { s.probe with fault := false }, board := s.board.note [.probe] }.answered n .ok []
        else s.answered n .ok []))) ∧
   (∀ (n : Nat) (s : State), n < 32 → s.takesNext n 13 = true → s.tablesOk →
      (s.probe.state ≠ .idle → exec (.clearMap n) s = .next (s.answered n .busy []).settle) ∧
      (s.probe.state = .idle → ∃ p : Probe, exec (.clearMap n) s = .next (State.settle
          ({ s with probe := p, board := s.board.note (if p.edition = s.probe.edition then [] else [.probe]) }.answered n .ok [])) ∧
        (∀ b, p.levels.get 0 b = 0 ∧ p.ownMarks.get false b = false) ∧
        p = { s.probe with levels := p.levels, ownMarks := p.ownMarks, edition := p.edition } ∧
        ((∃ b, s.probe.levels.get 0 b ≠ 0 ∨ s.probe.ownMarks.get false b = true) → p.edition = s.probe.edition + 1) ∧
        ((∀ b, s.probe.levels.get 0 b = 0 ∧ s.probe.ownMarks.get false b = false) → p.edition = s.probe.edition)))

/-- R43, R45, R46: the settle timer's expiry opens a counting window with both counters 0; a reference window carries the N_ref in force and a sample window the T_ref and N_ref of the calibration record, the probe being SAMPLING from then. R43 to R45, R51: a pulse in an open reference window before the tick counter's end is counted; the N_ref-th writes the calibration record (T_ref at least 1, the N_ref in force, the present device time), increments the occupancy edition, sets EVENTS.PROBE and begins the sample of the current bin. A pulse with no window open counts nothing. R45, R55, R56, R66: the tick counter's end in an open reference window ends the sweep with PROBE_FAULT: the fault is set, the host hold cleared, the probe IDLE, its transaction in flight reported to no sweep, EVENTS.PROBE set, and the slot completed with the bins measured, the last bin written and T_ref; the maps and the calibration record stay. R46 to R48: a pulse in an open sample window is counted while T_ref ticks have not passed; the end of the window completes the sample with the level of the count, the 1,048,575th pulse closes it at once with level 255, and a pulse that comes with T_ref ticks passed finds it closed (its tick reading is the model's, log entry 18). A sample's completion writes the bin's level and own-mark, no other bin's; before the last bin the sweep goes on (R51), after it the sweep ends OK, or CLAMPED, the fault as it was (R55). That the counters keep what they show as a window completes, and read 0 where a sweep ends and its counts are dropped, is the model's choice (log entry 7). -/
def Obligations.CountingWindowsAndCalibration : Prop :=
   (∀ (s : State) (tm : Timer), s.board.ready = true → s.probe.settleTimer = some tm → tm.len ≤ (s.board.time - tm.start).toNat →
      (s.probe.phase = .reference → exec .settleExpiry s = .next { s with probe := { s.probe with
        settleTimer := none, pulses := 0, ticks := 0, window := some { phase := .reference, tref := s.probe.cal.tref, nref := s.probe.nref } } }) ∧
      (s.probe.phase = .sample → exec .settleExpiry s = .next { s with probe := { s.probe with
        settleTimer := none, state := .sampling, pulses := 0, ticks := 0
        window := some { phase := .sample, tref := s.probe.cal.tref, nref := s.probe.cal.nrefUsed } } })) ∧
   (∀ (s : State) (tick : Nat), s.board.ready = true →
      (s.probe.window = none → exec (.probePulse tick) s = .next s.settle) ∧
      (∀ w, s.probe.window = some w → w.phase = .reference → s.probe.ticks ≤ tick → tick < 1048575 →
        (s.probe.pulses + 1 < w.nref → exec (.probePulse tick) s = .next (State.settle
          { s with probe := { s.probe with pulses := s.probe.pulses + 1, ticks := tick } })) ∧
        (w.nref ≤ s.probe.pulses + 1 → exec (.probePulse tick) s = .next (State.settle
          { s with
            probe := { s.probe with
              cal := { tref := if tick = 0 then 1 else tick, nrefUsed := s.probe.nref, time := s.board.time }, sinceRef := 0
              edition := s.probe.edition + 1, state := .tuning, phase := .sample, settleTimer := none, window := none
              pulses := s.probe.pulses + 1, ticks := tick
              offer := some (.antenna, 8 * s.probe.cur + 4) }
            board := s.board.note [.probe] })))) ∧
   (∀ (s : State) (w : Window) (m : Nat), s.board.ready = true → s.probe.window = some w → w.phase = .reference → s.probe.slot = some m →
      exec .referenceTimeout s = .next (State.settle (State.complete
        { s with
          probe := { s.probe with
            state := .idle, hostHold := false, slot := none, fault := true, settleTimer := none, window := none
            pulses := 0, ticks := 0, offer := none }
          bus := { s.bus with inFlight := s.bus.inFlight.map fun (t : Tx) => if t.orig = Originator.probe then { t with live := false } else t }
          board := s.board.note [.probe] }
        m .probeFault
        [(6, BitVec.ofNat 16 s.probe.measured), (7, match s.probe.lastBin with | none => 0xFFFF#16 | some b => BitVec.ofNat 16 b),
         (8, BitVec.ofNat 16 s.probe.cal.tref), (9, BitVec.ofNat 16 (s.probe.cal.tref / 65536))])) ∧
      (∀ tick, 1048575 ≤ max s.probe.ticks tick → exec (.probePulse tick) s = exec .referenceTimeout s)) ∧
   (∀ (s : State) (w : Window), s.board.ready = true → s.probe.window = some w → w.phase = .sample → s.tablesOk →
      let bin := s.probe.cur
      let counted := max 1 (min 255 ((64 * s.probe.pulses + w.nref / 2) / w.nref))
      let again : Bool := decide (s.probe.recal ≤ s.probe.sinceRef + 1)
      let completes (i : Instr) (level pulses ticks : Nat) : Prop := ∃ (levels : Cells Nat) (marks : Cells Bool),
        (levels.get 0 bin = level ∧ ∀ b, b ≠ bin → levels.get 0 b = s.probe.levels.get 0 b) ∧
        (marks.get false bin = true ↔ ∃ n < 48, (s.entry n).status ≠ .free ∧ (s.entry n).kind = .link ∧
          (s.entry n).code ≤ 8 * bin + 7 + (s.entry n).width ∧ 8 * bin ≤ (s.entry n).code + (s.entry n).width) ∧
        (∀ b, b ≠ bin → marks.get false b = s.probe.ownMarks.get false b) ∧
        let p : Probe := { s.probe with
          levels := levels, ownMarks := marks, edition := s.probe.edition + 1, lastBin := some bin, measured := s.probe.measured + 1
          sinceRef := s.probe.sinceRef + 1, settleTimer := none, window := none }
        (bin ≠ s.probe.hi → exec i s = .next (State.settle { s with
          board := s.board.note [.probe]
          probe := { p with
            pulses := pulses, ticks := ticks, cur := bin + 1, state := if again then .calibrating else .tuning, phase := if again then .reference else .sample
            offer := if again then some (.reference, 0) else some (.antenna, 8 * (bin + 1) + 4) } })) ∧
        (∀ m, bin = s.probe.hi → s.probe.slot = some m → exec i s = .next (State.settle (State.complete { s with
            board := s.board.note [.probe]
            probe := { p with state := .idle, hostHold := false, slot := none, pulses := 0, ticks := 0, offer := none }
            bus := { s.bus with inFlight := s.bus.inFlight.map fun (t : Tx) => if t.orig = Originator.probe then { t with live := false } else t } }
          m (if s.probe.clamped then .clamped else .ok)
          [(6, BitVec.ofNat 16 (s.probe.measured + 1)), (7, BitVec.ofNat 16 bin), (8, BitVec.ofNat 16 s.probe.cal.tref),
           (9, BitVec.ofNat 16 (s.probe.cal.tref / 65536))])))
      completes .sampleWindowEnd counted s.probe.pulses w.tref ∧
      (∀ tick, w.tref ≤ max s.probe.ticks tick → completes (.probePulse tick) counted s.probe.pulses w.tref) ∧
      (∀ tick, max s.probe.ticks tick < w.tref → 1048575 ≤ s.probe.pulses + 1 →
        completes (.probePulse tick) 255 (s.probe.pulses + 1) (max s.probe.ticks tick)) ∧
      (∀ tick, max s.probe.ticks tick < w.tref → s.probe.pulses + 1 < 1048575 → exec (.probePulse tick) s = .next (State.settle
        { s with probe := { s.probe with pulses := s.probe.pulses + 1, ticks := max s.probe.ticks tick } })))

/-- R46 to R48, R51: the end of a sample window writes the bin's level from the count (64 times the count over N_ref, rounded, clamped to 1..255) and its own-mark (set exactly when an in-use LINK entry overlaps the bin), increments the occupancy edition and sets EVENTS.PROBE; before the last bin the sweep goes on to the next bin, through a reference phase when the recal interval is reached. (The last bin, and the other ways a window closes, are in CountingWindowsAndCalibration.) (That the tick counter keeps T_ref after the window is the model's choice, log entry 7.) -/
def Obligations.SampleWindowEndWritesLevelAndOwnMark : Prop :=
  ∀ (s : State) (w : Window), s.board.ready = true → s.probe.window = some w → w.phase = .sample → s.probe.cur ≠ s.probe.hi → s.tablesOk →
    ∃ p : Probe, exec .sampleWindowEnd s = .next (State.settle { s with probe := p, board := s.board.note [.probe] }) ∧
      p.levels.get 0 s.probe.cur = max 1 (min 255 ((64 * s.probe.pulses + w.nref / 2) / w.nref)) ∧
      (p.ownMarks.get false s.probe.cur = true ↔ ∃ n < 48, (s.entry n).status ≠ .free ∧ (s.entry n).kind = .link ∧
        (s.entry n).code ≤ 8 * s.probe.cur + 7 + (s.entry n).width ∧ 8 * s.probe.cur ≤ (s.entry n).code + (s.entry n).width) ∧
      (∀ b, b ≠ s.probe.cur → p.levels.get 0 b = s.probe.levels.get 0 b ∧ p.ownMarks.get false b = s.probe.ownMarks.get false b) ∧
      p = { s.probe with
        levels := p.levels, ownMarks := p.ownMarks, edition := s.probe.edition + 1, lastBin := some s.probe.cur
        measured := s.probe.measured + 1, sinceRef := s.probe.sinceRef + 1, cur := s.probe.cur + 1, settleTimer := none, window := none, ticks := w.tref
        state := if s.probe.recal ≤ s.probe.sinceRef + 1 then .calibrating else .tuning
        phase := if s.probe.recal ≤ s.probe.sinceRef + 1 then .reference else .sample
        offer := if s.probe.recal ≤ s.probe.sinceRef + 1 then some (.reference, 0) else some (.antenna, 8 * (s.probe.cur + 1) + 4) }

/-! ## The unit bus (chapter 4) -/

/-- R59, R60, R198: the request frames, byte by byte, each ending in the exclusive OR of the bytes before it. R58: while SENDING the part drives the frame bit by bit, each byte as one start bit at space, 8 data bits with the least significant first, and one stop bit at mark; it has released the line from the end of the frame's last stop bit, and in every other state. -/
def Obligations.RequestFramesAsTheManualGivesThem : Prop :=
  (∀ (cmd : BusCmd) (unit : Nat), (cmd.frame unit).foldl (· ^^^ ·) 0 = 0#8) ∧
  (∀ u ch x : Nat, 1 ≤ u → u ≤ 16 → ch ≤ 3 → x ≤ 12799 →
    let b (v : Nat) : Byte := BitVec.ofNat 8 v
    (BusCmd.query.frame u).dropLast = [b u, 0x01, 0] ∧
    ((BusCmd.tuneLocal ch x).frame u).dropLast = [b u, 0x02, 3, b ch, b (x / 256), b (x % 256)] ∧
    ((BusCmd.tuneFar ch x).frame u).dropLast = [b u, 0x03, 3, b ch, b (x / 256), b (x % 256)] ∧
    (∀ on, ((BusCmd.muteLocal ch on).frame u).dropLast = [b u, 0x04, 2, b ch, if on then 1 else 0]) ∧
    ((BusCmd.tally ch .program).frame u).dropLast = [b u, 0x05, 2, b ch, 3] ∧
    ((BusCmd.probeTune .reference 0).frame u).dropLast = [b u, 0x06, 3, 0, 0, 0] ∧
    ((BusCmd.probeTune .antenna x).frame u).dropLast = [b u, 0x06, 3, 1, b (x / 256), b (x % 256)]) ∧
  (∀ (m : Bus) (k : Nat),
    (∀ tx, m.state = .sending → m.inFlight = some tx →
      m.drives k = (tx.frame[k / 10]?).map fun x => if k % 10 = 0 then false else if k % 10 = 9 then true else x.getLsbD (k % 10 - 1)) ∧
    (m.state ≠ .sending → m.drives k = none))

/-- R64, R65: whom a free line is granted to: a waiting head tally (lowest link first, carrying the applied tally of that moment), then the move contexts in ascending order, the link supervisor's transactions in ascending link index, the probe's, the poller's. That offers made in one step on an IDLE line are ranked together is the model's choice (log entry 29). -/
def Obligations.ArbiterServesByKindThenIndex : Prop :=
  ∀ s : State,
    let head (l : Nat) : Prop := (s.link l).state ≠ .vacant ∧ (s.link l).kind = .camera ∧ (s.linkTally l).head = .waiting
    let noHead : Prop := ∀ l < 32, ¬head l
    let noMove : Prop := ∀ c < 4, (s.ctx c).offer = none
    let noLink : Prop := ∀ l < 32, (s.link l).offer = none
    (∀ l < 32, head l → (∀ m < l, ¬head m) → s.firstWaiter = some (.head l, (s.link l).unit, .tally (s.link l).channel (s.link l).applied)) ∧
    (∀ c < 4, ∀ cmd, noHead → (s.ctx c).offer = some cmd → (∀ d < c, (s.ctx d).offer = none) →
      s.firstWaiter = some (.ctx c, (s.link (s.ctx c).link).unit, cmd)) ∧
    (∀ l < 32, ∀ cmd, noHead → noMove → (s.link l).offer = some cmd → (∀ m < l, (s.link m).offer = none) →
      s.firstWaiter = some (.link l, (s.link l).unit, cmd)) ∧
    (noHead → noMove → noLink → s.firstWaiter = match s.probe.offer, s.bus.pollOffer with
      | some (src, code), _ => some (.probe, s.probe.unit, .probeTune src code)
      | none, some a => some (.poller, a, .query)
      | none, none => none) ∧
    (∀ o unit cmd, s.bus.state = .idle → (s.plan.work ≠ .idle ∨ (s.plan.refreshPending = false ∧ s.plan.waiting = [])) →
      s.firstWaiter = some (o, unit, cmd) → s.settle.bus =
        { s.bus with state := .sending, reply := [], window := none, pollOffer := if o = .poller then none else s.bus.pollOffer
                     inFlight := some { orig := o, unit := unit, cmd := cmd, frame := cmd.frame unit, attempt := 1, live := true, discarded := false } } ∧
        s.settle.board = s.board ∧ s.settle.plan = s.plan ∧ s.settle.talk = s.talk ∧ s.settle.lamps = s.lamps ∧ s.settle.matrix = s.matrix ∧
        s.settle.lines = s.lines ∧ s.settle.ref = s.ref)

/-- R62: when the request frame's last stop bit has been sent the reply window of 20 ms opens; the controller is LISTENING with no reply byte collected. Nothing else changes. R58, R62: a byte received in LISTENING with a framing error, or a first byte that is not the addressed unit's address plus 0x80, makes the reply garbled and the controller DRAINING; in every other state of the controller a byte is discarded. R62, R63, R68, R72: the end of the reply window. A first attempt garbled or missing is sent again, the same frame byte for byte, at once; a second one fails the transaction: for the poller's QUERY to a PRESENT unit with no miss before, the line is free, the miss and the failure are counted, and the poll gap timer runs. R66, R71: another originator is handed the failure with cause NO_REPLY (no byte collected) or GARBLED: a move context as MovesFollowTheirTransactionsToTheirEnd says, a binding's tune as BindingsCommitThenTune says, a head tally becomes DEFERRED, a sweep ends UNIT_FAILED with the fault set; an instance that has ended, and a resent unmute, are handed nothing. R68, R85: a second failure with a miss counted before makes a LINK unit MISSING, and each bound link of it that is BOUND, LIVE, WEAK, LOST or MISTUNED becomes UNIT_MISSING with its timers stopped, a rewrite; the first reply from a MISSING unit, a NAK included, makes it PRESENT, and its UNIT_MISSING links BOUND; other links, units and blocks stay, EVENTS.LINK is set. That a state notice takes the unit's links in ascending index is log entry 12. -/
def Obligations.AttemptsOnTheUnitBus : Prop :=
   (∀ s : State, s.board.ready = true → s.bus.state = .sending →
      exec .requestFrameSent s = .next { s with bus := { s.bus with state := .listening, reply := [], window := some { start := s.board.time, len := 20 } } }) ∧
   (∀ (s : State) (b : Byte) (framing : Bool), s.board.ready = true →
      (∀ tx, s.bus.state = .listening → s.bus.inFlight = some tx → (framing = true ∨ (s.bus.reply = [] ∧ b ≠ BitVec.ofNat 8 tx.unit + 0x80)) →
        exec (.garbledReplyByte b framing) s = .next (State.settle { s with bus := { s.bus with state := .draining, reply := [] } })) ∧
      (s.bus.state ≠ .listening → exec (.garbledReplyByte b framing) s = .next s.settle)) ∧
   (∀ (s : State) (tx : Tx) (tm : Timer), s.board.ready = true → s.bus.window = some tm → tm.len ≤ (s.board.time - tm.start).toNat →
      (s.bus.state = .listening ∨ s.bus.state = .draining) → s.bus.inFlight = some tx →
      (tx.attempt = 1 → exec .replyWindowEnd s = .next (State.settle
        { s with bus := { s.bus with state := .sending, reply := [], window := none, inFlight := some { tx with attempt := 2 } } })) ∧
      (tx.attempt = 2 → tx.orig = .poller → tx.live = true → 1 ≤ tx.unit → tx.unit ≤ 16 → (s.unit tx.unit).state = .present →
        (s.unit tx.unit).misses = 0 → s.bus.pollGap ≠ 0 →
        let u := s.unit tx.unit
        exec .replyWindowEnd s = .next (State.settle
          { s with bus := { s.bus with
              state := .idle, inFlight := none, reply := [], window := none
              units := put s.bus.units (tx.unit - 1) { u with misses := 1, failed := satInc u.failed }
              poll := .gap, gapTimer := some { start := s.board.time, len := s.bus.pollGap } } }))) ∧
   (∀ (s : State) (tx : Tx) (tm : Timer), s.board.ready = true → s.bus.window = some tm → tm.len ≤ (s.board.time - tm.start).toNat →
      (s.bus.state = .listening ∨ s.bus.state = .draining) → s.bus.inFlight = some tx → tx.attempt = 2 →
      1 ≤ tx.unit → tx.unit ≤ 16 → (s.unit tx.unit).state = .present → (s.unit tx.unit).misses = 0 →
      let u := s.unit tx.unit
      let cause : Cause := if s.bus.state = .listening ∧ s.bus.reply = [] then .noReply else .garbled
      let failed : State := { s with bus := { s.bus with
        state := .idle, inFlight := none, reply := [], window := none
        units := put s.bus.units (tx.unit - 1) { u with misses := 1, failed := satInc u.failed } } }
      let ends (t : State) : Prop := exec .replyWindowEnd s = .next t.settle
      (tx.live = false → ends failed) ∧
      (∀ c, tx.live = true → tx.orig = .ctx c → ends (failed.ctxTxEnded c tx.cmd false cause)) ∧
      (∀ l b, tx.live = true → tx.orig = .link l → (s.links.bindings.find? fun x => decide (x.link = l ∧ x.stage ≠ .seeking)) = some b →
        ends (failed.bindingTuned b false cause)) ∧
      (∀ l, tx.live = true → tx.orig = .link l → (∀ b ∈ s.links.bindings, b.link = l → b.stage = .seeking) → ends failed) ∧
      (∀ l < 32, tx.live = true → tx.orig = .head l → (s.link l).headPending = true → ends { failed with
        tally := { s.tally with links := put s.tally.links l { s.linkTally l with head := .deferred } } }) ∧
      (tx.live = true → tx.orig = .probe → s.probe.state ≠ .idle → ends (failed.endSweep .unitFailed true)) ∧
      (tx.live = true → tx.orig = .probe → s.probe.state = .idle → ends failed)) ∧
   (∀ (s : State) (tx : Tx) (tm : Timer), s.board.ready = true → s.bus.window = some tm → tm.len ≤ (s.board.time - tm.start).toNat →
      (s.bus.state = .listening ∨ s.bus.state = .draining) → s.bus.inFlight = some tx → tx.attempt = 2 → tx.orig = .poller → tx.live = true →
      1 ≤ tx.unit → tx.unit ≤ 16 → (s.unit tx.unit).role = .link → ((s.unit tx.unit).state = .present ∨ (s.unit tx.unit).state = .unknown) →
      1 ≤ (s.unit tx.unit).misses.toNat →
      let x := s.unit tx.unit
      let lost (l : Nat) : Prop := (s.link l).state ∈ [LinkState.bound, .live, .weak, .lost, .mistuned] ∧ (s.link l).unit = tx.unit
      ∃ u : State, exec .replyWindowEnd s = .next u.settle ∧
        u.unit tx.unit = { x with state := .missing, misses := satInc x.misses, failed := satInc x.failed } ∧
        (∀ a, 1 ≤ a → a ≤ 16 → a ≠ tx.unit → u.unit a = s.unit a) ∧ u.bus.state = .idle ∧ u.bus.inFlight = none ∧
        u.board.events.getLsbD 1 = true ∧
        (∀ l < 32, (lost l → u.link l = { s.link l with
            state := .unitMissing, weakTimer := none, lossTimer := none, rescueTimer := .stopped, rescueBarred := false
            edition := (s.link l).edition + 1 }) ∧
          (¬lost l → u.link l = s.link l)) ∧
        u.plan = s.plan ∧ u.moves = s.moves ∧ u.tally = s.tally ∧ u.lines = s.lines ∧ u.ref = s.ref ∧ u.probe = s.probe) ∧
   (∀ (s : State) (tx : Tx) (a : Byte), s.board.ready = true → s.bus.state = .listening → s.bus.reply = [] → s.bus.inFlight = some tx →
      tx.live = true → 1 ≤ tx.unit → tx.unit ≤ 16 → a = BitVec.ofNat 8 (tx.unit + 0x80) → (s.unit tx.unit).role = .link →
      (s.unit tx.unit).state = .missing → tx.attempt = 1 →
      let x := s.unit tx.unit
      let back (l : Nat) : Prop := (s.link l).state = .unitMissing ∧ (s.link l).unit = tx.unit
      ∃ u : State, exec (.replyFrame [a, 0x43, 0, a ^^^ 0x43]) s = .next u.settle ∧
        u.unit tx.unit = { x with state := .present, misses := 0 } ∧ u.bus.state = .sending ∧ u.bus.inFlight = some { tx with attempt := 2 } ∧
        u.board.events.getLsbD 1 = true ∧
        (∀ l < 32, (back l → u.link l = { s.link l with
            state := .bound, rescueTimer := .stopped, rescueBarred := false, edition := (s.link l).edition + 1 }) ∧
          (¬back l → u.link l = s.link l)) ∧
        u.plan = s.plan ∧ u.moves = s.moves ∧ u.tally = s.tally ∧ u.lines = s.lines ∧ u.ref = s.ref ∧ u.probe = s.probe)

/-- R61 to R63, R68: a reply frame of the addressed unit, heard from its first byte while the window is open. An ACK ends the transaction: the line is free, the unit PRESENT with its miss count 0 and one more good reply, and the originator takes the result; a first NAK sends the same frame again; a second one fails the transaction, which is counted, with cause REFUSED. R45: the ACK of the probe's PROBE_TUNE starts the settle timer, EVENTS.PROBE being set when the unit's state changed; R55: its second NAK ends the sweep UNIT_FAILED with the fault set. R101 to R108: the ACK or second NAK of a move context's command is the end that MovesFollowTheirTransactionsToTheirEnd describes. R79: the ACK or second NAK of a binding's tune is the end that BindingsCommitThenTune describes. R86: the ACK of a resent unmute clears MUTE_PENDING, a rewrite. R139: the ACK of a head TALLY leaves the link IDLE with HEAD_TALLY_PENDING clear, a rewrite (log entry 10), when the level it carried is still the applied one, and WAITING otherwise; a second NAK leaves it DEFERRED. R70, R86, R140: after a good reply of a LINK unit each bound link of it that is DEFERRED is WAITING again, and each with MUTE_PENDING, nothing waiting and nothing in flight offers MUTE_LOCAL off; nothing else changes by the notice. -/
def Obligations.ReplyFramesEndTheirTransactions : Prop :=
   (∀ (s : State) (tx : Tx) (a : Byte), s.board.ready = true → s.bus.state = .listening → s.bus.reply = [] → s.bus.inFlight = some tx →
      tx.live = true → 1 ≤ tx.unit → tx.unit ≤ 16 → a = BitVec.ofNat 8 (tx.unit + 0x80) →
      let x := s.unit tx.unit
      let ack (t : State) : Prop := exec (.replyFrame [a, 0x42, 0, a ^^^ 0x42]) s = .next t.settle
      let nak (t : State) : Prop := exec (.replyFrame [a, 0x43, 0, a ^^^ 0x43]) s = .next t.settle
      let freed (y : UnitRec) : State := { s with bus := { s.bus with
        state := .idle, inFlight := none, reply := [], window := none, units := put s.bus.units (tx.unit - 1) y } }
      let heard := freed { x with state := .present, misses := 0, good := x.good + 1 }
      let refused := freed { x with state := .present, misses := 0, failed := satInc x.failed }
      let head (t : State) (l : Nat) (h : Head) : State :=
        { t with tally := { t.tally with links := put t.tally.links l { s.linkTally l with head := h } } }
      let rewritten (t : State) (l : Nat) (r : LinkRec) : State := { t with
        links := { t.links with recs := put t.links.recs l { r with edition := r.edition + 1 }, edition := t.links.edition + 1 }
        board := t.board.note [.link] }
      (∀ src code, tx.orig = .probe → tx.discarded = false → tx.cmd = .probeTune src code → s.probe.state ≠ .idle → s.probe.settle ≠ 0 →
        x.state ≠ .unused → x.role = .probe →
        ack { heard with
          probe := { s.probe with settleTimer := some { start := s.board.time, len := s.probe.settle } }
          board := s.board.note (if x.state = .present then [] else [.probe]) }) ∧
      (x.state = .present → tx.attempt = 1 → nak { s with bus := { s.bus with
        state := .sending, inFlight := some { tx with attempt := 2 }, reply := [], window := none
        units := put s.bus.units (tx.unit - 1) { x with misses := 0 } } }) ∧
      (x.state = .present → tx.attempt = 2 → tx.orig = .probe → s.probe.state ≠ .idle → nak (refused.endSweep .unitFailed true)) ∧
      (∀ c, x.state = .present → tx.orig = .ctx c → tx.cmd ≠ .query →
        ack ((heard.ctxTxEnded c tx.cmd true .none).goodNotice tx.unit) ∧
        (tx.attempt = 2 → nak (refused.ctxTxEnded c tx.cmd false .refused))) ∧
      (∀ l b, x.state = .present → tx.orig = .link l → tx.cmd ≠ .query →
        (s.links.bindings.find? fun y => decide (y.link = l ∧ y.stage ≠ .seeking)) = some b →
        ack ((heard.bindingTuned b true .none).goodNotice tx.unit) ∧ (tx.attempt = 2 → nak (refused.bindingTuned b false .refused))) ∧
      (∀ l < 32, x.state = .present → tx.orig = .link l → tx.cmd ≠ .query → (∀ b ∈ s.links.bindings, b.link = l → b.stage = .seeking) →
        (s.link l).mutePending = true →
        ack ((rewritten heard l { s.link l with mutePending := false }).goodNotice tx.unit) ∧ (tx.attempt = 2 → nak refused)) ∧
      (∀ l < 32, ∀ ch level, x.state = .present → tx.orig = .head l → tx.cmd = .tally ch level → (s.link l).headPending = true →
        ((s.link l).applied = level →
          ack ((rewritten (head heard l .idle) l { s.link l with headPending := false }).goodNotice tx.unit)) ∧
        ((s.link l).applied ≠ level → ack ((head heard l .waiting).goodNotice tx.unit)) ∧
        (tx.attempt = 2 → nak (head refused l .deferred)))) ∧
   (∀ (s : State) (a : Nat), (∀ l < 32, (s.linkTally l).head = .deferred → (s.link l).headPending = true) →
      ((s.unit a).role = .probe → s.goodNotice a = s) ∧
      ((s.unit a).role = .link → ∃ (recs : Vector LinkRec 32) (held : Vector LinkTally 32),
        s.goodNotice a = { s with links := { s.links with recs := recs }, tally := { s.tally with links := held } } ∧
        ∀ l < 32, let r := s.link l
          let ours := r.state ≠ .vacant ∧ r.unit = a
          look recs l = { r with offer := if ours ∧ r.mutePending = true ∧ r.offer = none ∧
              (∀ tx, s.bus.inFlight = some tx → ¬(tx.orig = .link l ∧ tx.live = true)) then some (.muteLocal r.channel false) else r.offer } ∧
          look held l = { s.linkTally l with head := if ours ∧ (s.linkTally l).head = .deferred then .waiting else (s.linkTally l).head }))

/-- R72: at gap expiry the poller chooses the eligible unit with the lowest address above its cursor, or the lowest of all when there is none above, and its QUERY waits for the arbiter; with no eligible unit it is IDLE. A unit is eligible while it is not UNUSED and its role is LINK. -/
def Obligations.PollGapExpiryChoosesTheNextUnit : Prop :=
  ∀ (s : State) (tm : Timer), s.board.ready = true → s.bus.gapTimer = some tm → tm.len ≤ (s.board.time - tm.start).toNat →
    let eligible (a : Nat) : Prop := 1 ≤ a ∧ a ≤ 16 ∧ (s.unit a).state ≠ .unused ∧ (s.unit a).role = .link
    let asks (a : Nat) : Prop := exec .pollGapExpiry s =
      .next (State.settle { s with bus := { s.bus with poll := .asking, cursor := a, gapTimer := none, pollOffer := some a } })
    (∀ a, eligible a → s.bus.cursor < a → (∀ b, eligible b → s.bus.cursor < b → a ≤ b) → asks a) ∧
    (∀ a, eligible a → (∀ b, eligible b → a ≤ b) → (∀ b, eligible b → b ≤ s.bus.cursor) → asks a) ∧
    ((∀ a, ¬eligible a) → exec .pollGapExpiry s =
      .next (State.settle { s with bus := { s.bus with poll := .idle, gapTimer := none, pollOffer := none } }))

/-! ## Links and supervision (chapter 5) -/

/-- R76: link options as a request gives them over the values d that absent ones take: each given value clamped to its range, the request noted CLAMPED when one was, BAD_FIELD when search lo lies above search hi afterwards. A rescue value other than 0 is AUTO. R81, R73, R87: SET_LINK_OPTIONS. With the link absent only the poll gap is written; otherwise the checks in their order, a refusal writing nothing, and an accepted request writes the selected options and the poll gap it carries. A changed option rewrites the record; rescue turned OFF stops the rescue timer, and turned AUTO on a WEAK link starts it for the rescue time. The gap is carried by select bit 10 with a value that is not absent (log entry 17). That it starts also on a link whose rescues a locked origin has barred, where its expiry starts none (LinkTimersChangeTheLink), is log entry 26. -/
def Obligations.LinkOptionsAreClampedAndWritten : Prop :=
   (∀ (o : OptionWords) (d : Options),
      let f := o.read d
      let fit (lo hi cur : Nat) (v : Option Nat) : Nat := match v with
        | none => cur
        | some v => max lo (min hi v)
      let off (lo hi : Nat) (v : Option Nat) : Prop := ∃ x, v = some x ∧ (x < lo ∨ hi < x)
      f.options = {
        rfThreshold := fit 0 255 d.rfThreshold o.rfThreshold, weakTime := fit 0 10000 d.weakTime o.weakTime
        lossTime := fit 50 10000 d.lossTime o.lossTime
        rescue := match o.rescue with
          | none => d.rescue
          | some v => decide (v ≠ 0)
        rescueTime := fit 1000 600000 d.rescueTime o.rescueTime, backoff := fit 0 3600000 d.backoff o.backoff
        confirm := fit 500 10000 d.confirm o.confirm, hold := fit 1000 3600000 d.hold o.hold
        searchLo := fit 0 12799 d.searchLo o.searchLo, searchHi := fit 0 12799 d.searchHi o.searchHi } ∧
      (f.was = true ↔ off 0 255 o.rfThreshold ∨ off 0 10000 o.weakTime ∨ off 50 10000 o.lossTime ∨ off 0 1 o.rescue ∨
        off 1000 600000 o.rescueTime ∨ off 0 3600000 o.backoff ∨ off 500 10000 o.confirm ∨ off 1000 3600000 o.hold ∨
        off 0 12799 o.searchLo ∨ off 0 12799 o.searchHi) ∧
      (f.bad = true ↔ f.options.searchHi < f.options.searchLo) ∧
      Options.default = { rfThreshold := 60, weakTime := 500, lossTime := 300, rescue := false, rescueTime := 5000, backoff := 60000,
                          confirm := 2000, hold := 600000, searchLo := 0, searchHi := 12799 }) ∧
   (∀ (n : Nat) (s : State), n < 32 → s.takesNext n 16 = true →
      let p := s.param n
      let l := p 4
      let carried := (p 5).testBit 10 && decide (p 19 ≠ 0xFFFF)
      let gap : Nat := if carried then min 1000 (p 19) else s.bus.pollGap
      let gapWas := carried && decide (1000 < p 19)
      let old := (s.link l).options
      let f := ((s.optionWords n 6).select (p 5)).read old
      let new := f.options
      let timer : RescueTimer :=
        if old.rescue = true ∧ new.rescue = false then .stopped
        else if old.rescue = false ∧ new.rescue = true ∧ (s.link l).state = .weak then .running { start := s.board.time, len := new.rescueTime }
        else (s.link l).rescueTimer
      let refuse (r : Result) : State := s.answered n r []
      exec (.setLinkOptions n) s = .next (State.settle (
        if l = 0xFFFF then { s with bus := { s.bus with pollGap := gap } }.answered n (if gapWas then .clamped else .ok) []
        else if 31 < l then refuse .badField
        else if (s.link l).state = .vacant then refuse .notBound
        else if s.tuning l then refuse .busy
        else if (s.ctxOf l).isSome then refuse .inUse
        else if f.bad then refuse .badField
        else if new = old then { s with bus := { s.bus with pollGap := gap } }.answered n (if f.was || gapWas then .clamped else .ok) []
        else { s with
          bus := { s.bus with pollGap := gap }
          links := { s.links with
            recs := put s.links.recs l { s.link l with options := new, rescueTimer := timer, edition := (s.link l).edition + 1 }
            edition := s.links.edition + 1 }
          board := s.board.note [.link] }.answered n (if f.was || gapWas then .clamped else .ok) [])))

/-- R77, R37, R186: BIND_LINK's checks in their order; a refusal reports nothing found; an accepted request begins a binding that claims the link, the unit's channel and the matrix output, and its CHECK, or its SEARCH under AUTO, joins the waiting list. The model's choice: step, start and limit count for CLAMPED only under AUTO and the code only when it is explicit (log entry 15), and a refusal's failure cause is 0 (log entry 11). -/
def Obligations.BindLinkBeginsABinding : Prop :=
  ∀ (n : Nat) (s : State), n < 32 → s.takesNext n 14 = true →
    let p := s.param n
    let link := p 4
    let kindN := p 5 % 256
    let studioN := p 5 / 256
    let unit := p 6 % 256
    let channel := p 6 / 256
    let auto := decide (p 9 = 0xFFFF)
    let force := (p 13).testBit 0
    let source (k : Nat) : Nat × Nat := (p (28 + k) / 256, p (28 + k) % 256)
    let o := (s.optionWords n 14).read Options.default
    let g := gridField o.options.searchLo o.options.searchHi (p 10) (p 11) (p 12)
    let kind : LinkKind := if kindN = 0 then .camera else if kindN = 1 then .mic else .iem
    let output : Option Nat := if kindN = 1 then none else some (p 7)
    let bad : Prop := 31 < link ∨ 2 < kindN ∨ 1 < studioN ∨ unit = 0 ∨ 16 < unit ∨ 3 < channel ∨ 4 < p 27 ∨
      (∃ k < p 27, 1 < (source k).1 ∨ (source k).2 = 0 ∨ 64 < (source k).2) ∨ (force = true ∧ auto = true) ∨
      (kindN ≠ 1 ∧ 31 < p 7) ∨ o.bad = true
    let bound (f : LinkRec → Prop) : Prop := ∃ m < 32, (s.link m).state ≠ .vacant ∧ f (s.link m)
    let claimed (f : Binding → Prop) : Prop := ∃ b ∈ s.links.bindings, f b
    let inUse : Prop := (s.link link).state ≠ .vacant ∨ claimed (fun b => b.link = link) ∨ s.probe.unit = unit ∨
      bound (fun r => r.unit = unit ∧ r.channel = channel) ∨ claimed (fun b => b.unit = unit ∧ b.channel = channel) ∨
      (output ≠ none ∧ (bound (fun r => r.output = output) ∨ claimed (fun b => b.output = output)))
    let full := 8 ≤ (s.plan.waiting.filter fun j => !j.source.isMove).length
    let refuse (r : Result) : Host.Outcome State Fault Refusal :=
      .next (s.answered n r [(8, 0xFFFF#16), (9, 0xFFFF#16), (10, 0#16), (11, 0xFFFF#16), (12, 0#16)]).settle
    let clamped := decide (p 8 ≠ 0xFFFF ∧ 320 < p 8) || o.was || (if auto then g.was else decide (12799 < p 9))
    (bad → exec (.bindLink n) s = refuse .badField) ∧
    (¬bad → inUse → exec (.bindLink n) s = refuse .inUse) ∧
    (¬bad → ¬inUse → full → exec (.bindLink n) s = refuse .busy) ∧
    (¬bad → ¬inUse → ¬full → exec (.bindLink n) s = .next (State.settle { s with
      board := s.board.holding n
      links := { s.links with bindings := s.links.bindings ++
        [{ slot := n, link := link, kind := kind, studio := if studioN = 0 then .a else .b, unit := unit, channel := channel, output := output,
           options := o.options, sources := (List.range (p 27)).map source, clamped := clamped, stage := .seeking, entry := 0, code := 0,
           examined := 0, reason := none, farCause := .none }] }
      plan := { s.plan with waiting := s.plan.waiting ++
        [{ source := .bind n link, work := if auto then .search g.grid else .check (min 12799 (p 9)) force, kind := .link
           width := if p 8 = 0 ∨ p 8 = 0xFFFF then 0 else min 320 (p 8), linkKind := kind, link := none, clamped := clamped }] } }))

/-- R80, R17, R74, R128, R144, R169, R171: UNBIND_LINK's checks in their order; an accepted one frees the origin entry, and the target of an ADRIFT link, through the removal path, empties the link's destination and mutes its talk crosspoints (and the programme crosspoint of an IEM link), clears what the resolver holds, returns the unit to UNUSED when no other bound link uses it, and leaves the record VACANT, its edition counting. The lamps naming the link see its level become OFF (LampsFollowLinksFadesAndBlinks says what each does). That the unbinding counts once, in the record and in the region, HEAD_TALLY_PENDING being cleared within that rewrite, is the model's choice (log entry 10). Other links, other entries, the moves, lines and reference stay. -/
def Obligations.UnbindLinkFreesEverythingTheLinkHeld : Prop :=
  ∀ (n : Nat) (s : State), n < 32 → s.takesNext n 15 = true →
    let l := s.param n 4
    let r := s.link l
    let o := r.originEntry
    let refuse (x : Result) : Prop := exec (.unbindLink n) s = .next (s.answered n x []).settle
    let override := (s.param n 5).testBit 1 && s.plan.rules.lockOverride
    let tuning := ∃ b ∈ s.links.bindings, b.link = l ∧ b.stage ≠ .seeking
    let moving := ∃ c < 4, (s.ctx c).phase ≠ .free ∧ (s.ctx c).link = l
    let locked := (s.entry o).lock = true ∧ override = false
    (31 < l → refuse .badField) ∧
    (l ≤ 31 → r.state = .vacant → refuse .notBound) ∧
    (l ≤ 31 → r.state ≠ .vacant → tuning → refuse .busy) ∧
    (l ≤ 31 → r.state ≠ .vacant → ¬tuning → moving → refuse .inUse) ∧
    (l ≤ 31 → r.state ≠ .vacant → ¬tuning → ¬moving → locked → refuse .locked) ∧
    (l ≤ 31 → r.state ≠ .vacant → ¬tuning → ¬moving → ¬locked → o < 48 → s.tablesOk → ∃ u : State, exec (.unbindLink n) s = .next u.settle ∧
      u.link l = { LinkRec.vacant with edition := r.edition + 1 } ∧ u.links.edition = s.links.edition + 1 ∧
      (∀ m < 32, m ≠ l → u.link m = s.link m) ∧ u.links.bindings = s.links.bindings ∧
      (u.entry o).status = .free ∧ (r.targetEntry = none → u.entry o = { PlanEntry.free with edition := (s.entry o).edition + 1 }) ∧
      (∀ t < 48, r.targetEntry = some t → t ≠ o → u.entry t = { PlanEntry.free with edition := (s.entry t).edition + 1 }) ∧
      (∀ e < 48, e ≠ o → r.targetEntry ≠ some e → u.entry e = s.entry e) ∧
      u.plan.edition = s.plan.edition + (if r.targetEntry = none then 1 else 2) ∧ u.plan.refreshPending = true ∧
      u.linkTally l = { override := .none, pending := .off, head := .idle } ∧
      (u.dest l).slots = Vector.replicate 4 none ∧ (u.dest l).waiters = [] ∧
      (∀ x, r.output = some x → ∀ st < 16, u.imageAt (pointOf x st) = 127) ∧
      (∀ x, r.output = some x → r.kind = .iem → u.imageAt (pointOf x (programmeInput r.studio)) = 127 ∧ (u.dest l).current = 127) ∧
      (1 ≤ r.unit → r.unit ≤ 16 → (∀ m < 32, m ≠ l → (s.link m).state ≠ .vacant → (s.link m).unit ≠ r.unit) → u.unit r.unit = UnitRec.unused) ∧
      u.board.events.getLsbD 0 = true ∧ u.board.events.getLsbD 1 = true ∧ u.board.events.getLsbD 2 = true ∧ u.slot n = .done ∧
      u.slotWord n 3 = 0 ∧
      u.lamps = (State.lampLevelChange { s with links := u.links } l).lamps ∧ u.moves = s.moves ∧ u.lines = s.lines ∧ u.ref = s.ref ∧ u.probe = s.probe ∧ u.pending = s.pending)

/-- R92, R15, R17: RESOLVE_LINK's checks in their order; keeping ORIGIN frees the target and writes outcome REVERTED, keeping TARGET makes the target the ACTIVE origin with the old origin's lock, frees the old origin and writes outcome OK; the link becomes BOUND, no command is sent, and other entries and links stay. Word 5 is 0 for ORIGIN, 1 for TARGET (R195). The MISTUNED flag left as it was is the model's choice (log entry 20). -/
def Obligations.ResolveLinkSettlesAnAdriftLink : Prop :=
  ∀ (n : Nat) (s : State), n < 32 → s.takesNext n 17 = true →
    let l := s.param n 4
    let keep := s.param n 5
    let r := s.link l
    let refuse (x : Result) : Prop := exec (.resolveLink n) s = .next (s.answered n x []).settle
    (31 < l ∨ 1 < keep → refuse .badField) ∧
    (l ≤ 31 → keep ≤ 1 → r.state = .vacant → refuse .notBound) ∧
    (l ≤ 31 → keep ≤ 1 → r.state ≠ .vacant → r.state ≠ .adrift → refuse .notFound) ∧
    (∀ t, l ≤ 31 → keep ≤ 1 → r.state = .adrift → r.targetEntry = some t → t < 48 → r.originEntry < 48 → t ≠ r.originEntry →
      ∃ u : State, exec (.resolveLink n) s = .next u.settle ∧
        u.link l = { r with
          state := .bound, rescueTimer := .stopped, rescueBarred := false, targetEntry := none, edition := r.edition + 1
          originEntry := if keep = 0 then r.originEntry else t, outcome := if keep = 0 then .reverted else .ok } ∧
        (keep = 0 → u.entry t = { PlanEntry.free with edition := (s.entry t).edition + 1 } ∧ u.entry r.originEntry = s.entry r.originEntry) ∧
        (keep = 1 → u.entry t = { s.entry t with status := .active, lock := (s.entry r.originEntry).lock, edition := (s.entry t).edition + 1 } ∧
          u.entry r.originEntry = { PlanEntry.free with edition := (s.entry r.originEntry).edition + 1 }) ∧
        (∀ e < 48, e ≠ t → e ≠ r.originEntry → u.entry e = s.entry e) ∧ (∀ m < 32, m ≠ l → u.link m = s.link m) ∧
        u.plan.edition = s.plan.edition + (if keep = 0 then 1 else 2) ∧ u.plan.refreshPending = true ∧
        u.slot n = .done ∧ u.bus = s.bus ∧ u.moves = s.moves ∧ u.probe = s.probe ∧ u.lines = s.lines ∧ u.tally = s.tally ∧ u.ref = s.ref)

/-- R82, R83, R74: the judgement of a report of a link that is neither MOVING nor ADRIFT: the reported fields are written; another tuned code than the origin's makes the link MISTUNED; otherwise lock and level give the state and the two timers by the table of R83 (a timer that runs is not restarted). R61, R70, R82: the STATUS that answers a QUERY ends it, makes the unit PRESENT with one more good reply, and brings each bound link of the unit the report of its channel: judged as above (for a link with no move), a weak timer started for 0 ms expiring at once, written and not judged while MOVING; links of other units stay. R91: a report of an ADRIFT link with lock on its origin code frees the target and writes outcome REVERTED, one with lock on its target code adopts the target and writes outcome OK, the link LIVE or WEAK by its level; any other leaves it ADRIFT. The MISTUNED flag it keeps is log entry 20. R103, R104, R106: a report that confirms a move or a revert takes a MIC or IEM move to UNMUTING and ends a CAMERA move; one that does not starts the query timer of 100 ms. R86: MUTE_PENDING then offers the unmute. (No link waits for a context. The counts of rewrites are log entry 10.) That several links of one unit are judged in ascending index is log entry 12. -/
def Obligations.ReportsAreJudgedByTheTable : Prop :=
   (∀ (r : LinkRec) (p : Report) (origin : Nat) (weak loss : Timer),
      r.state ∈ [LinkState.bound, .live, .weak, .lost, .unitMissing, .mistuned] →
      let t := r.judge p origin (some weak) (some loss)
      let strong := r.options.rfThreshold ≤ p.rf
      let start (running : Option Timer) (fresh : Timer) : Option Timer := match running with
        | none => some fresh
        | some x => some x
      let back := r.state = .mistuned ∨ r.state = .unitMissing
      (t.rfLevel = p.rf ∧ t.battery = p.battery ∧ t.tuned = some (min 65534 p.tuned) ∧ t.lock = p.lock ∧
        t.farPresent = p.far ∧ t.localMuted = p.muted) ∧
      (p.tuned ≠ origin → t.state = .mistuned ∧ t.mistuned = true) ∧
      (p.tuned = origin → t.mistuned = false) ∧
      (p.tuned = origin → p.lock = true → strong → t.state = .live ∧ t.weakTimer = none ∧ t.lossTimer = none) ∧
      (p.tuned = origin → p.lock = true → ¬strong → t.lossTimer = none ∧
        (r.state = .live → t.state = .live ∧ t.weakTimer = start r.weakTimer weak) ∧
        (r.state = .weak → t.state = .weak ∧ t.weakTimer = none) ∧
        (r.state = .bound ∨ r.state = .lost ∨ back → t.state = .bound ∧ t.weakTimer = start r.weakTimer weak)) ∧
      (p.tuned = origin → p.lock = false → t.weakTimer = none ∧
        (r.state = .live ∨ r.state = .weak ∨ r.state = .bound → t.state = r.state ∧ t.lossTimer = start r.lossTimer loss) ∧
        (r.state = .lost → t.state = .lost ∧ t.lossTimer = none) ∧ (back → t.state = .bound ∧ t.lossTimer = some loss)) ∧
      t = { r with state := t.state, rfLevel := t.rfLevel, battery := t.battery, tuned := t.tuned, lock := t.lock, farPresent := t.farPresent,
                   localMuted := t.localMuted, mistuned := t.mistuned, weakTimer := t.weakTimer, lossTimer := t.lossTimer }) ∧
   (∀ (s : State) (tx : Tx) (payload : List Byte), s.board.ready = true → s.bus.state = .listening → s.bus.reply = [] → s.bus.inFlight = some tx →
      tx.live = true → tx.cmd = .query → 1 ≤ tx.unit → tx.unit ≤ 16 → (s.unit tx.unit).role = .link → (s.unit tx.unit).state = .present →
      payload.length = 20 → (∀ l < 32, (s.link l).rescueTimer ≠ .waiting) →
      let a := tx.unit
      let answers (u : State) : Prop := exec (.replyFrame (busFrame (BitVec.ofNat 8 (a + 0x80)) 0x41 payload)) s = .next u.settle
      let p (l : Nat) : Report := reportAt payload (s.link l).channel
      let now (len : Nat) : Timer := { start := s.board.time, len := len }
      let code (e : Nat) : Nat := (s.entry e).code
      let moving (l : Nat) (f : Phase → Prop) : Prop := ∃ c < 4, (s.ctx c).phase ≠ .free ∧ (s.ctx c).link = l ∧ f (s.ctx c).phase
      let alone (l : Nat) : Prop := (s.link l).unit = a ∧ ∀ m < 32, m ≠ l → (s.link m).unit ≠ a
      let reported (l : Nat) : LinkRec := let r := s.link l
        { r with
          rfLevel := (p l).rf, battery := (p l).battery, tuned := some (min 65534 (p l).tuned), lock := (p l).lock, farPresent := (p l).far
          localMuted := (p l).muted, edition := r.edition + 1
          offer := if r.mutePending = true ∧ r.offer = none then some (.muteLocal r.channel false) else r.offer }
      (tx.orig = .poller → (∀ l < 32, (s.link l).unit = a → (s.link l).state ≠ .adrift) → ∃ u : State, answers u ∧
        u.bus.state = .idle ∧ u.bus.inFlight = none ∧ u.unit a = { s.unit a with misses := 0, good := (s.unit a).good + 1 } ∧
        (∀ l < 32, let r := s.link l
          (r.unit ≠ a → u.link l = r) ∧
          (r.unit = a → r.state = .moving → ¬moving l (fun x => x = .confirm ∨ x = .revertConfirm) → u.link l = reported l) ∧
          (r.unit = a → r.state ∈ [LinkState.bound, .live, .weak, .lost, .unitMissing, .mistuned] → ¬moving l (fun _ => True) →
            let t := r.judge (p l) (code r.originEntry) (some (now r.options.weakTime)) (some (now r.options.lossTime))
            let expires := r.options.weakTime = 0 ∧ r.weakTimer = none ∧ t.state ≠ .mistuned ∧ t.weakTimer ≠ none
            (expires → u.link l = { reported l with
              state := .weak, mistuned := t.mistuned, weakTimer := none, lossTimer := t.lossTimer, edition := r.edition + 2
              rescueBarred := r.rescueBarred && decide (t.state = .weak)
              rescueTimer := if r.options.rescue then .running (now r.options.rescueTime)
                else if t.state = .weak then r.rescueTimer else .stopped }) ∧
            (¬expires → u.link l = { reported l with
              state := t.state, mistuned := t.mistuned, weakTimer := if t.state = .mistuned then none else t.weakTimer
              lossTimer := if t.state = .mistuned then none else t.lossTimer
              rescueTimer := if t.state = .weak then r.rescueTimer else .stopped
              rescueBarred := r.rescueBarred && decide (t.state = .weak) })))) ∧
      (∀ l < 32, ∀ t < 48, let r := s.link l
        let o := r.originEntry
        tx.orig = .poller → alone l → ¬moving l (fun _ => True) → r.state = .adrift → r.targetEntry = some t → o < 48 → t ≠ o → ∃ u : State, answers u ∧
          (let onOrigin := (p l).lock = true ∧ (p l).tuned = code o
          let onTarget := (p l).lock = true ∧ (p l).tuned ≠ code o ∧ (p l).tuned = code t
          let state : LinkState := if r.options.rfThreshold ≤ (p l).rf then .live else .weak
          let settled : LinkRec := { reported l with
            state := state, targetEntry := none, rescueBarred := r.rescueBarred && decide (state = .weak)
            rescueTimer := if state ≠ .weak then .stopped else if r.options.rescue then .running (now r.options.rescueTime) else r.rescueTimer }
          let freed (e : Nat) : PlanEntry := { PlanEntry.free with edition := (s.entry e).edition + 1 }
          (onOrigin → u.link l = { settled with outcome := .reverted } ∧ u.entry t = freed t ∧ (∀ e < 48, e ≠ t → u.entry e = s.entry e)) ∧
          (onTarget → u.link l = { settled with originEntry := t, outcome := .ok } ∧ u.entry o = freed o ∧
            u.entry t = { s.entry t with status := .active, lock := (s.entry o).lock, edition := (s.entry t).edition + 1 } ∧
            (∀ e < 48, e ≠ t → e ≠ o → u.entry e = s.entry e)) ∧
          (onOrigin ∨ onTarget → u.plan.refreshPending = true ∧ u.board.events.getLsbD 2 = true) ∧
          (¬onOrigin → ¬onTarget → u.link l = reported l ∧ u.plan = s.plan))) ∧
      (∀ c < 4, let x := s.ctx c
        let r := s.link x.link
        tx.orig = .ctx c → x.link < 32 → alone x.link → r.state = .moving → (x.phase = .confirm ∨ x.phase = .revertConfirm) →
        (∀ d < 4, d ≠ c → (s.ctx d).phase = .free ∨ (s.ctx d).link ≠ x.link) → ∃ u : State, answers u ∧
          (let q := p x.link
          let good := q.lock = true ∧ (if x.phase = .confirm then some q.tuned = x.targetCode ∧ r.options.rfThreshold ≤ q.rf else q.tuned = code r.originEntry)
          let outcome : Outcome := if x.phase = .confirm then .ok else .reverted
          (¬good → u.ctx c = { x with queryTimer := some (now 100), edition := x.edition + 1 } ∧ u.link x.link = reported x.link ∧ u.plan = s.plan) ∧
          (good → r.kind ≠ .camera → u.ctx c = { x with
              phase := .unmuting, outcome := outcome, confirmTimer := none, queryTimer := none, offer := some (.muteLocal r.channel false)
              edition := x.edition + 2 } ∧ u.link x.link = reported x.link ∧ u.plan = s.plan) ∧
          (good → r.kind = .camera → u.ctx c = { Ctx.free with edition := x.edition + 2 } ∧ (u.link x.link).state = .bound ∧
            (u.link x.link).outcome = outcome ∧
            (u.link x.link).originEntry = (if x.phase = .confirm then x.targetEntry.getD r.originEntry else r.originEntry)))))

/-- R84, R87: weak timer expiry of a LIVE or BOUND link: the link becomes WEAK and, with rescue AUTO and no move context, its rescue timer starts; with a move context none starts, and a context in HELD that the change lets go under R98 leaves HELD at once. Loss timer expiry: the link becomes LOST, its loss count and last loss time are written and its rescue timer or wait ends. Each rewrites the record once; other links, the plan, the bus, the probe, the moves, the lines and the reference stay; R148, R166: the change of state reaches the talkback controller (RequestsAreArbitratedAndTalkersFollowTheLink) and the lamps naming the link (LampsFollowLinksFadesAndBlinks). R88, R89, R94: the tests of a rescue start at rescue timer expiry, the first that applies deciding: a binding still tuning restarts the timer, a locked origin stops it and bars the link's rescues until it leaves WEAK, a barred link being answered in the same way (log entry 26), a backoff still running restarts it for the rest, no free context makes the rescue wait; otherwise the rescue starts in the lowest FREE context with target AUTO over the link's search range and every flag clear. R89: a waiting rescue is published as a timer with no time remaining; its expiry serves the free contexts to the waiting rescues (MovesFollowTheirTransactionsToTheirEnd says what that does), which is the model's choice (log entry 24); the expiry of a stopped timer changes nothing (log entry 3). The rescue timer changing in place, without a rewrite of the record, is the model's choice (log entry 10). -/
def Obligations.LinkTimersChangeTheLink : Prop :=
   (∀ (s : State) (l : Nat) (tm : Timer), l < 32 → s.board.ready = true → tm.len ≤ (s.board.time - tm.start).toNat →
      let r := s.link l
      let same (u : State) : Prop := (∀ m < 32, m ≠ l → u.link m = s.link m) ∧ u.links.edition = s.links.edition + 1 ∧ u.plan = s.plan ∧
        u.bus = s.bus ∧ u.probe = s.probe ∧ u.moves = s.moves ∧ u.lines = s.lines ∧ u.ref = s.ref ∧ u.tally = s.tally ∧
        u.board.slots = s.board.slots ∧ u.board.body = s.board.body ∧ u.board.events.getLsbD 1 = true
      let told (u : State) : Prop := u.talk = (State.talkLinkChange { s with links := u.links } l).talk ∧
        u.matrix = (State.talkLinkChange { s with links := u.links } l).matrix ∧
        u.lamps = (State.lampStateChange { s with links := u.links } l).lamps
      (r.weakTimer = some tm → r.state = .live ∨ r.state = .bound → s.ctxOf l = none →
        ∃ u : State, exec (.weakTimerExpiry l) s = .next u.settle ∧ same u ∧ told u ∧
          u.link l = { r with
            state := .weak, weakTimer := none, edition := r.edition + 1
            rescueTimer := if r.options.rescue then .running { start := s.board.time, len := r.options.rescueTime } else r.rescueTimer }) ∧
      (∀ c < 4, r.weakTimer = some tm → r.state = .live ∨ r.state = .bound → s.ctxOf l = some c →
        let x := s.ctx c
        let goes := x.phase = .held ∧ (r.applied ≠ .program ∨ x.urgent = true) ∧ (x.manualGo = true → x.go = true)
        (¬goes → ∃ u : State, exec (.weakTimerExpiry l) s = .next u.settle ∧ same u ∧ told u ∧
          u.link l = { r with state := .weak, weakTimer := none, edition := r.edition + 1 }) ∧
        (goes → ∃ u : State, exec (.weakTimerExpiry l) s = .next u.settle ∧ (u.link l).state = .moving ∧ (u.link l).weakTimer = none ∧
          (u.link l).lossTimer = none ∧ (u.link l).rescueTimer = .stopped ∧ (u.ctx c).holdTimer = none ∧ u.probe.autoHold = true ∧
          (r.kind ≠ .camera → (u.ctx c).phase = .muting ∧ (u.ctx c).offer = some (.muteLocal r.channel true)) ∧
          (r.kind = .camera → (u.ctx c).phase = .tuneFar ∧ (u.ctx c).offer = some (.tuneFar r.channel (x.targetCode.getD 0))) ∧
          (∀ m < 32, m ≠ l → u.link m = s.link m) ∧ (∀ d < 4, d ≠ c → u.ctx d = s.ctx d) ∧ u.plan = s.plan)) ∧
      (r.lossTimer = some tm → ∃ u : State, exec (.lossTimerExpiry l) s = .next u.settle ∧ same u ∧ (r.state ≠ .lost → told u) ∧
          u.link l = { r with
            state := .lost, lossTimer := none, rescueTimer := .stopped, rescueBarred := false, lastLoss := s.board.time, edition := r.edition + 1
            lossCount := if r.lossCount = 65535#16 then 65535#16 else r.lossCount + 1 })) ∧
   (∀ (s : State) (l : Nat) (tm : Timer), l < 32 → s.board.ready = true → (s.link l).rescueTimer = .running tm →
      tm.len ≤ (s.board.time - tm.start).toNat →
      let r := s.link l
      let now := s.board.time
      let withTimer (t : RescueTimer) : Host.Outcome State Fault Refusal :=
        .next (State.settle { s with links := { s.links with recs := put s.links.recs l { r with rescueTimer := t } } })
      let left : Nat := match r.lastRescue with
        | none => 0
        | some t => r.options.backoff - (now - t).toNat
      let locked := r.rescueBarred = true ∨ (s.entry r.originEntry).lock = true
      (s.tuning l = true → exec (.rescueTimerExpiry l) s = withTimer (.running { start := now, len := r.options.rescueTime })) ∧
      (s.tuning l = false → locked → exec (.rescueTimerExpiry l) s = .next (State.settle
        { s with links := { s.links with recs := put s.links.recs l { r with rescueTimer := .stopped, rescueBarred := true } } })) ∧
      (s.tuning l = false → ¬locked → 0 < left → exec (.rescueTimerExpiry l) s = withTimer (.running { start := now, len := left })) ∧
      (s.tuning l = false → ¬locked → left = 0 → (∀ c < 4, (s.ctx c).phase ≠ .free) → exec (.rescueTimerExpiry l) s = withTimer .waiting) ∧
      (∀ c < 4, s.tuning l = false → ¬locked → left = 0 → (s.ctx c).phase = .free → (∀ d < c, (s.ctx d).phase ≠ .free) →
        exec (.rescueTimerExpiry l) s = .next (State.settle { s with
          board := s.board.note [.link]
          links := { s.links with
            recs := put s.links.recs l { r with
              rescueCount := if r.rescueCount = 65535#16 then 65535#16 else r.rescueCount + 1
              lastRescue := some now, rescueTimer := .stopped, edition := r.edition + 1 }
            edition := s.links.edition + 1 }
          moves := { s.moves with
            ctxs := put s.moves.ctxs c { Ctx.free with
              phase := .seeking, link := l, slot := none, origin := .rescue, target := .auto 1 r.options.searchLo 12800
              edition := (s.ctx c).edition + 1 }
            edition := s.moves.edition + 1 }
          plan := { s.plan with waiting := s.plan.waiting ++
            [{ source := .move c
               work := .search { lo := r.options.searchLo, hi := r.options.searchHi, step := 1, start := r.options.searchLo, limit := 12800 }
               kind := .link, width := 0, linkKind := .mic, link := some l, clamped := false }] } }))) ∧
   (∀ (s : State) (l : Nat), l < 32 → s.board.ready = true →
      ((s.link l).rescueTimer = .waiting → exec (.rescueTimerExpiry l) s = .next s.serveRescues.settle) ∧
      ((s.link l).rescueTimer = .stopped → exec (.rescueTimerExpiry l) s = .next s))

/-! ## Frequency moves (chapter 6) -/

/-- R94 to R96, R37: MOVE_LINK's checks in their order; a refusal opens nothing and reports nothing; an accepted request opens the lowest FREE context in SEEKING with its target and flags, ends the link's rescue timer, and hands the plan engine a CHECK, or a SEARCH over the link's search range, with the origin left out; the slot stays TAKEN. The model's choice: what counts for CLAMPED under AUTO and with an explicit code (log entry 15), a refusal's flags and failure cause of 0 (log entry 11), and the rescue timer ended without a rewrite of the link record (log entry 10). -/
def Obligations.MoveLinkOpensAContext : Prop :=
  ∀ (n : Nat) (s : State), n < 32 → s.takesNext n 18 = true →
    let p := s.param n
    let l := p 4
    let r := s.link l
    let flags := p 9
    let auto := decide (p 5 = 0xFFFF)
    let absent (v : Nat) : Prop := v = 0 ∨ v = 0xFFFF
    let step := if p 6 = 0 ∨ p 6 = 0xFFFF then 1 else min 64 (p 6)
    let limit := if p 8 = 0 ∨ p 8 = 0xFFFF then 12800 else min 12800 (p 8)
    let start := startField r.options.searchLo r.options.searchHi (p 7)
    let override := flags.testBit 1 && s.plan.rules.lockOverride
    let refuse (x : Result) : State :=
      s.answered n x [(10, 0xFFFF#16), (11, 0xFFFF#16), (12, 0#16), (13, 0xFFFF#16), (14, 0#16), (15, 0#16)]
    let accept (c : Nat) : State := { s with
      board := (s.board.holding n).note [.link]
      links := { s.links with recs := put s.links.recs l { r with rescueTimer := .stopped } }
      moves := { s.moves with
        ctxs := put s.moves.ctxs c { Ctx.free with
          phase := .seeking, link := l, slot := some n, origin := .host
          target := if auto then .auto step start.value limit else .code (min 12799 (p 5))
          urgent := flags.testBit 2, manualGo := flags.testBit 3, force := flags.testBit 0, override := flags.testBit 1
          clamped := if auto then decide (¬absent (p 6) ∧ 64 < p 6) || start.was || decide (¬absent (p 8) ∧ 12800 < p 8) else decide (12799 < p 5)
          edition := (s.ctx c).edition + 1 }
        edition := s.moves.edition + 1 }
      plan := { s.plan with waiting := s.plan.waiting ++
        [{ source := .move c
           work := if auto then .search { lo := r.options.searchLo, hi := r.options.searchHi, step := step, start := start.value, limit := limit }
                   else .check (min 12799 (p 5)) (flags.testBit 0)
           kind := .link, width := 0, linkKind := .mic, link := some l, clamped := false }] } }
    (∀ c, s.freeCtx = some c ↔ (c < 4 ∧ (s.ctx c).phase = .free ∧ ∀ d < c, (s.ctx d).phase ≠ .free)) ∧
    exec (.moveLink n) s = .next (State.settle (
      if 31 < l ∨ (flags.testBit 0 = true ∧ auto = true) then refuse .badField
      else if r.state = .vacant then refuse .notBound
      else if s.tuning l then refuse .busy
      else if r.state = .adrift then refuse .adrift
      else if (s.ctxOf l).isSome then refuse .inUse
      else if (s.entry r.originEntry).lock && !override then refuse .locked
      else match s.freeCtx with
        | none => refuse .busy
        | some c => accept c))

/-- R98, R100, R101, R102: GO_MOVE. A link index above 31 is BAD_FIELD, a link with no context in HELD NOT_FOUND; otherwise GO received is set and the request completes OK. If the conditions of R98 hold then (tally below PROGRAM or URGENT; LIVE, WEAK or MISTUNED), the move leaves HELD, the request completing OK too: the link becomes MOVING with its timers stopped, and the context offers MUTE_LOCAL on in MUTING, or TUNE_FAR to its target in TUNE_FAR for a CAMERA link, under the probe's automatic hold; if they do not, nothing more happens. R99, R109, R87: hold timer expiry of a move in HELD (no rescue waiting for a context): the target is freed through the removal path, the link keeps its supervision state, whichever it is (LIVE, WEAK, BOUND, MISTUNED, and LOST and UNIT_MISSING, which R98 makes wait), with outcome HOLD_TIMEOUT and the move's origin written (a WEAK link with rescue AUTO starts its rescue timer; a state of R84 has its weak and loss timers stopped), the context becomes FREE, and the slot of a host move completes HOLD_TIMEOUT with the target and the candidates examined; a rescue has no slot, and no slot changes. One rewrite of the link record and one of the context is the model's choice (log entry 10). A bar on the link's rescues stays while it is WEAK (R88). -/
def Obligations.HeldMovesGoOrRunOut : Prop :=
   (∀ (n : Nat) (s : State), n < 32 → s.takesNext n 19 = true →
      let l := s.param n 4
      let r := s.link l
      let refuse (x : Result) : Prop := exec (.goMove n) s = .next (s.answered n x []).settle
      (31 < l → refuse .badField) ∧
      (l ≤ 31 → (∀ c < 4, (s.ctx c).phase = .held → (s.ctx c).link ≠ l) → refuse .notFound) ∧
      (∀ c, l ≤ 31 → s.ctxOf l = some c → (s.ctx c).phase = .held →
        let x := s.ctx c
        let may := (r.applied ≠ .program ∨ x.urgent = true) ∧ (r.state = .live ∨ r.state = .weak ∨ r.state = .mistuned)
        (x.go = true → ¬may → exec (.goMove n) s = .next (s.answered n .ok []).settle) ∧
        (x.go = false → ¬may → exec (.goMove n) s = .next (State.settle ({ s with
          board := s.board.note [.link]
          moves := { s.moves with ctxs := put s.moves.ctxs c { x with go := true, edition := x.edition + 1 }, edition := s.moves.edition + 1 }
          }.answered n .ok []))) ∧
        (may → ∃ u : State, exec (.goMove n) s = .next u.settle ∧ u.slot n = .done ∧ (s.tablesOk → u.slotWord n 3 = 0) ∧ u.probe.autoHold = true ∧
          (u.link l).state = .moving ∧ (u.link l).weakTimer = none ∧ (u.link l).lossTimer = none ∧ (u.link l).rescueTimer = .stopped ∧
          (u.ctx c).go = true ∧ (u.ctx c).holdTimer = none ∧
          (r.kind ≠ .camera → (u.ctx c).phase = .muting ∧ (u.ctx c).offer = some (.muteLocal r.channel true) ∧ (u.link l).mutePending = false ∧
            (u.link l).retunedOnAir = false) ∧
          (r.kind = .camera → (u.ctx c).phase = .tuneFar ∧ (u.ctx c).offer = some (.tuneFar r.channel (x.targetCode.getD 0)) ∧
            ((u.link l).retunedOnAir = true ↔ r.applied = .program)) ∧
          (∀ m < 32, m ≠ l → u.link m = s.link m) ∧ (∀ d < 4, d ≠ c → u.ctx d = s.ctx d) ∧ u.plan = s.plan ∧ u.lines = s.lines ∧
          u.tally = s.tally ∧ u.ref = s.ref))) ∧
   (∀ (s : State) (c t : Nat) (tm : Timer), c < 4 → s.board.ready = true → (s.ctx c).holdTimer = some tm →
      tm.len ≤ (s.board.time - tm.start).toNat → (s.ctx c).phase = .held → (s.ctx c).targetEntry = some t → t < 48 → (∀ m, (s.ctx c).slot = some m → m < 32) →
      (s.ctx c).link < 32 → (∀ d < 4, d ≠ c → (s.ctx d).phase ≠ .free → (s.ctx d).link ≠ (s.ctx c).link) →
      (∀ l < 32, (s.link l).rescueTimer ≠ .waiting) → s.tablesOk → s.retuning = s.probe.autoHold →
      let x := s.ctx c
      let r := s.link x.link
      let quiet : Bool := decide (r.state ∈ [LinkState.vacant, .mistuned, .unitMissing, .moving, .adrift])
      ∃ u : State, exec (.holdTimerExpiry c) s = .next u.settle ∧
        u.entry t = { PlanEntry.free with edition := (s.entry t).edition + 1 } ∧ (∀ e < 48, e ≠ t → u.entry e = s.entry e) ∧
        u.plan.edition = s.plan.edition + 1 ∧ u.plan.refreshPending = true ∧ u.plan.waiting = s.plan.waiting ∧
        u.link x.link = { r with
          outcome := .holdTimeout, moveOrigin := some x.origin, targetEntry := none, edition := r.edition + 1
          weakTimer := if quiet then none else r.weakTimer, lossTimer := if quiet then none else r.lossTimer
          rescueBarred := r.rescueBarred && decide (r.state = .weak)
          rescueTimer := if r.state = .weak then
              (if r.options.rescue then .running { start := s.board.time, len := r.options.rescueTime } else r.rescueTimer) else .stopped } ∧
        (∀ l < 32, l ≠ x.link → u.link l = s.link l) ∧
        u.ctx c = { Ctx.free with edition := x.edition + 1 } ∧ (∀ d < 4, d ≠ c → u.ctx d = s.ctx d) ∧ u.probe = s.probe ∧
        (∀ m, x.slot = some m → u.slot m = .done ∧ u.slotWord m 3 = 11 ∧ u.slotWord m 10 = BitVec.ofNat 16 t ∧
          u.slotWord m 12 = BitVec.ofNat 16 x.examined ∧ u.board.events.getLsbD 0 = true) ∧
        (∀ n < 32, x.slot ≠ some n → u.slot n = s.slot n ∧ ∀ k < 32, u.slotWord n k = s.slotWord n k) ∧
        u.talk = s.talk ∧ u.lamps = s.lamps ∧ u.matrix = s.matrix ∧ u.lines = s.lines ∧ u.ref = s.ref ∧ u.tally = s.tally)

/-- R103, R105, R106: confirm timer expiry in CONFIRM enters REVERT_FAR: the timers stop, a waiting QUERY is withdrawn and TUNE_FAR with the origin code is offered. Query timer expiry offers the next QUERY. Each rewrites the context once and changes nothing else. R106, R107, R109: confirm timer expiry in REVERT_CONFIRM sends the link ADRIFT: both plan entries stay, the record names the target and its outcome is ADRIFT, MUTE_PENDING is set for a MIC or IEM link, no further command is offered and the context becomes FREE. A context's timers counted among the fields whose change is a rewrite is the model's choice (log entry 10). -/
def Obligations.ConfirmationExpiries : Prop :=
   (∀ (s : State) (c : Nat) (tm : Timer), c < 4 → s.board.ready = true → tm.len ≤ (s.board.time - tm.start).toNat →
      let x := s.ctx c
      let rewritten (y : Ctx) : Host.Outcome State Fault Refusal := .next (State.settle { s with
        board := s.board.note [.link]
        moves := { s.moves with ctxs := put s.moves.ctxs c { y with edition := x.edition + 1 }, edition := s.moves.edition + 1 } })
      (x.confirmTimer = some tm → x.phase = .confirm → exec (.confirmTimerExpiry c) s = rewritten { x with
        phase := .revertFar, confirmTimer := none, queryTimer := none
        offer := some (.tuneFar (s.link x.link).channel (s.entry (s.link x.link).originEntry).code) }) ∧
      (x.queryTimer = some tm → exec (.queryTimerExpiry c) s = rewritten { x with queryTimer := none, offer := some .query })) ∧
   (∀ (s : State) (c : Nat) (tm : Timer), c < 4 → s.board.ready = true → (s.ctx c).confirmTimer = some tm →
      tm.len ≤ (s.board.time - tm.start).toNat → (s.ctx c).phase = .revertConfirm → (s.ctx c).link < 32 → (∀ l < 32, (s.link l).rescueTimer ≠ .waiting) →
      let x := s.ctx c
      let r := s.link x.link
      ∃ u : State, exec (.confirmTimerExpiry c) s = .next u.settle ∧ u.plan = s.plan ∧
        (u.link x.link).state = .adrift ∧ (u.link x.link).outcome = .adrift ∧ (u.link x.link).moveOrigin = some x.origin ∧
        (u.link x.link).targetEntry = r.targetEntry ∧ (u.link x.link).originEntry = r.originEntry ∧
        (u.link x.link).mutePending = (if r.kind = .camera then r.mutePending else true) ∧
        (u.link x.link).weakTimer = none ∧ (u.link x.link).lossTimer = none ∧ (u.link x.link).rescueTimer = .stopped ∧
        u.ctx c = { Ctx.free with edition := x.edition + 1 } ∧ (∀ d < 4, d ≠ c → u.ctx d = s.ctx d) ∧ (∀ l < 32, l ≠ x.link → u.link l = s.link l) ∧
        (∀ m, x.slot = some m → m < 32 → u.slot m = .done))

/-- R187, R30, R112: the answers of ABORT by its checks in their order, for a slot: its own slot or a bad number BAD_FIELD, a FREE or POSTED slot NOT_FOUND, a DONE slot TOO_LATE, each changing nothing in the slot named; for a link with no move context NOT_FOUND. R30: a job still waiting is withdrawn and its slot completes ABORTED with 0 candidates examined (a BIND_LINK's claims are released), the ABORT completing OK; a running CHECK or SEARCH is marked, also one marked before, and the ABORT completes OK; a closing refresh, a running AUDIT and a binding past its commit answer TOO_LATE. A BIND_LINK's job in its closing refresh belongs to its binding, not to the slot: once the binding has completed the slot (R79), the request that then holds it is answered as its own block says. That the dropped counts of the probe read 0 is log entry 7. R55: the slot of a sweep ends the sweep ABORTED, the fault as it was. R112: for a slot or link with a move the phase decides: SEEKING withdraws a waiting job and ends the move ABORTED, or marks the running job with abort requested; HELD ends the move ABORTED; MUTING, TUNE_FAR and TUNE_LOCAL set abort requested, once; CONFIRM reverts at once; the revert phases and UNMUTING answer TOO_LATE and change nothing. That a second ABORT found in those last phases with abort requested still set is TOO_LATE by the phase, and not OK, is the model's choice (log entry 20); which result words an ABORTED slot leaves absent is log entry 11. Word 4 is 0 for SLOT, 1 for LINK (R195). -/
def Obligations.AbortAnswersByWhatTheSlotHolds : Prop :=
   (∀ (n : Nat) (s : State), n < 32 → s.takesNext n 30 = true →
      let selector := s.param n 4
      let m := s.param n 5
      let ends (u : State) (x : Result) : Prop := exec (.abort n) s = .next (State.settle (State.answered u n x []))
      let answer (x : Result) : Prop := ends s x
      let moves (c : Nat) : Prop :=
        let a := State.abortMove { s with board := s.board.holding n } c
        exec (.abort n) s = .next (State.settle (a.2.complete n a.1))
      let slotHeld := selector = 0 ∧ m ≤ 31 ∧ m ≠ n ∧ s.slot m = .taken
      let notWaiting := ∀ j ∈ s.plan.waiting, j.source.slot? ≠ some m
      let works (r : Running) : Prop := r.job.source.slot? = some m ∧ (r.stage = .testing ∨ ∀ k l, r.job.source ≠ .bind k l)
      let noJob := notWaiting ∧ ∀ r, s.plan.work = .job r → ¬works r
      let noBinding := ∀ b ∈ s.links.bindings, b.slot ≠ m
      let moveIn (c : Nat) : Prop := (s.ctx c).phase ≠ .free ∧ (s.ctx c).slot = some m
      (1 < selector ∨ 31 < m ∨ (selector = 0 ∧ m = n) → answer .badField) ∧
      (selector = 0 → m ≤ 31 → m ≠ n → (s.slot m = .free ∨ s.slot m = .posted) → answer .notFound) ∧
      (selector = 0 → m ≤ 31 → m ≠ n → s.slot m = .done → answer .tooLate) ∧
      (∀ before j after, slotHeld → s.plan.waiting = before ++ j :: after → j.source.slot? = some m →
        (∀ k ∈ before ++ after, k.source.slot? ≠ some m) →
        let words : List (Nat × Word) := match j.source with
          | .place _ => [(12, 0xFFFF#16), (13, 0#16)]
          | .setCarrier _ _ => [(8, 0xFFFF#16), (9, 0xFFFF#16)]
          | .audit _ => (List.range 14).map fun k => (4 + k, 0#16)
          | .bind _ _ => [(8, 0xFFFF#16), (9, 0xFFFF#16), (10, 0#16), (11, 0xFFFF#16), (12, 0#16)]
          | .move _ => []
        let bindings : List Binding := match j.source with
          | .bind _ l => s.links.bindings.filter fun b => decide (b.link ≠ l)
          | _ => s.links.bindings
        ends (State.complete { s with plan := { s.plan with waiting := before ++ after }, links := { s.links with bindings := bindings } }
          m .aborted words) .ok) ∧
      (∀ r, slotHeld → notWaiting → s.plan.work = .job r → works r →
        (r.stage = .testing → ends { s with plan := { s.plan with work := .job { r with aborted := true } } } .ok) ∧
        (r.stage ≠ .testing → answer .tooLate)) ∧
      (slotHeld → noJob → ¬noBinding → answer .tooLate) ∧
      (∀ c < 4, slotHeld → noJob → noBinding → moveIn c → (∀ d < c, ¬moveIn d) → moves c) ∧
      (slotHeld → noJob → noBinding → (∀ c < 4, ¬moveIn c) → s.probe.slot = some m → ends (State.complete
        { s with
          probe := { s.probe with
            state := .idle, hostHold := false, slot := none, settleTimer := none, window := none
            pulses := 0, ticks := 0, offer := none }
          bus := { s.bus with inFlight := s.bus.inFlight.map fun (t : Tx) => if t.orig = Originator.probe then { t with live := false } else t }
          board := s.board.note [.probe] }
        m .aborted
        [(6, BitVec.ofNat 16 s.probe.measured), (7, match s.probe.lastBin with | none => 0xFFFF#16 | some b => BitVec.ofNat 16 b),
         (8, BitVec.ofNat 16 s.probe.cal.tref), (9, BitVec.ofNat 16 (s.probe.cal.tref / 65536))]) .ok) ∧
      (selector = 1 → m ≤ 31 → (∀ c < 4, (s.ctx c).phase ≠ .free → (s.ctx c).link ≠ m) → answer .notFound) ∧
      (∀ c < 4, selector = 1 → m ≤ 31 → (s.ctx c).phase ≠ .free → (s.ctx c).link = m →
        (∀ d < c, (s.ctx d).phase ≠ .free → (s.ctx d).link ≠ m) → moves c)) ∧
   (∀ (s : State) (c : Nat), c < 4 →
      let x := s.ctx c
      let rewritten (u : State) (y : Ctx) : State := { u with
        board := u.board.note [.link]
        moves := { u.moves with ctxs := put u.moves.ctxs c { y with edition := x.edition + 1 }, edition := u.moves.edition + 1 } }
      let requested (u : State) : State := if x.abort then u else rewritten u { x with abort := true }
      let waits := ∃ j ∈ s.plan.waiting, j.source = .move c
      (x.phase = .seeking → waits → s.abortMove c = (.ok, State.endMove { s with
        plan := { s.plan with waiting := s.plan.waiting.filter fun j => decide (j.source ≠ .move c) }
        moves := { s.moves with ctxs := put s.moves.ctxs c { x with examined := 0, reason := .none } } } c .aborted .none)) ∧
      (∀ r, x.phase = .seeking → ¬waits → s.plan.work = .job r → r.job.source = .move c →
        s.abortMove c = (.ok, requested { s with plan := { s.plan with work := .job { r with aborted := true } } })) ∧
      (x.phase = .held → s.abortMove c = (.ok, s.endMove c .aborted .none)) ∧
      (x.phase = .muting ∨ x.phase = .tuneFar ∨ x.phase = .tuneLocal → s.abortMove c = (.ok, requested s)) ∧
      (x.phase = .confirm → s.abortMove c = (.ok, rewritten s { x with
        phase := .revertFar, confirmTimer := none, queryTimer := none
        offer := some (.tuneFar (s.link x.link).channel (s.entry (s.link x.link).originEntry).code) })) ∧
      (x.phase = .revertFar ∨ x.phase = .revertLocal ∨ x.phase = .revertConfirm ∨ x.phase = .unmuting → s.abortMove c = (.tooLate, s)))

/-- R101 to R103, R105 to R108, R110, R112: what the end of a transaction leaves of its move: each phase's next phase with the one command it offers, or the failure cause recorded; entering TUNE_FAR on a link at PROGRAM records the retune on air; with abort requested a mute that succeeded leads to UNMUTING and a tune to REVERT_FAR, whatever its result; an ended QUERY of CONFIRM or REVERT_CONFIRM starts the query timer of 100 ms. A failed mute ends the move UNIT_FAILED, or ABORTED; a failed revert command sends a MIC or IEM link ADRIFT with MUTE_PENDING set, and a CAMERA link without; UNMUTING ends the move with its outcome, a failure setting MUTE_PENDING. R109, R90, R15, R17, R111, R87: the end of a move: OK adopts the target and frees the origin, ADRIFT keeps both, any other outcome frees a target written; the record takes outcome, origin, entries and supervision state; the probe leaves its automatic hold with the last retuning context; the context becomes FREE; a host move's slot completes with its result and words; a link left WEAK restarts its rescue timer (also where its rescues are barred, R88: log entry 26). R89: then waiting rescues are served: a single one makes the tests of a rescue start, in the order of R88, if a context is free; while a MOVE_LINK of the host, posted in the pending set, competes for the freed context they wait on (log entry 24), and whichever is taken first has it. The model's choices: what counts as one rewrite of context and record (log entry 10), the causes reported for aborted, reverted and ADRIFT moves (log entry 20), absent result words (log entry 11). -/
def Obligations.MovesFollowTheirTransactionsToTheirEnd : Prop :=
   (∀ (s : State) (c : Nat) (cmd : BusCmd) (ok : Bool) (cause : Cause), c < 4 →
      let x := s.ctx c
      let r := s.link x.link
      let target := x.targetCode.getD 0
      let origin := (s.entry r.originEntry).code
      let confirm : Option Timer := some { start := s.board.time, len := r.options.confirm }
      let ended := s.ctxTxEnded c cmd ok cause
      let rewritten (y : Ctx) : State := { s with
        board := s.board.note [.link]
        moves := { s.moves with ctxs := put s.moves.ctxs c { y with edition := x.edition + 1 }, edition := s.moves.edition + 1 } }
      let relinked (u : State) (y : LinkRec) : State := { u with
        board := u.board.note [.link]
        links := { u.links with recs := put u.links.recs x.link { y with edition := r.edition + 1 }, edition := u.links.edition + 1 } }
      let revert : Ctx := { x with
        phase := .revertFar, confirmTimer := none, queryTimer := none, offer := some (.tuneFar r.channel origin)
        cause := if ok = true ∨ cause = .none then x.cause else cause }
      let retuning := rewritten { x with phase := .tuneFar, offer := some (.tuneFar r.channel target) }
      (x.phase = .muting → ok = true → x.abort = false → ended =
        if r.applied = .program ∧ r.retunedOnAir = false then relinked retuning { r with retunedOnAir := true } else retuning) ∧
      (x.phase = .muting → ok = true → x.abort = true → ended = rewritten { x with
        phase := .unmuting, outcome := .aborted, confirmTimer := none, queryTimer := none, offer := some (.muteLocal r.channel false) }) ∧
      (x.phase = .muting → ok = false → ended = if x.abort then s.endMove c .aborted .none else s.endMove c .unitFailed cause) ∧
      (x.phase = .tuneFar → ok = true → x.abort = false →
        ended = rewritten { x with phase := .tuneLocal, offer := some (.tuneLocal r.channel target) }) ∧
      (x.phase = .tuneLocal → ok = true → x.abort = false →
        ended = rewritten { x with phase := .confirm, confirmTimer := confirm, queryTimer := none, offer := some .query }) ∧
      (x.phase = .tuneFar ∨ x.phase = .tuneLocal → ok = false ∨ x.abort = true → ended = rewritten revert) ∧
      (x.phase = .confirm ∨ x.phase = .revertConfirm →
        ended = rewritten { x with queryTimer := some { start := s.board.time, len := 100 } }) ∧
      (x.phase = .revertFar → cmd ≠ .query → ok = true →
        ended = rewritten { x with phase := .revertLocal, offer := some (.tuneLocal r.channel origin) }) ∧
      (x.phase = .revertLocal → ok = true →
        ended = rewritten { x with phase := .revertConfirm, confirmTimer := confirm, queryTimer := none, offer := some .query }) ∧
      ((x.phase = .revertFar ∧ cmd ≠ .query) ∨ x.phase = .revertLocal → ok = false → ended =
        State.endMove (if r.kind = .camera then s else relinked s { r with mutePending := true }) c .adrift
          (if cause = .none then x.cause else cause)) ∧
      (x.phase = .unmuting → cmd ≠ .query → ended =
        State.endMove (if ok then s else relinked s { r with mutePending := true }) c x.outcome x.cause) ∧
      (x.phase = .revertFar ∨ x.phase = .unmuting → cmd = .query → ended = s)) ∧
   (∀ (s : State) (c : Nat) (o : Outcome) (cause : Cause), c < 4 → o ≠ .none → s.tablesOk → s.retuning = s.probe.autoHold →
      let x := s.ctx c
      let l := x.link
      let r := s.link l
      let retunes (p : Phase) : Bool := decide (p ≠ .free ∧ p ≠ .seeking ∧ p ≠ .held)
      let state : LinkState := if o = .adrift then .adrift else if retunes x.phase then .bound else r.state
      let noTimers : Bool := decide (state = .moving ∨ state = .mistuned ∨ state = .unitMissing ∨ state = .adrift ∨ state = .vacant)
      let hold : Bool := (List.range 4).any fun d => decide (d ≠ c) && retunes (s.ctx d).phase
      l < 32 → (∀ d < 4, d ≠ c → (s.ctx d).phase ≠ .free → (s.ctx d).link ≠ l) →
      (∀ t, x.targetEntry = some t → t < 48 ∧ t ≠ r.originEntry) → (x.targetEntry ≠ none → r.originEntry < 48) →
      let competes := ∃ m ∈ s.board.attention, s.slot m = .posted ∧ s.param m 1 = 18 ∧ x.slot ≠ some m
      ∃ u : State, (competes → s.endMove c o cause = u) ∧ (¬competes → s.endMove c o cause = u.serveRescues) ∧
        ((∀ m < 32, (s.link m).rescueTimer ≠ .waiting) → u.serveRescues = u) ∧
        (∀ t, x.targetEntry = some t → o = .ok →
          u.entry t = { s.entry t with status := .active, lock := (s.entry r.originEntry).lock, edition := (s.entry t).edition + 1 } ∧
          u.entry r.originEntry = { PlanEntry.free with edition := (s.entry r.originEntry).edition + 1 } ∧
          (∀ e < 48, e ≠ t → e ≠ r.originEntry → u.entry e = s.entry e) ∧
          u.plan = { s.plan with entries := u.plan.entries, edition := s.plan.edition + 2, refreshPending := true }) ∧
        (∀ t, x.targetEntry = some t → o ≠ .ok → o ≠ .adrift →
          u.entry t = { PlanEntry.free with edition := (s.entry t).edition + 1 } ∧ (∀ e < 48, e ≠ t → u.entry e = s.entry e) ∧
          u.plan = { s.plan with entries := u.plan.entries, edition := s.plan.edition + 1, refreshPending := true }) ∧
        (x.targetEntry = none ∨ o = .adrift → u.plan = s.plan) ∧
        u.link l = { r with
          outcome := o, moveOrigin := some x.origin, state := state, edition := r.edition + 1
          originEntry := if o = .ok then x.targetEntry.getD r.originEntry else r.originEntry
          targetEntry := if o = .adrift then r.targetEntry else none
          weakTimer := if noTimers then none else r.weakTimer, lossTimer := if noTimers then none else r.lossTimer
          rescueBarred := r.rescueBarred && decide (state = .weak)
          rescueTimer := if state ≠ .weak then .stopped
            else if r.options.rescue then .running { start := s.board.time, len := r.options.rescueTime } else r.rescueTimer } ∧
        (∀ m < 32, m ≠ l → u.link m = s.link m) ∧ u.links.edition = s.links.edition + 1 ∧ u.links.bindings = s.links.bindings ∧
        u.ctx c = { Ctx.free with edition := x.edition + 1 } ∧ (∀ d < 4, d ≠ c → u.ctx d = s.ctx d) ∧
        u.moves.edition = s.moves.edition + 1 ∧
        u.probe = (if s.probe.autoHold = hold then s.probe
          else if s.probe.state = .held ∧ s.probe.hostHold = false then
            match s.probe.phase with
            | .reference => { s.probe with
                autoHold := false, state := .calibrating, settleTimer := none, window := none, offer := some (.reference, 0) }
            | .sample => { s.probe with
                autoHold := false, state := .tuning, settleTimer := none, window := none, offer := some (.antenna, 8 * s.probe.cur + 4) }
          else { s.probe with autoHold := false }) ∧
        u.bus = { s.bus with inFlight := s.bus.inFlight.map fun (t : Tx) => if t.orig = .ctx c then { t with live := false } else t } ∧
        (state = r.state → u.talk = s.talk ∧ u.matrix = s.matrix ∧ u.lamps = s.lamps) ∧
        (state ≠ r.state → u.talk = (State.talkLinkChange { s with links := u.links } l).talk ∧
          u.matrix = (State.talkLinkChange { s with links := u.links } l).matrix ∧
          u.lamps = (State.lampStateChange { s with links := u.links } l).lamps) ∧
        (x.slot = none → u.board.slots = s.board.slots ∧ u.board.body = s.board.body) ∧
        (∀ m, x.slot = some m → m < 32 →
          let code : Result := match o with
            | .ok => if x.clamped then .clamped else .ok
            | .conflict => .conflict
            | .noChannel => .noChannel
            | .full => .full
            | .holdTimeout => .holdTimeout
            | .unitFailed => .unitFailed
            | .reverted => .reverted
            | .adrift => .adrift
            | .aborted => .aborted
            | .none => .ok
          let word (v : Option Nat) : Word := match v with
            | none => 0xFFFF#16
            | some y => BitVec.ofNat 16 y
          let reason : Option Nat := match x.target with
            | .auto _ _ _ => none
            | .code _ => if x.examined = 0 then none else some x.reason.ctorIdx
          u.slot m = .done ∧ (∀ k < 32, k ≠ m → u.slot k = s.slot k) ∧ u.slotWord m 3 = BitVec.ofNat 16 code.ctorIdx ∧
          u.slotWord m 10 = word x.targetEntry ∧ u.slotWord m 11 = word x.targetCode ∧ u.slotWord m 12 = BitVec.ofNat 16 x.examined ∧
          u.slotWord m 13 = word reason ∧ u.slotWord m 14 = BitVec.ofNat 16 cause.ctorIdx ∧
          u.slotWord m 15 = (if r.retunedOnAir then 1#16 else 0#16) + (if r.mutePending then 2#16 else 0#16)) ∧
        u.board.events.getLsbD 1 = true ∧ u.tally = s.tally ∧ u.lines = s.lines ∧ u.ref = s.ref ∧ u.pending = s.pending) ∧
   (∀ s : State,
      ((∀ c < 4, (s.ctx c).phase ≠ .free) → s.serveRescues = s) ∧
      (∀ l < 32, (s.link l).rescueTimer = .waiting → (∀ m < 32, m ≠ l → (s.link m).rescueTimer ≠ .waiting) →
        (∃ c < 4, (s.ctx c).phase = .free) → s.serveRescues = s.attemptRescue l))

/-- R78, R79: a binding at its commit and after it. The commit writes the record with the request's kind, studio, unit, channel, output, options and sources and the entry written, BOUND, or UNIT_MISSING if the unit is MISSING then, every other field VACANT, and offers TUNE_FAR with the origin code; a CAMERA link's head tally then waits (R138), a second rewrite (log entry 10); other link records stay. R69, R72: a unit that was UNUSED becomes UNKNOWN with role LINK and its counts 0, another keeps its state and counts, and an IDLE poller chooses at once. R128, R129: the resolver sets the override to NONE and computes the pending tally of the request's sources, and a CAMERA link's head-tally state is WAITING. R170, R171: an IEM link's programme part takes its values at binding and 0 is written into its programme crosspoint (TheOutputQueueAndTheSender says what a write does); at another kind neither changes. The end of TUNE_FAR offers TUNE_LOCAL whatever its result; the end of TUNE_LOCAL ends the binding and completes its slot UNIT_FAILED, PARTIAL, CLAMPED or OK with entry, code, candidates, reason and failure cause. -/
def Obligations.BindingsCommitThenTune : Prop :=
  ∀ s : State,
    (∀ (b : Binding) (l e code examined : Nat) (reason : Option Reason), l < 32 →
      (s.links.bindings.find? fun x => decide (x.link = l)) = some b →
      let u := s.bindingCommit l e code examined reason
      let rewrites : Word := if b.kind = .camera then 2 else 1
      let unused : Bool := decide ((s.unit b.unit).state = .unused)
      let fresh : UnitRec := { state := .unknown, role := .link, misses := 0, good := 0, failed := 0 }
      let named : Bus := { s.bus with units := if unused then put s.bus.units (b.unit - 1) fresh else s.bus.units }
      let eligible (a : Nat) : Prop := 1 ≤ a ∧ a ≤ 16 ∧ (look named.units (a - 1)).state ≠ .unused ∧ (look named.units (a - 1)).role = .link
      let asks (a : Nat) : Prop := u.bus = { named with poll := .asking, cursor := a, gapTimer := none, pollOffer := some a }
      let programme : Dest := { s.dest l with base := 0, offAir := 24, onAir := 12, rate := 4, current := 0, target := 0, talking := false, rampTimer := none }
      let held : LinkTally := { override := .none, pending := s.pendingFor .none b.sources, head := if b.kind = .camera then .waiting else .idle }
      let point (o : Nat) : Nat := 18 * o + if b.studio = .a then 16 else 17
      u.link l = { LinkRec.vacant with
        state := if (s.unit b.unit).state = .missing then .unitMissing else .bound
        kind := b.kind, studio := b.studio, unit := b.unit, channel := b.channel, output := b.output, originEntry := e
        options := b.options, sources := b.sources, edition := (s.link l).edition + rewrites, offer := some (.tuneFar b.channel code)
        headPending := decide (b.kind = .camera) } ∧
      (∀ m < 32, m ≠ l → u.link m = s.link m) ∧ u.links.edition = s.links.edition + rewrites ∧ u.board.events.getLsbD 1 = true ∧
      u.links.bindings = s.links.bindings.map (fun x => if x.link = l
        then { b with stage := .tuneFar, entry := e, code := code, examined := examined, reason := reason } else x) ∧
      (s.bus.poll ≠ .idle → u.bus = named) ∧
      (s.bus.poll = .idle →
        (∀ a, eligible a → s.bus.cursor < a → (∀ x, eligible x → s.bus.cursor < x → a ≤ x) → asks a) ∧
        (∀ a, eligible a → (∀ x, eligible x → a ≤ x) → (∀ x, eligible x → x ≤ s.bus.cursor) → asks a) ∧
        ((∀ a, ¬eligible a) → u.bus = { named with poll := .idle, gapTimer := none, pollOffer := none })) ∧
      (1 ≤ b.unit → b.unit ≤ 16 → u.unit b.unit = if unused then fresh else s.unit b.unit) ∧
      (∀ a, 1 ≤ a → a ≤ 16 → 1 ≤ b.unit → a ≠ b.unit → u.unit a = s.unit a) ∧
      u.tally = { s.tally with links := put s.tally.links l held } ∧
      (b.kind = .iem → u.talk = { s.talk with dests := put s.talk.dests l programme } ∧
        (b.output = none → u.matrix = s.matrix) ∧
        (∀ o, b.output = some o → u.matrix = (s.writePoint (point o) 0).matrix ∧
          (s.tablesOk → u.imageAt (point o) = 0 ∧ ∀ p, p ≠ point o → u.imageAt p = s.imageAt p))) ∧
      (b.kind ≠ .iem → u.talk = s.talk ∧ u.matrix = s.matrix) ∧ u.lamps = s.lamps ∧ u.board.slots = s.board.slots ∧ u.board.body = s.board.body ∧
      u.plan = s.plan ∧ u.moves = s.moves ∧ u.lines = s.lines ∧ u.ref = s.ref ∧ u.probe = s.probe) ∧
    (∀ (b : Binding) (ok : Bool) (cause : Cause),
      (b.stage = .tuneFar → s.bindingTuned b ok cause = { s with links := { s.links with
        recs := put s.links.recs b.link { s.link b.link with offer := some (.tuneLocal b.channel b.code) }
        bindings := s.links.bindings.map fun x => if x.link = b.link
          then { x with stage := .tuneLocal, farCause := if ok then .none else cause } else x } }) ∧
      (b.stage = .tuneLocal → s.bindingTuned b ok cause = State.complete
        { s with links := { s.links with bindings := s.links.bindings.filter fun x => decide (x.link ≠ b.link) } } b.slot
        (if ok = false then .unitFailed else if b.farCause ≠ .none then .partialBind else if b.clamped then .clamped else .ok)
        [(8, BitVec.ofNat 16 b.entry), (9, BitVec.ofNat 16 b.code), (10, BitVec.ofNat 16 b.examined),
         (11, match b.reason with | none => 0xFFFF#16 | some y => BitVec.ofNat 16 y.ctorIdx),
         (12, BitVec.ofNat 16 (if ok then b.farCause else cause).ctorIdx)]))

/-! ## Receive lines (chapter 7) -/

/-- R115, R116: SET_LINE's checks; an enabled line keeps its rate, parity, stop bits and filter and takes the enable and the times, and completes LINE_ACTIVE where one of the four would differ, whether it stays on or is switched off; a line switched on is NEVER_HEARD with both timers stopped and its receiver waiting for one bit time of mark; a line switched off is DISABLED with its timers stopped, and on a tally line its whole source table becomes OFF; on the panel line (R124, R160, R165) every PRESSED or HANGING key deactivates, in ascending place, leaving its destinations, whose slots go to the heads of their wait lists and whose talk crosspoints and ducking follow, while a LATCHED key stays active. A request that changes nothing is no rewrite. Result order as R115: LINE_ACTIVE over CLAMPED over OK. One rewrite for a change of configuration and state together is the model's choice (log entry 10), as is what a receiver has seen as it is switched on or off (log entry 22). -/
def Obligations.SetLineConfiguresOneLine : Prop :=
  ∀ (n : Nat) (s : State), n < 32 → s.takesNext n 20 = true →
    let p := s.param n
    let i := p 4
    let r := s.line i
    let clear := s.param32 n 11
    let bad := 2 < i ∨ 1 < p 5 ∨ 4 < p 6 ∨ 2 < p 7 ∨ p 8 = 0 ∨ 2 < p 8 ∨ 2 < p 9
    let parity : Parity := if p 7 = 0 then .none else if p 7 = 1 then .even else .odd
    let filter : NoiseFilter := if p 9 = 0 then .off else if p 9 = 1 then .short else .long
    let on := decide (p 5 = 1)
    let timed : Line := { r with enable := on, staleTime := max 100 (min 10000 (p 10)), staleClear := max 1000 (min 600000 clear) }
    let code : Result := if p 10 < 100 ∨ 10000 < p 10 ∨ clear < 1000 ∨ 600000 < clear then .clamped else .ok
    let differs : Prop := r.rate ≠ p 6 ∨ r.parity ≠ parity ∨ r.stopBits ≠ p 8 ∨ r.filter ≠ filter
    let wrote (t : Line) (x : Result) : Host.Outcome State Fault Refusal := .next (State.settle (
      if t = r then s.answered n x []
      else { s with lines := { s.lines with recs := put s.lines.recs i { t with edition := r.edition + 1 }, edition := s.lines.edition + 1 }
                    board := s.board.note [.line] }.answered n x []))
    (bad → exec (.setLine n) s = .next (s.answered n .badField []).settle) ∧
    (¬bad → r.enable = true → on = true → exec (.setLine n) s = wrote timed (if differs then .lineActive else code)) ∧
    (¬bad → r.enable = false → exec (.setLine n) s = wrote
      (if on then { timed with rate := p 6, parity := parity, stopBits := p 8, filter := filter, state := .neverHeard, decoder := .hunt,
                               staleTimer := none, clearTimer := none, rx := Receiver.off }
       else { timed with rate := p 6, parity := parity, stopBits := p 8, filter := filter }) code) ∧
    (¬bad → r.enable = true → on = false → ∃ u : State, exec (.setLine n) s = .next u.settle ∧
      u.line i = { timed with
        state := .disabled, decoder := .hunt, held := false, staleTimer := none, clearTimer := none, rx := Receiver.off, edition := r.edition + 1 } ∧
      (∀ j < 3, j ≠ i → u.line j = s.line j) ∧ u.lines.edition = s.lines.edition + 1 ∧ u.board.events.getLsbD 6 = true ∧ u.slot n = .done ∧
      (s.tablesOk → u.slotWord n 3 = BitVec.ofNat 16 (if differs then Result.lineActive else code).ctorIdx) ∧
      (i < 2 → (∀ k < 128, look u.tally.sources k = if k / 64 = i then .off else look s.tally.sources k) ∧ u.talk = s.talk ∧ u.matrix = s.matrix ∧
        (∀ l < 32, (s.link l).state ≠ .vacant → (∃ x ∈ (s.link l).sources, x.1 = i) → (∃ k < 128, k / 64 = i ∧ look s.tally.sources k ≠ .off) →
          (u.linkTally l).pending = u.pendingFor (s.linkTally l).override (s.link l).sources)) ∧
      (i = 2 → u.tally = s.tally ∧ s.Deactivated u ((List.range 192).filter fun q => decide ((s.key q).activity = .pressed ∨ (s.key q).activity = .hanging))) ∧
      u.links = s.links ∧ u.plan = s.plan ∧ u.probe = s.probe ∧ u.bus = s.bus ∧ u.moves = s.moves ∧ u.lamps = s.lamps ∧ u.ref = s.ref)

/-- R116 to R119: what a line's receiver makes of the levels it samples, 16 a bit time. A character of start bit, data bits, parity bit (where the line has one) and stop bits, sent after one bit time of mark to a receiver that is not in the middle of one, is judged once: with the checked stop bit (the second of two) at space it is a framing error, counted and discarded, the decoder back in HUNT; otherwise with a parity that disagrees a parity error, likewise; otherwise it is the good byte of DISCARDED_BYTE. A line that then stays at space gives no further byte, however long it stays; held at space for longer than a byte, a break, wherever in the character it began, it leaves the receiver waiting for mark. A receiver that waits, after a break or just enabled, takes nothing in less than a bit time. A pulse shorter than the filter's samples, and a start bit back at mark by its middle, leave no trace. A good byte is the marker that starts a frame, or is discarded and counted in HUNT, or is collected. On a disabled line nothing is received. The middle of a bit as its ninth sample, and the rest of how samples are counted, are the model's choice (log entries 8 and 22). -/
def Obligations.CharactersAreJudgedThenDecoded : Prop :=
  ∀ (s : State) (i : Nat) (b : Byte), i < 3 → s.board.ready = true →
    let r := s.line i
    let sampled (levels : List Bool) : Host.Outcome State Fault Refusal := exec (.receiveByteError i levels) s
    let leaves (t : Line) : Host.Outcome State Fault Refusal := .next { s with lines := { s.lines with recs := put s.lines.recs i t } }
    let marker : Byte := if i = 2 then 0xE2#8 else 0xE1#8
    (r.enable = false → (∀ levels, sampled levels = .next s) ∧ exec (.discardedByte i b) s = .next s ∧ exec (.frameMarkerByte i) s = .next s) ∧
    (∀ parityBit first second : Bool, r.enable = true → r.rx.atRest → (r.stopBits = 1 ∨ r.stopBits = 2) →
      let bits := r.bits b parityBit (if r.stopBits = 2 then [first, second] else [first])
      let checked := if r.stopBits = 2 then second else first
      let ones := ((List.range 8).filter fun k => b.getLsbD k).length + (if parityBit then 1 else 0)
      let wrong := (r.parity = .even ∧ ones % 2 = 1) ∨ (r.parity = .odd ∧ ones % 2 = 0)
      let heard := sampled (bitTimes (true :: bits))
      (checked = false → ∀ k : Nat, ∃ x : Receiver, x.level = false ∧ x.run = 0 ∧
        sampled (bitTimes (true :: bits) ++ List.replicate k false) = leaves { r with
          framingErrors := satInc r.framingErrors, decoder := .hunt, rx := x } ∧
        (k = 0 → x.phase = .idle) ∧ (16 * bits.length ≤ k → x.phase = .waiting 0)) ∧
      (checked = true → wrong → heard = leaves { r with parityErrors := satInc r.parityErrors, decoder := .hunt, rx := Receiver.ready }) ∧
      (checked = true → ¬wrong → heard = exec (.discardedByte i b) s)) ∧
    (∀ k : Nat, r.enable = true → r.rx.level = false → r.rx.run = 0 → r.rx.phase = .waiting 0 →
      ∃ n : Nat, sampled (List.replicate k false) = leaves { r with rx := { r.rx with spaces := n } }) ∧
    (∀ levels : List Bool, r.enable = true → r.rx.phase = .waiting 0 → levels.length < 16 →
      ∃ (x : Receiver) (m : Nat), x.phase = .waiting m ∧ sampled levels = leaves { r with rx := x }) ∧
    (∀ k : Nat, r.enable = true → r.rx = Receiver.ready →
      (k < (match r.filter with
        | .off => 1
        | .short => 2
        | .long => 4) → sampled (List.replicate k false ++ [true]) = .next s) ∧
      (k ≤ 8 → sampled (List.replicate k false ++ List.replicate 16 true) = .next s)) ∧
    (r.enable = true → r.decoder = .hunt → b ≠ marker →
      exec (.discardedByte i b) s = leaves { r with discarded := satInc r.discarded, rx := Receiver.ready }) ∧
    (r.enable = true → r.decoder = .hunt → exec (.frameMarkerByte i) s = leaves { r with decoder := .collecting [], rx := Receiver.ready }) ∧
    (∀ bs, r.enable = true → r.decoder = .collecting bs → bs.length < 2 →
      exec (.discardedByte i b) s = leaves { r with decoder := .collecting (bs ++ [b]), rx := Receiver.ready } ∧
      exec (.frameMarkerByte i) s = leaves { r with decoder := .collecting (bs ++ [marker]), rx := Receiver.ready })

/-- R119, R120, R122, R123, R126: a tally frame on an enabled line whose decoder hunts, or has just taken the marker. A wrong check byte, a source above 64 or a level above 3 counts one frame error and drops the frame; a good frame counts, restarts the stale timer, makes the line ACTIVE (a rewrite that clears held and stops the stale-clear timer), and writes its level into the source's entry of the line's table, a changed level counting in the tally region edition, setting EVENTS.TALLY and recomputing the pending tally of the bound links that name the source; a keepalive writes nothing. R121, R156: a panel frame on line 2, enabled and hunting or with its marker taken: a wrong check byte, a station 16 to 126 or above 127, or a key byte outside the two ranges counts one frame error; a frame with a station 0 to 15 or the keepalive 0x7F and a key byte 0 to 11 or 0x80 to 0x8B, makes the line ACTIVE with its stale timer restarted and then acts as the key event it carries, down when bit 7 is set; a keepalive acts on no key. A frame row that meets a decoder in COLLECTING is its three bytes, one after the other (log entry 8). -/
def Obligations.TallyAndPanelFrames : Prop :=
   (∀ (s : State) (i : Nat) (src lev check : Byte), i < 2 → s.board.ready = true → (s.line i).enable = true → ((s.line i).decoder = .hunt ∨ (s.line i).decoder = .collecting []) →
      let r := { s.line i with decoder := .hunt, rx := Receiver.ready }
      let place := 64 * i + src.toNat - 1
      let level : Tally := match lev.toNat with
        | 0 => .off
        | 1 => .iso
        | 2 => .preview
        | _ => .program
      (check ≠ 255#8 - (src + lev) ∨ 64 < src.toNat ∨ 3 < lev.toNat → exec (.frameError i src lev check) s = .next
        { s with lines := { s.lines with recs := put s.lines.recs i { r with frameErrors := satInc r.frameErrors } } }) ∧
      exec (.tallyFrame i src lev) s = exec (.frameError i src lev (255#8 - (src + lev))) s ∧
      (src.toNat ≤ 64 → lev.toNat ≤ 3 → ∃ u : State, exec (.tallyFrame i src lev) s = .next u ∧
        u.line i = { r with
          good := satInc r.good, lastGood := s.board.time, staleTimer := some { start := s.board.time, len := r.staleTime }, clearTimer := none
          state := .active, held := if r.state = .active then r.held else false, edition := if r.state = .active then r.edition else r.edition + 1 } ∧
        (src = 0 → u.tally = s.tally) ∧
        (src ≠ 0 → (∀ k < 128, look u.tally.sources k = if k = place then level else look s.tally.sources k) ∧
          u.tally.edition = (if look s.tally.sources place = level then s.tally.edition else s.tally.edition + 1) ∧
          (look s.tally.sources place ≠ level → u.board.events.getLsbD 4 = true ∧
            ∀ l < 32, (s.link l).state ≠ .vacant → (i, src.toNat) ∈ (s.link l).sources →
              (u.linkTally l).pending = u.pendingFor (s.linkTally l).override (s.link l).sources)) ∧
        (∀ j < 3, j ≠ i → u.line j = s.line j) ∧ u.links = s.links ∧ u.plan = s.plan ∧ u.probe = s.probe ∧ u.bus = s.bus ∧ u.moves = s.moves ∧
        u.ref = s.ref ∧ u.lamps = s.lamps ∧ u.talk = s.talk ∧ u.matrix = s.matrix ∧ u.board.slots = s.board.slots)) ∧
   (∀ (s : State) (station key check : Byte), s.board.ready = true → (s.line 2).enable = true →
      ((s.line 2).decoder = .hunt ∨ (s.line 2).decoder = .collecting []) →
      let r := { s.line 2 with decoder := .hunt, rx := Receiver.ready }
      (check ≠ 255#8 - (station + key) ∨ (15 < station.toNat ∧ station ≠ 0x7F#8) ∨ (11 < key.toNat ∧ key.toNat < 128) ∨ 139 < key.toNat →
        exec (.frameError 2 station key check) s = .next
          { s with lines := { s.lines with recs := put s.lines.recs 2 { r with frameErrors := satInc r.frameErrors } } }) ∧
      exec (.panelFrame station key) s = exec (.frameError 2 station key (255#8 - (station + key))) s) ∧
   (∀ (s : State) (i : Nat) (b1 b2 check : Byte) (bs : List Byte), i < 3 → s.board.ready = true → (s.line i).decoder = .collecting bs →
      ∃ t1 t2 t3 : State, exec (.discardedByte i b1) s = .next t1 ∧ exec (.discardedByte i b2) t1 = .next t2 ∧
        exec (.discardedByte i check) t2 = .next t3 ∧ exec (.frameError i b1 b2 check) s = .next t3) ∧
   (∀ (s : State) (station key : Byte), s.board.ready = true → (s.line 2).enable = true → ((s.line 2).decoder = .hunt ∨ (s.line 2).decoder = .collecting []) →
      (station.toNat ≤ 15 ∨ station = 0x7F#8) → (key.toNat ≤ 11 ∨ (128 ≤ key.toNat ∧ key.toNat ≤ 139)) →
      let r := { s.line 2 with decoder := .hunt, rx := Receiver.ready }
      let line : Line := { r with
        good := satInc r.good, lastGood := s.board.time, staleTimer := some { start := s.board.time, len := r.staleTime }, clearTimer := none
        state := .active, held := if r.state = .active then r.held else false, edition := if r.state = .active then r.edition else r.edition + 1 }
      let heard : State := { s with
        lines := { s.lines with recs := put s.lines.recs 2 line, edition := if r.state = .active then s.lines.edition else s.lines.edition + 1 }
        board := s.board.note (if r.state = .active then [] else [.line]) }
      exec (.panelFrame station key) s = .next (
        if station = 0x7F#8 then heard
        else heard.keyEvent station.toNat (if 128 ≤ key.toNat then key.toNat - 128 else key.toNat) (decide (128 ≤ key.toNat))))

/-- R122 to R124, R127, R160, R165: the stale timer's expiry makes the line STALE and its decoder hunt; a tally line holds its table and starts the stale-clear timer; the panel line releases every PRESSED or HANGING key: in ascending place each deactivates, its timers stopped, and leaves its destinations, whose slots go to the heads of their wait lists and whose talk crosspoints and ducking follow; LATCHED keys stay active, and every key that stays active is summarised anew. The stale-clear timer's expiry sets the line's whole table to OFF and clears held, the line staying STALE; if an entry was not OFF, the tally region counts one rewrite, EVENTS.TALLY is set and the pending tally of each bound link that names a source of the line is recomputed. A talk event's records counted once each is the model's choice (log entry 10). -/
def Obligations.StaleLinesHoldThenClear : Prop :=
  ∀ (s : State) (i : Nat) (tm : Timer), i < 3 → s.board.ready = true → tm.len ≤ (s.board.time - tm.start).toNat →
    let r := s.line i
    let wrote (t : Line) : State := { s with
      lines := { s.lines with recs := put s.lines.recs i { t with edition := r.edition + 1 }, edition := s.lines.edition + 1 }
      board := s.board.note [.line] }
    let blank : Bool := (List.range 64).all fun k => decide (look s.tally.sources (64 * i + k) = .off)
    (r.staleTimer = some tm → i < 2 → exec (.staleTimerExpiry i) s = .next (wrote { r with
      state := .stale, decoder := .hunt, held := true, staleTimer := none, clearTimer := some { start := s.board.time, len := r.staleClear } })) ∧
    (r.staleTimer = some tm → i = 2 → ∃ u : State, exec (.staleTimerExpiry i) s = .next u ∧
      u.lines = (wrote { r with state := .stale, decoder := .hunt, held := false, staleTimer := none, clearTimer := none }).lines ∧
      s.Deactivated u ((List.range 192).filter fun q => decide ((s.key q).activity = .pressed ∨ (s.key q).activity = .hanging)) ∧
      u.tally = s.tally ∧ u.links = s.links ∧ u.plan = s.plan ∧ u.bus = s.bus ∧ u.moves = s.moves ∧ u.lamps = s.lamps ∧
      u.probe = s.probe ∧ u.ref = s.ref) ∧
    (r.clearTimer = some tm → i < 2 → ∃ u : State, exec (.staleClearExpiry i) s = .next u ∧
      u.lines = (wrote { r with held := false, clearTimer := none }).lines ∧
      (∀ k < 128, look u.tally.sources k = if k / 64 = i then .off else look s.tally.sources k) ∧
      u.tally.edition = (if blank then s.tally.edition else s.tally.edition + 1) ∧
      u.board = s.board.note (if blank then [.line] else [.tally, .line]) ∧
      (∀ l < 32, u.linkTally l = if blank = false ∧ (s.link l).state ≠ .vacant ∧ (s.link l).sources.any (fun x => decide (x.1 = i)) = true
        then { s.linkTally l with pending := u.pendingFor (s.linkTally l).override (s.link l).sources } else s.linkTally l) ∧
      u.matrix = s.matrix ∧ u.probe = s.probe ∧ u.ref = s.ref ∧
      u.links = s.links ∧ u.plan = s.plan ∧ u.bus = s.bus ∧ u.talk = s.talk ∧ u.moves = s.moves ∧ u.lamps = s.lamps)

/-! ## Tally and reference (chapter 8) -/

/-- R129, R131, R132: SET_TALLY_SOURCES and SET_TALLY_OVERRIDE, with their checks and reports. An accepted source list is written (a change is a rewrite of the link record), an accepted override is held, and the pending tally is recomputed: the level an override forces, or else the highest level among the link's sources, OFF with none. The applied tally does not change. -/
def Obligations.TallyRequestsSetThePendingTally : Prop :=
  ∀ (n : Nat) (s : State), n < 32 →
    let p := s.param n
    let l := p 4
    let r := s.link l
    let source (k : Nat) : Nat × Nat := (p (6 + k) / 256, p (6 + k) % 256)
    let sources := (List.range (p 5)).map source
    let bad := 4 < p 5 ∨ (∃ k < p 5, 1 < (source k).1 ∨ (source k).2 = 0 ∨ 64 < (source k).2) ∨ 31 < l
    let held (x : Nat × Nat) : Tally := look s.tally.sources (64 * x.1 + x.2 - 1)
    let forced (o : Nat) : Option Tally := if o = 1 then some .off else if o = 2 then some .iso else if o = 3 then some .preview else if o = 4 then some .program else none
    let refuse (c : Instr) (x : Result) (ws : List (Nat × Word)) : Prop := exec c s = .next (s.answered n x ws).settle
    let none2 : List (Nat × Word) := [(10, 0xFFFF#16), (11, 0xFFFF#16)]
    let none3 : List (Nat × Word) := [(6, 0xFFFF#16), (7, 0xFFFF#16), (8, 0xFFFF#16)]
    let written : Links :=
      { s.links with recs := put s.links.recs l { r with sources := sources, edition := r.edition + 1 }, edition := s.links.edition + 1 }
    (s.takesNext n 21 = true → (bad → refuse (.setTallySources n) .badField none2) ∧
      (¬bad → r.state = .vacant → refuse (.setTallySources n) .notBound none2) ∧
      (¬bad → r.state ≠ .vacant → ∃ t : Tally,
        ((s.linkTally l).override = .none → (∀ x ∈ sources, (held x).ctorIdx ≤ t.ctorIdx) ∧ (t = .off ∨ ∃ x ∈ sources, held x = t)) ∧
        (∀ f, forced (s.linkTally l).override.ctorIdx = some f → t = f) ∧
        exec (.setTallySources n) s = .next (State.settle (
          { s with
            tally := { s.tally with links := put s.tally.links l { s.linkTally l with pending := t } }
            links := if r.sources = sources then s.links else written
            board := s.board.note (if r.sources = sources then [] else [.link]) }.answered n .ok
          [(10, BitVec.ofNat 16 t.ctorIdx), (11, BitVec.ofNat 16 r.applied.ctorIdx)])))) ∧
    (s.takesNext n 22 = true → (4 < p 5 ∨ 31 < l → refuse (.setTallyOverride n) .badField none3) ∧
      (p 5 ≤ 4 → l ≤ 31 → r.state = .vacant → refuse (.setTallyOverride n) .notBound none3) ∧
      (p 5 ≤ 4 → l ≤ 31 → r.state ≠ .vacant → ∃ (o : Override) (t : Tally), o.ctorIdx = p 5 ∧
        (∀ f, forced (p 5) = some f → t = f) ∧
        (p 5 = 0 → (∀ x ∈ r.sources, (held x).ctorIdx ≤ t.ctorIdx) ∧ (t = .off ∨ ∃ x ∈ r.sources, held x = t)) ∧
        exec (.setTallyOverride n) s = .next (State.settle (
          { s with tally := { s.tally with links := put s.tally.links l { s.linkTally l with override := o, pending := t } } }.answered n .ok
          [(6, BitVec.ofNat 16 (s.linkTally l).override.ctorIdx), (7, BitVec.ofNat 16 t.ctorIdx), (8, BitVec.ofNat 16 r.applied.ctorIdx)]))))

/-- R134 to R137: a reference pulse, the loss timer's expiry and the synthetic timer's expiry are each one frame event: the frame counter increments (wrapping) and every bound link's applied tally takes its pending value, EVENTS.TALLY being set when one changed. The pulse makes a LOST reference LOCKED and restarts the loss timer; the loss makes it LOST and starts the synthetic timer of 40 ms; each change of state sets EVENTS.REF. Pending tallies, source tables and the plan stay. R137, R138, R144, R110, R173: each change is handed on: the lamps naming the link take the new level (LampsFollowLinksFadesAndBlinks), an IDLE head tally of a CAMERA link becomes WAITING, a link retuning on its way to a new code that goes to PROGRAM records RETUNED_ON_AIR, and an IEM link whose tally enters or leaves PROGRAM has its programme target and ramp timer recomputed, its current value staying (stated with no move in HELD). R98: a change lets a move in HELD go when the link is then below PROGRAM or the move URGENT, and its other conditions hold; otherwise the context stays as it is. That the link record counts one rewrite for the tally and one for each of these flags is the model's choice (log entry 10). -/
def Obligations.FrameEventsApplyThePendingTally : Prop :=
  ∀ s : State, s.board.ready = true →
    let changed := ∃ l < 32, (s.link l).state ≠ .vacant ∧ (s.link l).applied ≠ (s.linkTally l).pending
    let frame (u : State) : Prop := u.ref.frames = s.ref.frames + 1 ∧
      (∀ l < 32, (u.link l).applied = if (s.link l).state = .vacant then (s.link l).applied else (s.linkTally l).pending) ∧
      (∀ l < 32, (u.linkTally l).pending = (s.linkTally l).pending ∧ (u.linkTally l).override = (s.linkTally l).override) ∧
      u.tally.sources = s.tally.sources ∧ u.tally.edition = s.tally.edition ∧ u.plan = s.plan ∧ u.lines = s.lines ∧
      u.board.slots = s.board.slots ∧ (changed → u.board.events.getLsbD 4 = true) ∧
      (¬changed → u.links = s.links ∧ u.lamps = s.lamps ∧ u.moves = s.moves ∧ u.talk = s.talk ∧ u.matrix = s.matrix ∧ u.bus = s.bus ∧
        u.board.events.getLsbD 4 = s.board.events.getLsbD 4)
    let differs (l : Nat) : Bool := decide ((s.link l).state ≠ .vacant ∧ (s.linkTally l).pending ≠ (s.link l).applied)
    let released (u : State) : Prop := ∀ c < 4, (s.ctx c).phase = .held → (s.ctx c).link < 32 → s.ctxOf (s.ctx c).link = some c →
      let x := s.ctx c
      let r := s.link x.link
      let goes : Bool := differs x.link && (decide ((s.linkTally x.link).pending ≠ .program) || x.urgent) &&
        decide (r.state = .live ∨ r.state = .weak ∨ r.state = .mistuned) && (!x.manualGo || x.go)
      (goes = false → u.ctx c = x ∧ (u.link x.link).state = r.state) ∧
      (goes = true → (u.link x.link).state = .moving ∧ (u.ctx c).holdTimer = none ∧
        (r.kind ≠ .camera → (u.ctx c).phase = .muting ∧ (u.ctx c).offer = some (.muteLocal r.channel true)) ∧
        (r.kind = .camera → (u.ctx c).phase = .tuneFar ∧ (u.ctx c).offer = some (.tuneFar r.channel (x.targetCode.getD 0))))
    let handed (u : State) : Prop := released u ∧ ((∀ c < 4, (s.ctx c).phase ≠ .held) →
      u.lamps = (((List.range 32).filter differs).foldl State.lampLevelChange { s with links := u.links }).lamps ∧
      u.moves = s.moves ∧ u.probe = s.probe ∧ u.bus = s.bus ∧ u.matrix = s.matrix ∧
      (∀ l < 32, differs l = false → u.link l = s.link l ∧ u.linkTally l = s.linkTally l ∧ u.dest l = s.dest l) ∧
      (∀ l < 32, differs l = true →
        let r := s.link l
        let level := (s.linkTally l).pending
        let head : Bool := decide (r.kind = .camera ∧ (s.linkTally l).head = .idle)
        let onAir : Bool := decide (level = .program) && match s.ctxOf l with
          | none => false
          | some c => decide ((s.ctx c).phase = .tuneFar ∨ (s.ctx c).phase = .tuneLocal ∨ (s.ctx c).phase = .confirm)
        let rewrites := 1 + (if onAir && !r.retunedOnAir then 1 else 0) + if head && !r.headPending then 1 else 0
        u.link l = { r with
          applied := level, retunedOnAir := r.retunedOnAir || onAir, headPending := r.headPending || head
          edition := r.edition + BitVec.ofNat 16 rewrites } ∧
        (u.linkTally l).head = (if head then .waiting else (s.linkTally l).head) ∧
        let d := s.dest l
        let target := if d.base = 127 then 127
          else if d.talking then min 126 (d.base + if level = .program then d.onAir else d.offAir) else d.base
        let timer := if d.current ≠ 127 ∧ target ≠ 127 ∧ d.current ≠ target
          then (if d.rampTimer.isSome then d.rampTimer else some { start := s.board.time, len := 10 }) else none
        u.dest l = if r.kind = .iem ∧ (r.applied = .program ∨ level = .program)
          then { d with target := target, rampTimer := timer } else d))
    (∃ u : State, exec .referencePulse s = .next u.settle ∧ frame u ∧ handed u ∧ u.ref.locked = true ∧
      u.ref.lossTimer = some { start := s.board.time, len := 50 } ∧ (s.ref.locked = false → u.ref.synthTimer = none ∧ u.board.events.getLsbD 7 = true)) ∧
    (∀ tm, s.ref.lossTimer = some tm → tm.len ≤ (s.board.time - tm.start).toNat →
      ∃ u : State, exec .refLossTimerExpiry s = .next u.settle ∧ frame u ∧ handed u ∧ u.ref.locked = false ∧ u.ref.lossTimer = none ∧
        u.ref.synthTimer = some { start := s.board.time, len := 40 } ∧ u.board.events.getLsbD 7 = true) ∧
    (∀ tm, s.ref.synthTimer = some tm → tm.len ≤ (s.board.time - tm.start).toNat →
      ∃ u : State, exec .syntheticTimerExpiry s = .next u.settle ∧ frame u ∧ handed u ∧ u.ref.locked = s.ref.locked ∧ u.ref.lossTimer = s.ref.lossTimer ∧
        u.ref.synthTimer = some { start := s.board.time, len := 40 })

/-! ## Lamp outputs (chapter 9) -/

/-- R143, R144, R148, R152: SET_LAMP's checks and clamps; a written request decides the lamp afresh, fade and blink cancelled: OFF with duty 0 for mode OFF, TEST with duty 64 during a lamp test, BLINKING from its on phase under an alarm, STEADY at its target duty otherwise; it is one rewrite, and reports the new state and duty. An alarm enable above 1, taken as 1 and counted for CLAMPED, is the model's choice (log entry 15). -/
def Obligations.SetLampDecidesTheLampAfresh : Prop :=
  ∀ (n : Nat) (s : State), n < 32 → s.takesNext n 23 = true →
    let p := s.param n
    let i := p 4
    let l := if p 6 ≤ 31 then p 6 else 0
    let r := s.link l
    let d (w : Nat) : Nat := min 64 (p w)
    let mode : LampMode := if p 5 = 0 then .off else if p 5 = 1 then .link else .fixed
    let level : Tally := if r.state = .vacant then .off else r.applied
    let target := if p 5 = 0 then 0 else if p 5 = 2 then d 11 else match level with
      | .off => d 7
      | .iso => d 8
      | .preview => d 9
      | .program => d 10
    let alarm := decide (p 5 = 1 ∧ p 13 ≠ 0 ∧ r.applied = .program ∧ (r.state = .lost ∨ r.state = .unitMissing ∨ r.state = .mistuned ∨ r.state = .adrift))
    let testing := s.lamps.testTimer.isSome
    let old := s.lamp i
    let state : LampState := if p 5 = 0 then .off else if testing then .test else if alarm then .blinking else .steady
    let duty := if p 5 = 0 then 0 else if testing then 64 else if alarm then d 10 else target
    let new : Lamp := { old with
      mode := mode, link := l, dutyOff := d 7, dutyIso := d 8, dutyPreview := d 9, dutyProgram := d 10, fixed := d 11, fadeN := min 16 (p 12)
      alarm := decide (p 13 ≠ 0), inverted := decide (p 14 = 1), state := state, target := target, duty := duty, fadeTimer := none
      blinkOn := if state = .blinking then true else old.blinkOn
      blinkTimer := if state = .blinking then some { start := s.board.time, len := 250 } else none, edition := old.edition + 1 }
    exec (.setLamp n) s = .next (State.settle (
      if 2 < p 5 ∨ 23 < i ∨ 1 < p 14 ∨ (p 5 = 1 ∧ 31 < p 6) then s.answered n .badField [(15, 0xFFFF#16), (16, 0xFFFF#16)]
      else { s with lamps := { s.lamps with recs := put s.lamps.recs i new, edition := s.lamps.edition + 1 } }.answered n
        (if 64 < p 7 ∨ 64 < p 8 ∨ 64 < p 9 ∨ 64 < p 10 ∨ 64 < p 11 ∨ 16 < p 12 ∨ 1 < p 13 then .clamped else .ok)
        [(15, BitVec.ofNat 16 state.ctorIdx), (16, BitVec.ofNat 16 duty)]))

/-- R150, R151: LAMP_TEST ON starts a test (every lamp whose mode is not OFF becomes TEST with duty 64, a rewrite of each) or restarts its timer with no rewrite; STOP and the test timer's expiry end it, every lamp in TEST becoming BLINKING under its alarm and STEADY at its target duty otherwise. The request reports whether a test was in progress and the lamps in TEST after it. A duration of 0 or absent is 10 s, one above 60 is clamped. The model's choices: a duration of 0xFFFF read as absent (log entry 15), and a refused request's word 6 written 0xFFFF (log entry 11). -/
def Obligations.LampTestCoversEveryLampNotOff : Prop :=
  ∀ (n : Nat) (s : State), n < 32 →
    let secs := s.param n 5
    let dur := if secs = 0 ∨ secs = 0xFFFF then 10 else min 60 secs
    let before : Word := if s.lamps.testTimer.isSome then 1 else 0
    let rest (u : State) : Prop := u.plan = s.plan ∧ u.links = s.links ∧ u.bus = s.bus ∧ u.talk = s.talk ∧ u.matrix = s.matrix ∧ u.lines = s.lines
    let ended (u : State) : Prop := u.lamps.testTimer = none ∧ ∀ i < 24, let x := s.lamp i
      u.lamp i = if x.state ≠ .test then x
        else if x.alarms (s.link x.link) then
          { x with state := .blinking, duty := x.dutyProgram, fadeTimer := none, blinkOn := true
                   blinkTimer := some { start := s.board.time, len := 250 }, edition := x.edition + 1 }
        else { x with state := .steady, duty := x.target, fadeTimer := none, blinkTimer := none, edition := x.edition + 1 }
    (s.takesNext n 24 = true → s.tablesOk →
      (1 < s.param n 4 → exec (.lampTest n) s = .next (s.answered n .badField [(6, 0xFFFF#16), (7, 0#16)]).settle) ∧
      (s.param n 4 = 1 → ∃ u : State, exec (.lampTest n) s = .next u.settle ∧ rest u ∧ u.slot n = .done ∧
        u.lamps.testTimer = some { start := s.board.time, len := 1000 * dur } ∧
        (∀ i < 24, u.lamp i = if s.lamps.testTimer.isSome ∨ (s.lamp i).mode = .off then s.lamp i
          else { s.lamp i with state := .test, duty := 64, fadeTimer := none, blinkTimer := none, edition := (s.lamp i).edition + 1 }) ∧
        u.slotWord n 3 = (if secs ≠ 0xFFFF ∧ 60 < secs then 1 else 0) ∧ u.slotWord n 6 = before ∧
        u.slotWord n 7 = BitVec.ofNat 16 ((List.range 24).filter fun i => decide ((u.lamp i).state = .test)).length) ∧
      (s.param n 4 = 0 → ∃ u : State, exec (.lampTest n) s = .next u.settle ∧ rest u ∧ u.slot n = .done ∧ u.slotWord n 6 = before ∧
        (s.lamps.testTimer.isSome = true → ended u) ∧ (s.lamps.testTimer = none → u.lamps = s.lamps))) ∧
    (∀ tm, s.board.ready = true → s.lamps.testTimer = some tm → tm.len ≤ (s.board.time - tm.start).toNat →
      ∃ u : State, exec .lampTestExpiry s = .next u ∧ rest u ∧ ended u)

/-- R146: a fade step. The duty becomes Dt + floor((D0 - Dt)(8 - k) / 8); after steps 1 to 7 the timer restarts for n x 10 ms, after step 8 the lamp is STEADY at Dt, a rewrite. Between Dt and D0 the duties of a fade never rise and end at Dt. R149: a blink expiry switches phase and restarts the blink timer of 250 ms, no rewrite. R142: at a period start every output takes over its lamp's duty, polarity and mode and its pin is active from then when the mode is not OFF and the duty not 0 (active is high for NORMAL, low for INVERTED); at the end of the active steps of an output that is not OFF and whose duty is below 64 the pin goes inactive, and with duty 64 it stays. R144, R145, R147, R148: a change of a link's level (an applied tally handed on, or the unbinding) gives every LINK lamp naming the link its new target: a STEADY or FADING lamp whose alarm condition holds begins to blink, one whose target is not below its duty takes it at once and is STEADY, one whose target is below begins or restarts its fade (or takes it at once with fade n 0); a BLINKING lamp stays while its alarm holds and is STEADY at the target otherwise; in TEST only the target is written. A change of supervision state tests the alarm alone. That a change of level tests the alarm before any rise or fall, one rewrite in all, is the model's choice (log entries 10 and 12). A record is rewritten exactly when its lamp state changes. -/
def Obligations.LampsFollowLinksFadesAndBlinks : Prop :=
   (∀ (s : State) (i : Nat) (tm : Timer), i < 24 → s.board.ready = true → tm.len ≤ (s.board.time - tm.start).toNat →
      let x := s.lamp i
      let k := x.fade.k + 1
      let duty := x.fade.dt + (x.fade.d0 - x.fade.dt) * (8 - k) / 8
      let stepped : Lamp := { x with duty := duty, fade := { x.fade with k := k }, fadeTimer := some { start := s.board.time, len := x.fadeN * 10 } }
      let finished : Lamp := { x with state := .steady, duty := duty, fade := { x.fade with k := k }, fadeTimer := none, edition := x.edition + 1 }
      let blinked : Lamp :=
        { x with duty := if x.blinkOn then 0 else x.dutyProgram, blinkOn := !x.blinkOn, blinkTimer := some { start := s.board.time, len := 250 } }
      (x.fadeTimer = some tm → x.state = .fading → k < 8 →
        exec (.fadeStepExpiry i) s = .next { s with lamps := { s.lamps with recs := put s.lamps.recs i stepped } }) ∧
      (x.fadeTimer = some tm → x.state = .fading → 8 ≤ k →
        exec (.fadeStepExpiry i) s = .next { s with lamps := { s.lamps with recs := put s.lamps.recs i finished, edition := s.lamps.edition + 1 } }) ∧
      (x.blinkTimer = some tm → exec (.blinkTimerExpiry i) s = .next { s with lamps := { s.lamps with recs := put s.lamps.recs i blinked } }) ∧
      (∀ f : Fade, f.dt ≤ f.d0 → f.dutyAt 8 = f.dt ∧ ∀ j, f.dt ≤ f.dutyAt j ∧ f.dutyAt j ≤ f.d0 ∧ f.dutyAt (j + 1) ≤ f.dutyAt j)) ∧
   (∀ s : State,
      (∃ u : State, exec .pwmPeriodStart s = .next u ∧ u = { s with lamps := { s.lamps with recs := u.lamps.recs } } ∧
        ∀ i < 24, let x := s.lamp i
          u.lamp i = { x with
            outOff := decide (x.mode = .off), outDuty := x.duty, outInverted := x.inverted
            pin := if x.mode ≠ .off ∧ x.duty ≠ 0 then !x.inverted else x.inverted }) ∧
      (∀ i < 24, let x := s.lamp i
        (x.outOff = false → x.outDuty < 64 → exec (.pwmActiveEnd i) s =
          .next { s with lamps := { s.lamps with recs := put s.lamps.recs i { x with pin := x.outInverted } } }) ∧
        (x.outOff = true ∨ 64 ≤ x.outDuty → exec (.pwmActiveEnd i) s = .next s))) ∧
   (∀ (s : State) (l : Nat),
      let r := s.link l
      let level : Tally := if r.state = .vacant then .off else r.applied
      let target (x : Lamp) : Nat := match level with
        | .off => x.dutyOff
        | .iso => x.dutyIso
        | .preview => x.dutyPreview
        | .program => x.dutyProgram
      let follows (x : Lamp) : Prop := x.mode = .link ∧ x.link = l
      let alarm (x : Lamp) : Prop := x.alarm = true ∧ r.applied = .program ∧
        (r.state = .lost ∨ r.state = .unitMissing ∨ r.state = .mistuned ∨ r.state = .adrift)
      let blinking (x : Lamp) : Lamp := { x with
        state := .blinking, duty := x.dutyProgram, fadeTimer := none, blinkOn := true, blinkTimer := some { start := s.board.time, len := 250 } }
      let steady (x : Lamp) : Lamp := { x with state := .steady, duty := x.target, fadeTimer := none, blinkTimer := none }
      let fading (x : Lamp) : Lamp := if x.fadeN = 0 then steady x else { x with
        state := .fading, fade := { d0 := x.duty, dt := x.target, k := 0 }, fadeTimer := some { start := s.board.time, len := x.fadeN * 10 } }
      let becomes (u : State) (i : Nat) (y : Lamp) : Prop :=
        u.lamp i = if y.state = (s.lamp i).state then y else { y with edition := (s.lamp i).edition + 1 }
      let rewrites (u : State) : Nat := ((List.range 24).filter fun i => decide ((u.lamp i).state ≠ (s.lamp i).state)).length
      let only (u : State) : Prop :=
        u = { s with lamps := { s.lamps with recs := u.lamps.recs, edition := s.lamps.edition + BitVec.ofNat 16 (rewrites u) } } ∧
        ∀ i < 24, ¬follows (s.lamp i) → u.lamp i = s.lamp i
      let u := s.lampLevelChange l
      let v := s.lampStateChange l
      only u ∧ only v ∧
      (∀ i < 24, follows (s.lamp i) →
        let x := s.lamp i
        let y : Lamp := { x with target := target x }
        (x.state = .off ∨ x.state = .test → becomes u i y ∧ becomes v i x) ∧
        (x.state = .steady ∨ x.state = .fading →
          (alarm x → becomes u i (blinking y) ∧ becomes v i (blinking x)) ∧
          (¬alarm x → x.duty ≤ y.target → becomes u i (steady y)) ∧
          (¬alarm x → y.target < x.duty → becomes u i (fading y)) ∧
          (¬alarm x → becomes v i x)) ∧
        (x.state = .blinking → (alarm x → becomes u i y ∧ becomes v i x) ∧ (¬alarm x → becomes u i (steady y) ∧ becomes v i (steady x)))))

/-! ## Talkback (chapter 10) -/

/-- R153, R155: SET_STATION and SET_KEY, with their checks and clamps. A station above 15 that is not absent is refused; a change of a priority or of the latch window increments the talk region edition once and sets EVENTS.TALK; a key that is active keeps its configuration (IN_USE); otherwise the key's configuration is written, a change counting the same way; a request that changes nothing touches only its slot. The model's choice: a priority ignored with an absent station does not count for CLAMPED (log entry 15), and a priority and the latch window changed together count once (log entry 10). -/
def Obligations.SetStationAndSetKeyWriteTheirSettings : Prop :=
  ∀ (n : Nat) (s : State), n < 32 →
    let p := s.param n
    let stations := if p 4 = 0xFFFF then s.talk.stations else put s.talk.stations (p 4) (min 7 (p 5))
    let window := if p 6 = 0xFFFF then s.talk.latchWindow else max 100 (min 2000 (p 6))
    let old := s.key (12 * p 4 + p 5)
    let mode : KeyMode := if p 6 = 0 then .none else if p 6 = 1 then .momentary else if p 6 = 2 then .latching else .auto
    let new : Key := { old with mode := mode, target := p 7, atten := min 126 (p 8), hang := min 2000 (p 9) }
    (s.takesNext n 25 = true → exec (.setStation n) s = .next (State.settle (
      if p 4 ≠ 0xFFFF ∧ 15 < p 4 then s.answered n .badField []
      else
        let r : Result := if (p 4 ≠ 0xFFFF ∧ 7 < p 5) ∨ (p 6 ≠ 0xFFFF ∧ (p 6 < 100 ∨ 2000 < p 6)) then .clamped else .ok
        if stations = s.talk.stations ∧ window = s.talk.latchWindow then s.answered n r []
        else { s with talk := { s.talk with stations := stations, latchWindow := window, edition := s.talk.edition + 1 }
                      board := s.board.note [.talk] }.answered n r []))) ∧
    (s.takesNext n 26 = true → exec (.setKey n) s = .next (State.settle (
      if 15 < p 4 ∨ 11 < p 5 ∨ 3 < p 6 ∨ 37 < p 7 then s.answered n .badField []
      else if old.activity ≠ .idle then s.answered n .inUse []
      else
        let r : Result := if 126 < p 8 ∨ 2000 < p 9 then .clamped else .ok
        if new = old then s.answered n r []
        else { s with talk := { s.talk with keys := put s.talk.keys (12 * p 4 + p 5) new, edition := s.talk.edition + 1 }
                      board := s.board.note [.talk] }.answered n r [])))

/-- R156 to R159, R168: TALK_KEY. Its checks in their order; otherwise the key's activity and its two timers move by the table of its mode, every other key keeps its configuration, activity, destination set and timers; R161, R163: an activation gives the key the bound links its target names or its group holds (never a MIC), in rising order, and its request, with its station's priority and its attenuation, is arbitrated and settled at each of them in turn (RequestsAreArbitratedAndTalkersFollowTheLink says how), a request or bumped talker that finds no place being DENIED there, and no other destination changes; R165, R167, R173: a key that deactivates leaves each destination of its set, in rising order, and no other, each settled as RequestsAreArbitratedAndTalkersFollowTheLink says: its talk crosspoints brought to their values and the duck ramp told; an event the tables mark "ignored" leaves the destinations and the image, every active key's counts are the numbers of its destinations in each state and its summary is the best of them, a key made IDLE has no destinations and counts 0, and the request reports the key as it then stands. A destination's edition counted once for the event is the model's choice (log entry 10). -/
def Obligations.TalkKeyFollowsTheKeyTables : Prop :=
  ∀ (n : Nat) (s : State), n < 32 → s.takesNext n 27 = true → s.tablesOk →
    let st := s.param n 4
    let k := s.param n 5
    let dir := s.param n 6
    let place := 12 * st + k
    let key := s.key place
    let legal := st ≤ 15 ∧ k ≤ 11 ∧ dir ≤ 1
    let refuse (r : Result) : Prop := exec (.talkKey n) s = .next (State.settle
      (s.answered n r [(7, 0xFFFF#16), (8, 0xFFFF#16), (9, 0#16), (10, 0#16), (11, 0#16), (12, 0#16)]))
    let released : Activity := if key.hang = 0 then .idle else .hanging
    let after : Activity :=
      if dir = 1 then
        match key.activity with
        | .idle => if key.mode = .latching then .latched else .pressed
        | .pressed => .pressed
        | .hanging => if key.mode = .latching then .hanging else .pressed
        | .latched => if key.mode = .momentary then .latched else .idle
      else if key.activity = .pressed ∧ key.mode = .momentary then released
      else if key.activity = .pressed ∧ key.mode = .auto then (if key.windowTimer.isSome then .latched else released)
      else key.activity
    let on (l : Nat) : Bool := decide ((s.link l).state = .live ∨ (s.link l).state = .weak)
    let asked : List Nat :=
      if key.target < 32 then (if (s.link key.target).state ≠ .vacant ∧ (s.link key.target).kind ≠ .mic then [key.target] else [])
      else (List.range 32).filter fun l => let r := s.link l
        decide (r.state ≠ .vacant) && match key.target with
          | 32 => decide (r.kind = .camera ∧ r.studio = .a)
          | 33 => decide (r.kind = .camera ∧ r.studio = .b)
          | 34 => decide (r.kind = .iem ∧ r.studio = .a)
          | 35 => decide (r.kind = .iem ∧ r.studio = .b)
          | 36 => decide (r.kind ≠ .mic ∧ r.studio = .a)
          | _ => decide (r.kind ≠ .mic ∧ r.studio = .b)
    let request : Waiter := { station := st, key := k, priority := look s.talk.stations st, atten := key.atten, order := s.talk.activations }
    let settled : State := asked.foldl (fun t l => State.settleDest
      { t with talk := { t.talk with dests := put t.talk.dests l ((t.dest l).request request (on l)).1 } } l) s
    (¬legal → refuse .badField) ∧
    (legal → key.mode = .none → refuse .notFound) ∧
    (legal → key.mode ≠ .none → ∃ u : State, exec (.talkKey n) s = .next u.settle ∧
      (let new := u.key place;
        new.activity = after ∧ new.mode = key.mode ∧ new.target = key.target ∧ new.atten = key.atten ∧ new.hang = key.hang ∧
        (after = .idle → key.activity ≠ .idle → new.dests = [] ∧ new.summary = .idle ∧ new.talking = 0 ∧ new.held = 0 ∧ new.queued = 0 ∧ new.denied = 0) ∧
        (after = .hanging → key.activity = .pressed → new.hangTimer = some { start := s.board.time, len := key.hang } ∧ new.windowTimer = none) ∧
        (after = .pressed → key.activity ≠ .pressed → new.hangTimer = none ∧
          new.windowTimer = if key.mode = .auto then some { start := s.board.time, len := s.talk.latchWindow } else none) ∧
        (after = .latched → key.activity = .pressed → new.windowTimer = none) ∧
        (after = .idle → key.activity ≠ .idle → new.hangTimer = none ∧ new.windowTimer = none) ∧
        (after = key.activity → u.talk.dests = s.talk.dests ∧ u.matrix = s.matrix ∧ new.dests = key.dests ∧
          new.hangTimer = key.hangTimer ∧ new.windowTimer = key.windowTimer) ∧
        (key.activity = .idle → after ≠ .idle → new.dests = asked ∧ u.talk.activations = s.talk.activations + 1 ∧ u.matrix = settled.matrix ∧
          (∀ l < 32, let d := s.dest l
            let d' := settled.dest l
            u.dest l = { d' with edition := if d'.slots = d.slots ∧ d'.waiters = d.waiters then d.edition else d.edition + 1 }) ∧
          (∀ q < 192, ∀ l, l ∈ (u.key q).deniedAt ↔ (q ≠ place ∧ l ∈ (s.key q).deniedAt) ∨
            (l ∈ asked ∧ ∃ x : Waiter, ((s.dest l).request request (on l)).2 = some x ∧ 12 * x.station + x.key = q))) ∧
        (key.activity ≠ .idle → after = .idle → s.Deactivated u [place]) ∧
        (key.activity ≠ .idle → after = .idle → key.dests.Nodup →
          (∀ l < 32, l ∉ key.dests → u.dest l = s.dest l) ∧
          (∀ l < 32, l ∈ key.dests → let d := (s.dest l).leave st k (on l)
            (u.dest l).slots = d.slots ∧ (u.dest l).waiters = d.waiters ∧ (u.dest l).grant = d.grant)) ∧
        u.slot n = .done ∧ u.slotWord n 3 = 0 ∧ u.slotWord n 7 = BitVec.ofNat 16 new.activity.ctorIdx ∧
        u.slotWord n 8 = BitVec.ofNat 16 new.summary.ctorIdx ∧ u.slotWord n 9 = BitVec.ofNat 16 new.talking ∧
        u.slotWord n 10 = BitVec.ofNat 16 new.held ∧ u.slotWord n 11 = BitVec.ofNat 16 new.queued ∧ u.slotWord n 12 = BitVec.ofNat 16 new.denied) ∧
      (∀ q < 192, q ≠ place → let a := s.key q
        let b := u.key q
        b.mode = a.mode ∧ b.target = a.target ∧ b.atten = a.atten ∧ b.hang = a.hang ∧ b.activity = a.activity ∧ b.dests = a.dests ∧
          b.hangTimer = a.hangTimer ∧ b.windowTimer = a.windowTimer) ∧
      (∀ q < 192, (u.key q).activity ≠ .idle → let x := u.key q
        let count (y : Summary) : Nat := (x.dests.filter fun l => decide (u.keyStateAt (q / 12) (q % 12) x l = y)).length
        x.talking = count .talking ∧ x.held = count .held ∧ x.queued = count .queued ∧ x.denied = count .denied ∧
        x.summary = if x.talking ≠ 0 then .talking else if x.held ≠ 0 then .held else if x.queued ≠ 0 then .queued
          else if x.denied ≠ 0 then .denied else .idle) ∧
      u.talk.stations = s.talk.stations ∧ u.talk.latchWindow = s.talk.latchWindow ∧ u.plan = s.plan ∧ u.probe = s.probe ∧ u.bus = s.bus ∧
      u.links = s.links ∧ u.moves = s.moves ∧ u.lines = s.lines ∧ u.tally = s.tally ∧ u.ref = s.ref ∧ u.lamps = s.lamps)

/-- R163 to R165: arbitration at a destination. A request takes the lowest free slot; with none free it bumps the talker of the lowest priority granted latest when its own is strictly higher, and otherwise joins the wait list; a request or bumped talker that finds 8 waiters is DENIED. Priorities are 0 to 7 and the grant order of a full destination holds each slot once. The wait list stays in wait order (higher priority first, then earlier activation), and a key that leaves hands its slot to the head of the list. R167, R170, R173: the end of a settlement brings each talk crosspoint of the destination to the lowest attenuation among its station's TALKING talkers, or MUTE, and no other point; at an IEM link the talking flag takes whether a talker is TALKING, a change recomputing the target and starting, keeping or stopping the ramp timer, the current value staying. R166, R162, R168: at a change of its link's supervision state every talker becomes TALKING in LIVE and WEAK and HELD otherwise; if one changed, the destination is settled and rewritten, every active key is summarised anew, and the talk region counts each changed record; if none did, nothing happens. That a talk event counts each changed destination and key record once, in the record's edition and in the talk region's, is the model's choice (log entry 10). -/
def Obligations.RequestsAreArbitratedAndTalkersFollowTheLink : Prop :=
   (∀ (d : Dest) (w : Waiter) (talking : Bool), w.priority ≤ 7 →
       let full := ∀ j < 4, d.slot j ≠ none
       let latest (i : Nat) : List Nat := (d.grant.filter fun j => decide (j ≠ i)) ++ [i]
       let granted (i : Nat) : Dest := { d with slots := put d.slots i (some { req := w, talking := talking }), grant := latest i }
       let ordered (l : List Waiter) : Prop := l.Pairwise fun a b => b.priority < a.priority ∨ (a.priority = b.priority ∧ a.order < b.order)
       (∀ i < 4, d.slot i = none → (∀ j < i, d.slot j ≠ none) → d.request w talking = (granted i, none)) ∧
       (∀ i < 4, ∀ t, full → d.grant.Perm [0, 1, 2, 3] → d.slot i = some t → t.req.priority < w.priority →
         (∀ j < 4, ∀ x, d.slot j = some x → t.req.priority ≤ x.req.priority ∧
           (x.req.priority = t.req.priority → d.grant.idxOf j ≤ d.grant.idxOf i)) →
         d.request w talking =
           if d.waiters.length < 8 then ({ granted i with waiters := placeWaiter t.req d.waiters }, none) else (granted i, some t.req)) ∧
       (full → (∀ j < 4, ∀ x, d.slot j = some x → w.priority ≤ x.req.priority) →
         d.request w talking = if d.waiters.length < 8 then ({ d with waiters := placeWaiter w d.waiters }, none) else (d, some w)) ∧
       (∀ l : List Waiter, (placeWaiter w l).Perm (w :: l) ∧
         (ordered l → (∀ x ∈ l, x.priority = w.priority → x.order ≠ w.order) → ordered (placeWaiter w l))) ∧
       (∀ st k : Nat,
         (∀ i < 4, ∀ t, d.slot i = some t → t.req.station = st → t.req.key = k →
           (∀ j < 4, ∀ x, j ≠ i → d.slot j = some x → ¬(x.req.station = st ∧ x.req.key = k)) →
           d.leave st k talking = match d.waiters with
             | [] => { d with slots := put d.slots i none, grant := d.grant.filter fun j => decide (j ≠ i) }
             | x :: rest => { d with slots := put d.slots i (some { req := x, talking := talking }), grant := latest i, waiters := rest }) ∧
         ((∀ i < 4, ∀ t, d.slot i = some t → ¬(t.req.station = st ∧ t.req.key = k)) →
           d.leave st k talking = { d with waiters := d.waiters.filter fun x => !decide (x.station = st ∧ x.key = k) }))) ∧
   (∀ (s : State) (l : Nat), l < 32 → s.tablesOk →
      let r := s.link l
      let d := s.dest l
      let u := s.settleDest l
      let lowest (st : Nat) : Nat := (List.range 4).foldl (fun m i => match d.slot i with
        | none => m
        | some t => if t.talking = true ∧ t.req.station = st then min m t.req.atten else m) 127
      let heard : Bool := (List.range 4).any fun i => match d.slot i with
        | none => false
        | some t => t.talking
      let depth := if r.applied = .program then d.onAir else d.offAir
      let target := if d.base = 127 then 127 else if heard then min 126 (d.base + depth) else d.base
      let timer := if d.current ≠ 127 ∧ target ≠ 127 ∧ d.current ≠ target
        then (if d.rampTimer.isSome then d.rampTimer else some { start := s.board.time, len := 10 }) else none
      (∀ o, r.output = some o → ∀ st < 16, u.imageAt (18 * o + st) = lowest st) ∧
      (∀ p, (∀ o, r.output = some o → ∀ st < 16, p ≠ 18 * o + st) → u.imageAt p = s.imageAt p) ∧
      u.dest l = (if r.kind = .iem ∧ d.talking ≠ heard then { d with talking := heard, target := target, rampTimer := timer } else d) ∧
      u = { s with matrix := u.matrix, board := { s.board with events := u.board.events }
                   talk := { s.talk with dests := put s.talk.dests l (u.dest l) } }) ∧
   (∀ (s : State) (l : Nat), l < 32 →
      let d := s.dest l
      let on : Bool := decide ((s.link l).state = .live ∨ (s.link l).state = .weak)
      let turned : State := { s with talk := { s.talk with dests := put s.talk.dests l { d with
        slots := d.slots.map fun x => x.map fun t => { t with talking := on } } } }
      let settled := turned.settleDest l
      let u := s.talkLinkChange l
      ((∀ i < 4, ∀ t, d.slot i = some t → t.talking = on) → u = s) ∧
      ((∃ i < 4, ∃ t, d.slot i = some t ∧ t.talking ≠ on) →
        u.dest l = { settled.dest l with edition := d.edition + 1 } ∧ (∀ m < 32, m ≠ l → u.dest m = s.dest m) ∧
        u.matrix = settled.matrix ∧
        (∀ p < 192, u.key p = if (s.key p).activity = .idle then s.key p
          else (s.key p).summarised ((s.key p).dests.map (u.keyStateAt (p / 12) (p % 12) (s.key p)))) ∧
        u.talk.edition = s.talk.edition + BitVec.ofNat 16
          (1 + ((List.range 192).filter fun p => decide ((u.key p).published ≠ (s.key p).published)).length) ∧
        u.board.events.getLsbD 5 = true ∧
        u = { s with matrix := u.matrix, talk := u.talk, board := { s.board with events := u.board.events } }))

/-- R160, R157, R159, R165: CANCEL_TALK deactivates every active key of a station, or of every station, in ascending station and key, and reports their number, refusing a station that is neither: each key leaves the destinations of its set, whose slots go to the heads of their wait lists, whose talk crosspoints are brought to their values and whose ducking is told after each (R165, R167, R173), and every key that stays active is summarised anew; a hang timer's expiry deactivates its key, which becomes IDLE with no destinations, no timers and counts 0, having left each destination of its set, settled in the same way, and no other; the latch-window timer's expiry closes the window and changes nothing else. A destination's edition counted once for the whole event is the model's choice (log entry 10). -/
def Obligations.CancelTalkAndKeyTimers : Prop :=
  ∀ s : State,
    let silent (x : Key) : Key := { x with activity := .idle, summary := .idle, talking := 0, held := 0, queued := 0, denied := 0,
                                           dests := [], deniedAt := [], hangTimer := none, windowTimer := none }
    let kept (a b : Key) : Prop := b.mode = a.mode ∧ b.target = a.target ∧ b.atten = a.atten ∧ b.hang = a.hang ∧ b.activity = a.activity ∧
      b.dests = a.dests ∧ b.hangTimer = a.hangTimer ∧ b.windowTimer = a.windowTimer
    let rest (u : State) : Prop := u.talk.stations = s.talk.stations ∧ u.talk.latchWindow = s.talk.latchWindow ∧ u.plan = s.plan ∧
      u.probe = s.probe ∧ u.bus = s.bus ∧ u.links = s.links ∧ u.moves = s.moves ∧ u.lines = s.lines ∧ u.tally = s.tally ∧ u.lamps = s.lamps
    (∀ n < 32, s.takesNext n 28 = true → s.tablesOk →
      let who := s.param n 4
      let named (q : Nat) : Prop := who = 0xFFFF ∨ q / 12 = who
      (who ≠ 0xFFFF → 15 < who → exec (.cancelTalk n) s = .next (s.answered n .badField [(5, 0#16)]).settle) ∧
      (who = 0xFFFF ∨ who ≤ 15 → ∃ u : State, exec (.cancelTalk n) s = .next u.settle ∧ rest u ∧ u.slot n = .done ∧ u.slotWord n 3 = 0 ∧
        s.Deactivated u ((List.range 192).filter fun q => decide ((s.key q).activity ≠ .idle ∧ (who = 0xFFFF ∨ q / 12 = who))) ∧
        (∀ q < 192, (named q → (s.key q).activity ≠ .idle → u.key q = silent (s.key q)) ∧
          (¬named q ∨ (s.key q).activity = .idle → kept (s.key q) (u.key q))) ∧
        u.slotWord n 5 = BitVec.ofNat 16
          ((List.range 192).filter fun q => decide ((s.key q).activity ≠ .idle ∧ (who = 0xFFFF ∨ q / 12 = who))).length)) ∧
    (∀ st < 16, ∀ k < 12, ∀ tm : Timer, s.board.ready = true → tm.len ≤ (s.board.time - tm.start).toNat →
      let place := 12 * st + k
      let key := s.key place
      (key.hangTimer = some tm → ∃ u : State, exec (.hangTimerExpiry st k) s = .next u ∧ rest u ∧ u.key place = silent key ∧ s.Deactivated u [place] ∧
        (∀ q < 192, q ≠ place → kept (s.key q) (u.key q)) ∧
        (key.dests.Nodup → (∀ l < 32, l ∉ key.dests → u.dest l = s.dest l) ∧
         ∀ l < 32, l ∈ key.dests →
          let d := (s.dest l).leave st k (decide ((s.link l).state = .live ∨ (s.link l).state = .weak))
          (u.dest l).slots = d.slots ∧ (u.dest l).waiters = d.waiters ∧ (u.dest l).grant = d.grant ∧
          (u.dest l).edition = if d.slots = (s.dest l).slots ∧ d.waiters = (s.dest l).waiters then (s.dest l).edition else (s.dest l).edition + 1)) ∧
      (key.windowTimer = some tm → exec (.latchWindowExpiry st k) s =
        .next { s with talk := { s.talk with keys := put s.talk.keys place { key with windowTimer := none } } }))

/-! ## Programme ducking and the matrix line (chapter 11) -/

/-- R172 to R176: SET_DEST's checks in their order and its clamps; a request that changes a setting writes the settings, moves the current value with the base (or takes it to MUTE, or to the new base from MUTE), corrects it to the greatest bound after a change of depth, recomputes the target from base, depths, talking flag and applied tally, starts, keeps or stops the ramp timer, writes the programme crosspoint of the image when the current value moved, and counts one rewrite. R175: a ramp expiry moves the current value toward the target by the rate, stopping at it, and writes the image. -/
def Obligations.ProgrammeSettingsAndRampSteps : Prop :=
  ∀ s : State, s.tablesOk →
    let point (l o : Nat) : Nat := 18 * o + (if (s.link l).studio = .a then 16 else 17)
    let rest (u : State) : Prop := u.plan = s.plan ∧ u.probe = s.probe ∧ u.bus = s.bus ∧ u.links = s.links ∧ u.moves = s.moves ∧
      u.lines = s.lines ∧ u.tally = s.tally ∧ u.ref = s.ref ∧ u.lamps = s.lamps
    let image (u : State) (l v : Nat) (moved : Prop) : Prop := ∀ q,
      (moved → ∀ o, (s.link l).output = some o → q = point l o → u.imageAt q = v) ∧
      ((¬moved ∨ ∀ o, (s.link l).output = some o → q ≠ point l o) → u.imageAt q = s.imageAt q)
    (∀ n < 32, s.takesNext n 29 = true →
      let p := s.param n
      let l := p 4
      let sel (b : Nat) : Bool := (p 5).testBit b
      let old := s.dest l
      let refuse (r : Result) : Prop :=
        exec (.setDest n) s = .next (s.answered n r [(10, 0xFFFF#16), (11, 0xFFFF#16), (12, 0xFFFF#16)]).settle
      let base := if sel 0 then min 127 (p 6) else old.base
      let offAir := if sel 1 then min 126 (p 7) else old.offAir
      let onAir := if sel 2 then min 126 (p 8) else old.onAir
      let rate := if sel 3 then max 1 (min 32 (p 9)) else old.rate
      let r : Result := if (sel 0 ∧ 127 < p 6) ∨ (sel 1 ∧ 126 < p 7) ∨ (sel 2 ∧ 126 < p 8) ∨ (sel 3 ∧ (p 9 = 0 ∨ 32 < p 9)) then .clamped else .ok
      let same := base = old.base ∧ offAir = old.offAir ∧ onAir = old.onAir ∧ rate = old.rate
      let bound := min 126 (base + max offAir onAir)
      let moved := if base = old.base then old.current else if base = 127 then 127 else if old.base = 127 then base
        else min 126 (old.current + base - old.base)
      let current := if (offAir ≠ old.offAir ∨ onAir ≠ old.onAir) ∧ moved ≠ 127 ∧ bound < moved then bound else moved
      let depth := if (s.link l).applied = .program then onAir else offAir
      let target := if base = 127 then 127 else if old.talking then min 126 (base + depth) else base
      let timer := if current ≠ 127 ∧ target ≠ 127 ∧ current ≠ target
        then (if old.rampTimer.isSome then old.rampTimer else some { start := s.board.time, len := 10 }) else none
      let new : Dest := { old with base := base, offAir := offAir, onAir := onAir, rate := rate, current := current, target := target,
                                   rampTimer := timer, edition := old.edition + 1 }
      (31 < l → refuse .badField) ∧
      (l ≤ 31 → (s.link l).state = .vacant → refuse .notBound) ∧
      (l ≤ 31 → (s.link l).state ≠ .vacant → (s.link l).kind ≠ .iem → refuse .badField) ∧
      (l ≤ 31 → (s.link l).state ≠ .vacant → (s.link l).kind = .iem → same → exec (.setDest n) s = .next (State.settle
        (s.answered n r [(10, BitVec.ofNat 16 old.base), (11, BitVec.ofNat 16 old.current), (12, BitVec.ofNat 16 old.target)]))) ∧
      (l ≤ 31 → (s.link l).state ≠ .vacant → (s.link l).kind = .iem → ¬same → ∃ u : State, exec (.setDest n) s = .next u.settle ∧ rest u ∧
        u.talk = { s.talk with dests := put s.talk.dests l new, edition := s.talk.edition + 1 } ∧
        image u l current (moved ≠ old.current ∨ current ≠ moved) ∧ u.board.events.getLsbD 5 = true ∧ u.slot n = .done ∧
        u.slotWord n 3 = BitVec.ofNat 16 r.ctorIdx ∧ u.slotWord n 10 = BitVec.ofNat 16 base ∧ u.slotWord n 11 = BitVec.ofNat 16 current ∧
        u.slotWord n 12 = BitVec.ofNat 16 target)) ∧
    (∀ l < 32, ∀ tm : Timer, s.board.ready = true → (s.dest l).rampTimer = some tm → tm.len ≤ (s.board.time - tm.start).toNat →
      let d := s.dest l
      let current := if d.current < d.target then min d.target (d.current + d.rate) else max d.target (d.current - d.rate)
      let new : Dest := { d with current := current, rampTimer := if current = d.target then none else some { start := s.board.time, len := 10 } }
      ∃ u : State, exec (.rampTimerExpiry l) s = .next u ∧ rest u ∧ u.talk = { s.talk with dests := put s.talk.dests l new } ∧
        image u l current True ∧ u.board.slots = s.board.slots)

/-- R176, R177, R179: a write of a value to a crosspoint. An equal value changes nothing. A change writes the image at that point only; with the point in the queue its entry's value is replaced in place; with room it is appended and the point's mark cleared; with the queue full its mark is set, the spill count (stopping at 65,535) increments and EVENTS.MATRIX is set; an IDLE sender with an empty queue takes it at once. R178, R179, R198, R190: the end of a frame on the matrix line. The head entry is taken and sent (SET_POINT with its output, input, value and check byte); taking the last one sweeps up to 32 marked points, in rising order, into the queue with their image values; with the queue empty the sender becomes IDLE; an IDLE sender sends no frame. R179, R180: on the line each byte of a frame is one start bit at space, 8 data bits with the least significant first, and one stop bit at mark; the line is at mark after the frame and while the sender is IDLE; CLEAR_ALL is its five bytes. R190: device time counts each millisecond, wrapping, once READY reads 1. MATRIX_FRAME_SENT with an IDLE sender leaving the state unchanged is the model's choice (log entry 3). -/
def Obligations.TheOutputQueueAndTheSender : Prop :=
   (∀ (s : State) (p v : Nat), Cells.wf Config.mute s.matrix.image = true →
      let m := s.matrix
      let queued := ∃ x, (p, x) ∈ m.queue
      (s.imageAt p = v → s.writePoint p v = s) ∧
      (s.imageAt p ≠ v → ∃ t : Matrix,
        (∀ q, t.image.get 127 q = if q = p then v else m.image.get 127 q) ∧
        (queued → s.writePoint p v = { s with matrix := { m with image := t.image, queue := m.queue.map fun e => if e.1 = p then (p, v) else e } }) ∧
        (¬queued → m.queue.length < 32 → m.sender ≠ .idle → s.writePoint p v =
          { s with matrix := { m with image := t.image, queue := m.queue ++ [(p, v)], marks := m.marks.filter fun q => decide (q ≠ p) } }) ∧
        (m.queue = [] → m.sender = .idle → m.marks = [] → s.writePoint p v =
          { s with matrix := { m with image := t.image, begun := m.begun.put 127 p v, sender := .setPoint p v } }) ∧
        (¬queued → 32 ≤ m.queue.length → s.writePoint p v =
          { s with matrix := { m with image := t.image, marks := t.marks, spills := satInc m.spills }, board := s.board.note [.matrix] }) ∧
        (¬queued → 32 ≤ m.queue.length → ∀ q, q ∈ t.marks ↔ q = p ∨ q ∈ m.marks)) ∧
      (satInc m.spills).toNat = min 65535 (m.spills.toNat + 1)) ∧
   (∀ s : State, s.board.ready = true → s.tablesOk →
      let m := s.matrix
      (m.sender = .idle → exec .matrixFrameSent s = .next s) ∧
      (m.sender ≠ .idle → m.queue = [] → exec .matrixFrameSent s = .next { s with matrix := { m with sender := .idle } }) ∧
      (∀ p v q, m.sender ≠ .idle → m.queue = (p, v) :: q → ∃ t : Matrix,
        (∀ x, t.begun.get 127 x = if x = p then v else m.begun.get 127 x) ∧
        exec .matrixFrameSent s = .next { s with matrix := { m with
          sender := .setPoint p v, begun := t.begun
          queue := if q = [] then (m.marks.take 32).map fun x => (x, s.imageAt x) else q
          marks := if q = [] then m.marks.drop 32 else m.marks } }) ∧
      (∀ p v : Nat, (Sender.setPoint p v).frame =
        let b (x : Nat) : Byte := BitVec.ofNat 8 x
        [0xE3#8, b (p / 18), b (p % 18), b v, 0xE3#8 ^^^ b (p / 18) ^^^ b (p % 18) ^^^ b v]) ∧
      (∀ (x : Sender) (k : Nat), x.line k = match x.frame[k / 10]? with
        | none => true
        | some y => if k % 10 = 0 then false else if k % 10 = 9 then true else y.getLsbD (k % 10 - 1)) ∧
      Sender.idle.frame = [] ∧ Sender.clearAll.frame = [0xE4#8, 0, 0, 0, 0xE4#8] ∧
      exec .deviceTimeTick s = .next { s with board := { s.board with time := s.board.time + 1 } })

/-! ## Invariants -/

/-- R177, R184: the output queue holds at most 32 entries, no point twice, each with its point's image value; every point whose image value differs from that in the last frame begun for it is queued or marked, never both; the pending set stays rising numbers below 32; and the sparse tables (the slots' bodies, the maps, the image) stay in canonical form. -/
def Obligations.EveryStepKeepsTheQueueAndTheTables : Prop :=
  ∀ s t : State, s.matrix.Ok → s.board.attentionOk → s.tablesOk → step s = .next t → t.matrix.Ok ∧ t.board.attentionOk ∧ t.tablesOk

/-- R26, R177, R184: the state after a reset meets the invariants that every step keeps. -/
def Obligations.ResetMeetsTheInvariants : Prop :=
  State.reset.plan.marksOk ∧ State.reset.matrix.Ok ∧ State.reset.board.attentionOk ∧ State.reset.tablesOk
end

