-- ==== Sys2Proof/Laws/Lines.lean ====
section
/-! SUPPORT. What the sampled receiver of a line makes of whole bit times (R116 to R118). -/

namespace Sys2Proof.Machine

/-- Samples heard in two parts. -/
theorem Line.hear_append (r : Line) (vs ws : List Bool) : ∀ x, r.hear x (vs ++ ws) =
    ((r.hear (r.hear x vs).1 ws).1, (r.hear x vs).2 ++ (r.hear (r.hear x vs).1 ws).2) := by
  induction vs with
  | nil => intro x; rfl
  | cons v vs ih => intro x; simp [Line.hear, ih]

/-! ### Breaks left aside -/

/-- The samples of the line in their order, breaks left aside. -/
def Line.hearBits (r : Line) : Receiver → List Bool → Receiver × List RxChar
  | x, [] => (x, [])
  | x, v :: vs => ((r.hearBits (r.sampleBits x v).1 vs).1, (r.sampleBits x v).2.toList ++ (r.hearBits (r.sampleBits x v).1 vs).2)

/-- What a sample does to the bits does not depend on how long the line has been at space. -/
theorem Line.sampleBits_spaces (r : Line) (x : Receiver) (v : Bool) (n : Nat) :
    r.sampleBits { x with spaces := n } v = ({ (r.sampleBits x v).1 with spaces := n }, (r.sampleBits x v).2) := by
  simp only [Line.sampleBits, NoiseFilter.sample]
  split
  · rfl
  · split <;> rfl

/-- Samples heard with breaks left aside keep the count of spaces. -/
theorem Line.hearBits_spaces (r : Line) (vs : List Bool) : ∀ (x : Receiver) (n : Nat),
    r.hearBits { x with spaces := n } vs = ({ (r.hearBits x vs).1 with spaces := n }, (r.hearBits x vs).2) := by
  induction vs with
  | nil => intro x n; rfl
  | cons v vs ih => intro x n; rw [Line.hearBits, r.sampleBits_spaces x v n, ih]; rfl

/-- Too few samples for a break: the line is heard as if there were none, and the count of spaces grows by no more than the samples. -/
theorem Line.hear_short (r : Line) (vs : List Bool) : ∀ x : Receiver, x.spaces + vs.length ≤ r.byteSamples →
    ∃ n ≤ x.spaces + vs.length, r.hear x vs = ({ (r.hearBits x vs).1 with spaces := n }, (r.hearBits x vs).2) := by
  induction vs with
  | nil => intro x _; exact ⟨x.spaces, Nat.le_refl _, rfl⟩
  | cons v vs ih =>
    intro x h
    simp only [List.length_cons] at h
    have hn : r.spacesAfter x.spaces (r.sampleBits x v).1.level ≤ x.spaces + 1 := by
      unfold Line.spacesAfter; split <;> omega
    generalize hk : r.spacesAfter x.spaces (r.sampleBits x v).1.level = k at hn
    have hs : r.sample x v = ({ (r.sampleBits x v).1 with spaces := k }, (r.sampleBits x v).2) := by
      have : ¬ r.byteSamples < k := by omega
      simp only [Line.sample, hk, Line.breakTest, this, false_and, if_false]
    obtain ⟨n, hle, he⟩ := ih { (r.sampleBits x v).1 with spaces := k } (by simp only; omega)
    refine ⟨n, by simp only [List.length_cons] at hle ⊢; omega, ?_⟩
    rw [Line.hear, hs, he, r.hearBits_spaces]; rfl

/-- The receiver at the end of a bit time in the middle of a character: the filter delays its reads. -/
def Line.midway (r : Line) (spaces : Nat) (level : Bool) (bits : List Bool) : Receiver :=
  { level := level, run := 0, spaces := spaces, phase := .receiving (7 + r.filter.samples) bits }

/-- The receiver at the end of the last bit time of a character. -/
def Receiver.ended (spaces : Nat) (bits : List Bool) : Receiver :=
  { level := bits.getLastD false, run := 0, spaces := spaces, phase := .idle }

/-- A further bit time that does not end the character adds its bit. -/
theorem Line.hearBits_bit (r : Line) (n : Nat) (l v : Bool) (bits : List Bool) (h0 : bits ≠ []) (h : bits.length + 1 < r.charBits) :
    r.hearBits (r.midway n l bits) (List.replicate 16 v) = (r.midway n v (bits ++ [v]), []) := by
  cases hf : r.filter <;> cases l <;> cases v <;>
    simp [Line.midway, List.replicate, Line.hearBits, Line.sampleBits, NoiseFilter.sample, NoiseFilter.samples, Line.receive, hf, h0, h]

/-- The last bit time of a character completes it. -/
theorem Line.hearBits_last (r : Line) (n : Nat) (l v : Bool) (bits : List Bool) (h0 : bits ≠ []) (h : bits.length + 1 = r.charBits) :
    r.hearBits (r.midway n l bits) (List.replicate 16 v) = (Receiver.ended n (bits ++ [v]), [charOfBits (bits ++ [v])]) := by
  have hn : ¬ bits.length + 1 < r.charBits := by omega
  cases hf : r.filter <;> cases l <;> cases v <;>
    simp [Line.midway, Receiver.ended, List.replicate, Line.hearBits, Line.sampleBits, NoiseFilter.sample, NoiseFilter.samples, Line.receive, hf, h0, hn]

/-! ### From rest -/

/-- The samples of mark a receiver at rest has seen of its wait: all it needs, or fewer. -/
def RxPhase.marks : RxPhase → Option Nat
  | .waiting m => some m
  | .idle => some 16
  | .receiving _ _ => none

/-- The receiver after i samples of mark heard from rest: it sees mark, with at most the filter's delay left to wait, or it does not see mark yet. -/
def Line.marked (r : Line) (i : Nat) (x : Receiver) : Prop :=
  ∃ m, x.phase.marks = some m ∧ ((x.level = true ∧ x.run = 0 ∧ x.spaces = 0 ∧ m ≤ 16 ∧ x.phase ≠ .waiting 16 ∧ min 17 (i + 1) ≤ m + r.filter.samples) ∨
    (x.level = false ∧ i ≤ x.run ∧ x.run < r.filter.samples))

/-- A break test leaves what has been seen of mark. -/
theorem Line.marked_breakTest (r : Line) (i : Nat) (x : Receiver) (h : r.marked i x) : r.marked i (r.breakTest x) := by
  unfold Line.breakTest
  split
  · obtain ⟨m, hm, ⟨_, _, h0, _⟩ | hl⟩ := h
    · omega
    · exact ⟨0, rfl, .inr hl⟩
  · exact h

/-- A sample of mark, at rest: the first, or one after i others. -/
theorem Line.sample_mark (r : Line) (i : Nat) (x : Receiver) (h : r.marked i x ∨ i = 0 ∧ x.atRest) :
    r.marked (i + 1) (r.sample x true).1 ∧ (r.sample x true).2 = none := by
  have key : r.marked (i + 1) { (r.sampleBits x true).1 with spaces := r.spacesAfter x.spaces (r.sampleBits x true).1.level } ∧
      (r.sampleBits x true).2 = none := by
    obtain ⟨level, run, spaces, phase⟩ := x
    have hd : 1 ≤ r.filter.samples := by cases r.filter <;> simp [NoiseFilter.samples]
    cases phase with
    | receiving wait bits => simp [Line.marked, RxPhase.marks, Receiver.atRest] at h
    | idle =>
      cases level <;> by_cases h1 : run + 1 < r.filter.samples <;>
        simp [Line.sampleBits, NoiseFilter.sample, Line.receive, Line.marked, RxPhase.marks, Receiver.atRest, Line.spacesAfter, h1] at h ⊢ <;> omega
    | waiting m =>
      by_cases h2 : m + 1 < 16 <;> cases level <;> by_cases h1 : run + 1 < r.filter.samples <;>
        simp [Line.sampleBits, NoiseFilter.sample, Line.receive, Line.marked, RxPhase.marks, Receiver.atRest, Line.spacesAfter, h1, h2] at h ⊢ <;> omega
  exact ⟨r.marked_breakTest _ _ key.1, key.2⟩

/-- Further samples of mark. -/
theorem Line.hear_marks (r : Line) (k : Nat) : ∀ (i : Nat) (x : Receiver), r.marked i x →
    r.marked (i + k) (r.hear x (List.replicate k true)).1 ∧ (r.hear x (List.replicate k true)).2 = [] := by
  induction k with
  | zero => intro i x h; exact ⟨h, rfl⟩
  | succ k ih =>
    intro i x h
    have h1 := r.sample_mark i x (.inl h)
    have h2 := ih (i + 1) _ h1.1
    simp only [List.replicate_succ, Line.hear, h1.2, h2.2]
    exact ⟨by rw [show i + (k + 1) = i + 1 + k by omega]; exact h2.1, rfl⟩

/-- A receiver that has seen mark has counted no space. -/
theorem Line.marked_spaces (r : Line) (x : Receiver) (h : r.marked 16 x) : x.spaces = 0 := by
  have hd : r.filter.samples ≤ 4 := by cases r.filter <;> simp [NoiseFilter.samples]
  obtain ⟨_, _, ⟨_, _, h0, _⟩ | ⟨_, h1, h2⟩⟩ := h
  · exact h0
  · omega

/-- A start bit after one bit time of mark. -/
theorem Line.hearBits_fall (r : Line) (x : Receiver) (h : r.marked 16 x) :
    r.hearBits x (List.replicate 16 false) = (r.midway 0 false [false], []) := by
  have h0 := r.marked_spaces x h
  obtain ⟨level, run, spaces, phase⟩ := x
  simp only at h0
  subst h0
  have hd : r.filter.samples ≤ 4 := by cases r.filter <;> simp [NoiseFilter.samples]
  have h9 : 1 < r.charBits := by unfold Line.charBits; omega
  obtain ⟨m, hp, ⟨hl, hr, _, hm, hn, hs⟩ | ⟨_, h1, h2⟩⟩ := h
  · simp only at hl hr hp hn
    subst hl hr
    have h15 : phase = .idle ∨ phase = .waiting m := by
      cases phase <;> simp_all [RxPhase.marks]
    rcases h15 with rfl | rfl
    · cases hf : r.filter <;>
        simp [Line.midway, List.replicate, Line.hearBits, Line.sampleBits, NoiseFilter.sample, NoiseFilter.samples, Line.receive, hf, h9]
    · obtain rfl | rfl | rfl : m = 13 ∨ m = 14 ∨ m = 15 := by
        have : m ≠ 16 := fun h => hn (by rw [h])
        omega
      all_goals
        cases hf : r.filter <;> simp [hf, NoiseFilter.samples] at hs <;>
          simp [Line.midway, List.replicate, Line.hearBits, Line.sampleBits, NoiseFilter.sample, NoiseFilter.samples, Line.receive, hf, h9]
  · simp only at h1 h2
    omega

/-- The samples of whole bit times. -/
theorem length_bitTimes (vs : List Bool) : (bitTimes vs).length = 16 * vs.length := by
  induction vs with
  | nil => rfl
  | cons v vs ih => simp only [bitTimes, List.flatMap_cons, List.length_append, List.length_replicate, List.length_cons] at ih ⊢; omega

/-- Samples heard in two parts, breaks left aside. -/
theorem Line.hearBits_append (r : Line) (vs ws : List Bool) : ∀ x, r.hearBits x (vs ++ ws) =
    ((r.hearBits (r.hearBits x vs).1 ws).1, (r.hearBits x vs).2 ++ (r.hearBits (r.hearBits x vs).1 ws).2) := by
  induction vs with
  | nil => intro x; rfl
  | cons v vs ih => intro x; simp [Line.hearBits, ih]

/-- The remaining bit times of a character. -/
theorem Line.hearBits_bits (r : Line) (n : Nat) (vs : List Bool) : ∀ (l : Bool) (bits : List Bool), bits ≠ [] → vs ≠ [] →
    bits.length + vs.length = r.charBits →
    r.hearBits (r.midway n l bits) (bitTimes vs) = (Receiver.ended n (bits ++ vs), [charOfBits (bits ++ vs)]) := by
  induction vs with
  | nil => intro _ _ _ h; exact absurd rfl h
  | cons v vs ih =>
    intro l bits h0 _ h
    rw [show bitTimes (v :: vs) = List.replicate 16 v ++ bitTimes vs from rfl, Line.hearBits_append]
    cases vs with
    | nil => rw [r.hearBits_last n l v bits h0 h]; rfl
    | cons w vs =>
      rw [r.hearBits_bit n l v bits h0 (by simp at h; omega), ih v (bits ++ [v]) (by simp) (by simp) (by simp at h ⊢; omega)]
      simp

/-- A whole character after one bit time of mark, heard by a receiver at rest: its one judgement, and a receiver that has counted no more than a byte of space. -/
theorem Line.hear_char (r : Line) (x : Receiver) (vs : List Bool) (h : x.atRest) (hv : vs ≠ []) (hn : vs.length + 1 = r.charBits) :
    ∃ n ≤ r.byteSamples, r.hear x (bitTimes (true :: false :: vs)) = (Receiver.ended n (false :: vs), [charOfBits (false :: vs)]) := by
  have h1 := r.sample_mark 0 x (.inr ⟨rfl, h⟩)
  have h2 := r.hear_marks 15 1 _ h1.1
  have hm : r.hear x (List.replicate 16 true) = ((r.hear (r.sample x true).1 (List.replicate 15 true)).1, []) := by
    rw [List.replicate_succ, Line.hear]
    simp only [h1.2, h2.2, Option.toList, List.append_nil]
  generalize (r.hear (r.sample x true).1 (List.replicate 15 true)).1 = y at h2 hm
  have h0 := r.marked_spaces y h2.1
  have hl : (bitTimes (false :: vs)).length = r.byteSamples := by
    rw [length_bitTimes, List.length_cons, hn]; rfl
  obtain ⟨n, hle, he⟩ := r.hear_short (bitTimes (false :: vs)) y (by omega)
  have hb : r.hearBits y (bitTimes (false :: vs)) = (Receiver.ended 0 (false :: vs), [charOfBits (false :: vs)]) := by
    rw [show bitTimes (false :: vs) = List.replicate 16 false ++ bitTimes vs from rfl, Line.hearBits_append, r.hearBits_fall y h2.1,
      r.hearBits_bits 0 vs false [false] (by simp) hv (by simp; omega)]
    rfl
  refine ⟨n, by omega, ?_⟩
  rw [show bitTimes (true :: false :: vs) = List.replicate 16 true ++ bitTimes (false :: vs) from rfl, Line.hear_append, hm, he, hb]
  rfl

/-! ### Breaks -/

/-- A line held at space goes on being held at space: nothing is received, and once it has been at space for longer than a byte the receiver waits for mark. -/
theorem Line.hear_spaces (r : Line) (k : Nat) : ∀ x : Receiver, x.level = false → x.run = 0 → x.phase = .idle → x.spaces ≤ r.byteSamples →
    r.hear x (List.replicate k false) = (if r.byteSamples < x.spaces + k
      then { x with spaces := r.byteSamples + 1, phase := .waiting 0 } else { x with spaces := x.spaces + k }, []) := by
  have wait (k : Nat) : ∀ x : Receiver, x.level = false → x.run = 0 → x.phase = .waiting 0 → x.spaces = r.byteSamples + 1 →
      r.hear x (List.replicate k false) = (x, []) := by
    induction k with
    | zero => intros; rfl
    | succ k ih =>
      rintro ⟨level, run, spaces, phase⟩ rfl rfl rfl rfl
      have hs : r.sample { level := false, run := 0, spaces := r.byteSamples + 1, phase := .waiting 0 } false =
          ({ level := false, run := 0, spaces := r.byteSamples + 1, phase := .waiting 0 }, none) := by
        simp [Line.sample, Line.sampleBits, NoiseFilter.sample, Line.receive, Line.spacesAfter, Line.breakTest]
      rw [List.replicate_succ, Line.hear, hs, ih { level := false, run := 0, spaces := r.byteSamples + 1, phase := .waiting 0 } rfl rfl rfl rfl]; rfl
  induction k with
  | zero =>
    intro x _ _ _ h
    have : ¬ r.byteSamples < x.spaces + 0 := by omega
    rw [if_neg this]; rfl
  | succ k ih =>
    rintro ⟨level, run, spaces, phase⟩ rfl rfl rfl h
    simp only at h
    have hmin : min (r.byteSamples + 1) (spaces + 1) = spaces + 1 := by omega
    by_cases hb : r.byteSamples < spaces + 1
    · have hs : r.sample { level := false, run := 0, spaces := spaces, phase := .idle } false =
          ({ level := false, run := 0, spaces := spaces + 1, phase := .waiting 0 }, none) := by
        simp [Line.sample, Line.sampleBits, NoiseFilter.sample, Line.receive, Line.spacesAfter, Line.breakTest, hmin, hb]
      have he : spaces + 1 = r.byteSamples + 1 := by omega
      have hk : r.byteSamples < spaces + (k + 1) := by omega
      rw [List.replicate_succ, Line.hear, hs, wait k { level := false, run := 0, spaces := spaces + 1, phase := .waiting 0 } rfl rfl rfl he, if_pos hk, he]; rfl
    · have hs : r.sample { level := false, run := 0, spaces := spaces, phase := .idle } false =
          ({ level := false, run := 0, spaces := spaces + 1, phase := .idle }, none) := by
        simp [Line.sample, Line.sampleBits, NoiseFilter.sample, Line.receive, Line.spacesAfter, Line.breakTest, hmin, hb]
      have hi := ih { level := false, run := 0, spaces := spaces + 1, phase := .idle } rfl rfl rfl (by simp only; omega)
      simp only at hi
      simp only [List.replicate_succ, Line.hear, hs, hi, Option.toList, List.append_nil, show spaces + 1 + k = spaces + (k + 1) by omega]

/-- Eight bits, the least significant first, are their byte's. -/
theorem byteOfBits_bitsOf : ∀ b : Byte, byteOfBits (bitsOf b) = b := by decide

/-- What the bits of a character spell. -/
theorem charOfBits_bits (r : Line) (b : Byte) (p : Bool) (stops : List Bool) (h : stops ≠ []) :
    charOfBits (r.bits b p stops) = { data := b, parityBit := if r.parity = .none then stops.headD false else p, stop := stops.getLastD false } := by
  have h8 : (bitsOf b).length = 8 := rfl
  obtain ⟨a, t, rfl⟩ := List.exists_cons_of_ne_nil h
  by_cases hp : r.parity = .none <;>
    simp [charOfBits, Line.bits, List.drop_append, h8, byteOfBits_bitsOf, hp, List.getLastD_eq_getLast?, List.getLast?_append, List.getLast?_cons]

/-- A character sent after one bit time of mark to an enabled line at rest is judged once, and leaves the receiver between characters with no more than a byte of space counted. -/
theorem State.lineSamples_char (s : State) (n : Nat) (b : Byte) (p : Bool) (stops : List Bool) (he : (s.line n).enable = true)
    (hr : (s.line n).rx.atRest) (h0 : stops ≠ []) (hn : stops.length = (s.line n).stopBits) :
    let bits := (s.line n).bits b p stops
    ∃ k ≤ (s.line n).byteSamples,
      s.lineSamples n (bitTimes (true :: bits)) = (s.touchLine n fun r => { r with rx := Receiver.ended k bits }).character n
        { data := b, parityBit := if (s.line n).parity = .none then stops.headD false else p, stop := stops.getLastD false } := by
  obtain ⟨k, hk, hc⟩ := (s.line n).hear_char (s.line n).rx (bitsOf b ++ ((if (s.line n).parity = .none then [] else [p]) ++ stops)) hr (by simp [h0])
    (by
      have h8 : (bitsOf b).length = 8 := rfl
      by_cases hp : (s.line n).parity = .none <;> simp [Line.charBits, h8, hp, hn] <;> omega)
  refine ⟨k, hk, ?_⟩
  simp only [State.lineSamples, he, if_true, Line.bits]
  rw [hc]
  simp only [List.foldl]
  rw [← charOfBits_bits (s.line n) b p stops h0]
  rfl

end Sys2Proof.Machine
end

