-- ==== Sys2Proof/Laws/State.lean ====
section
/-! SUPPORT. One lemma per block of State for each elementary update: the blocks an update leaves alone. All hold by unfolding a record update, so that no later proof unfolds one. -/

namespace Sys2Proof.Machine

variable (s : State)

/-! ### raise -/

@[simp] theorem State.raise_plan (e : Event) : (s.raise e).plan = s.plan := rfl
@[simp] theorem State.raise_probe (e : Event) : (s.raise e).probe = s.probe := rfl
@[simp] theorem State.raise_bus (e : Event) : (s.raise e).bus = s.bus := rfl
@[simp] theorem State.raise_links (e : Event) : (s.raise e).links = s.links := rfl
@[simp] theorem State.raise_moves (e : Event) : (s.raise e).moves = s.moves := rfl
@[simp] theorem State.raise_lines (e : Event) : (s.raise e).lines = s.lines := rfl
@[simp] theorem State.raise_tally (e : Event) : (s.raise e).tally = s.tally := rfl
@[simp] theorem State.raise_ref (e : Event) : (s.raise e).ref = s.ref := rfl
@[simp] theorem State.raise_lamps (e : Event) : (s.raise e).lamps = s.lamps := rfl
@[simp] theorem State.raise_talk (e : Event) : (s.raise e).talk = s.talk := rfl
@[simp] theorem State.raise_matrix (e : Event) : (s.raise e).matrix = s.matrix := rfl
@[simp] theorem State.raise_pending (e : Event) : (s.raise e).pending = s.pending := rfl

/-! ### planRewrite -/

@[simp] theorem State.planRewrite_probe : s.planRewrite.probe = s.probe := rfl
@[simp] theorem State.planRewrite_bus : s.planRewrite.bus = s.bus := rfl
@[simp] theorem State.planRewrite_links : s.planRewrite.links = s.links := rfl
@[simp] theorem State.planRewrite_moves : s.planRewrite.moves = s.moves := rfl
@[simp] theorem State.planRewrite_lines : s.planRewrite.lines = s.lines := rfl
@[simp] theorem State.planRewrite_tally : s.planRewrite.tally = s.tally := rfl
@[simp] theorem State.planRewrite_ref : s.planRewrite.ref = s.ref := rfl
@[simp] theorem State.planRewrite_lamps : s.planRewrite.lamps = s.lamps := rfl
@[simp] theorem State.planRewrite_talk : s.planRewrite.talk = s.talk := rfl
@[simp] theorem State.planRewrite_matrix : s.planRewrite.matrix = s.matrix := rfl
@[simp] theorem State.planRewrite_pending : s.planRewrite.pending = s.pending := rfl

/-! ### occupancyRewrite -/

@[simp] theorem State.occupancyRewrite_plan : s.occupancyRewrite.plan = s.plan := rfl
@[simp] theorem State.occupancyRewrite_bus : s.occupancyRewrite.bus = s.bus := rfl
@[simp] theorem State.occupancyRewrite_links : s.occupancyRewrite.links = s.links := rfl
@[simp] theorem State.occupancyRewrite_moves : s.occupancyRewrite.moves = s.moves := rfl
@[simp] theorem State.occupancyRewrite_lines : s.occupancyRewrite.lines = s.lines := rfl
@[simp] theorem State.occupancyRewrite_tally : s.occupancyRewrite.tally = s.tally := rfl
@[simp] theorem State.occupancyRewrite_ref : s.occupancyRewrite.ref = s.ref := rfl
@[simp] theorem State.occupancyRewrite_lamps : s.occupancyRewrite.lamps = s.lamps := rfl
@[simp] theorem State.occupancyRewrite_talk : s.occupancyRewrite.talk = s.talk := rfl
@[simp] theorem State.occupancyRewrite_matrix : s.occupancyRewrite.matrix = s.matrix := rfl
@[simp] theorem State.occupancyRewrite_pending : s.occupancyRewrite.pending = s.pending := rfl

/-! ### tallyRewrite -/

@[simp] theorem State.tallyRewrite_plan : s.tallyRewrite.plan = s.plan := rfl
@[simp] theorem State.tallyRewrite_probe : s.tallyRewrite.probe = s.probe := rfl
@[simp] theorem State.tallyRewrite_bus : s.tallyRewrite.bus = s.bus := rfl
@[simp] theorem State.tallyRewrite_links : s.tallyRewrite.links = s.links := rfl
@[simp] theorem State.tallyRewrite_moves : s.tallyRewrite.moves = s.moves := rfl
@[simp] theorem State.tallyRewrite_lines : s.tallyRewrite.lines = s.lines := rfl
@[simp] theorem State.tallyRewrite_ref : s.tallyRewrite.ref = s.ref := rfl
@[simp] theorem State.tallyRewrite_lamps : s.tallyRewrite.lamps = s.lamps := rfl
@[simp] theorem State.tallyRewrite_talk : s.tallyRewrite.talk = s.talk := rfl
@[simp] theorem State.tallyRewrite_matrix : s.tallyRewrite.matrix = s.matrix := rfl
@[simp] theorem State.tallyRewrite_pending : s.tallyRewrite.pending = s.pending := rfl

/-! ### touchLink -/

@[simp] theorem State.touchLink_board (l : Nat) (f : LinkRec → LinkRec) : (s.touchLink l f).board = s.board := rfl
@[simp] theorem State.touchLink_plan (l : Nat) (f : LinkRec → LinkRec) : (s.touchLink l f).plan = s.plan := rfl
@[simp] theorem State.touchLink_probe (l : Nat) (f : LinkRec → LinkRec) : (s.touchLink l f).probe = s.probe := rfl
@[simp] theorem State.touchLink_bus (l : Nat) (f : LinkRec → LinkRec) : (s.touchLink l f).bus = s.bus := rfl
@[simp] theorem State.touchLink_moves (l : Nat) (f : LinkRec → LinkRec) : (s.touchLink l f).moves = s.moves := rfl
@[simp] theorem State.touchLink_lines (l : Nat) (f : LinkRec → LinkRec) : (s.touchLink l f).lines = s.lines := rfl
@[simp] theorem State.touchLink_tally (l : Nat) (f : LinkRec → LinkRec) : (s.touchLink l f).tally = s.tally := rfl
@[simp] theorem State.touchLink_ref (l : Nat) (f : LinkRec → LinkRec) : (s.touchLink l f).ref = s.ref := rfl
@[simp] theorem State.touchLink_lamps (l : Nat) (f : LinkRec → LinkRec) : (s.touchLink l f).lamps = s.lamps := rfl
@[simp] theorem State.touchLink_talk (l : Nat) (f : LinkRec → LinkRec) : (s.touchLink l f).talk = s.talk := rfl
@[simp] theorem State.touchLink_matrix (l : Nat) (f : LinkRec → LinkRec) : (s.touchLink l f).matrix = s.matrix := rfl
@[simp] theorem State.touchLink_pending (l : Nat) (f : LinkRec → LinkRec) : (s.touchLink l f).pending = s.pending := rfl

/-! ### rewriteLink -/

@[simp] theorem State.rewriteLink_plan (l : Nat) (f : LinkRec → LinkRec) : (s.rewriteLink l f).plan = s.plan := rfl
@[simp] theorem State.rewriteLink_probe (l : Nat) (f : LinkRec → LinkRec) : (s.rewriteLink l f).probe = s.probe := rfl
@[simp] theorem State.rewriteLink_bus (l : Nat) (f : LinkRec → LinkRec) : (s.rewriteLink l f).bus = s.bus := rfl
@[simp] theorem State.rewriteLink_moves (l : Nat) (f : LinkRec → LinkRec) : (s.rewriteLink l f).moves = s.moves := rfl
@[simp] theorem State.rewriteLink_lines (l : Nat) (f : LinkRec → LinkRec) : (s.rewriteLink l f).lines = s.lines := rfl
@[simp] theorem State.rewriteLink_tally (l : Nat) (f : LinkRec → LinkRec) : (s.rewriteLink l f).tally = s.tally := rfl
@[simp] theorem State.rewriteLink_ref (l : Nat) (f : LinkRec → LinkRec) : (s.rewriteLink l f).ref = s.ref := rfl
@[simp] theorem State.rewriteLink_lamps (l : Nat) (f : LinkRec → LinkRec) : (s.rewriteLink l f).lamps = s.lamps := rfl
@[simp] theorem State.rewriteLink_talk (l : Nat) (f : LinkRec → LinkRec) : (s.rewriteLink l f).talk = s.talk := rfl
@[simp] theorem State.rewriteLink_matrix (l : Nat) (f : LinkRec → LinkRec) : (s.rewriteLink l f).matrix = s.matrix := rfl
@[simp] theorem State.rewriteLink_pending (l : Nat) (f : LinkRec → LinkRec) : (s.rewriteLink l f).pending = s.pending := rfl

/-! ### touchCtx -/

@[simp] theorem State.touchCtx_board (c : Nat) (f : Ctx → Ctx) : (s.touchCtx c f).board = s.board := rfl
@[simp] theorem State.touchCtx_plan (c : Nat) (f : Ctx → Ctx) : (s.touchCtx c f).plan = s.plan := rfl
@[simp] theorem State.touchCtx_probe (c : Nat) (f : Ctx → Ctx) : (s.touchCtx c f).probe = s.probe := rfl
@[simp] theorem State.touchCtx_bus (c : Nat) (f : Ctx → Ctx) : (s.touchCtx c f).bus = s.bus := rfl
@[simp] theorem State.touchCtx_links (c : Nat) (f : Ctx → Ctx) : (s.touchCtx c f).links = s.links := rfl
@[simp] theorem State.touchCtx_lines (c : Nat) (f : Ctx → Ctx) : (s.touchCtx c f).lines = s.lines := rfl
@[simp] theorem State.touchCtx_tally (c : Nat) (f : Ctx → Ctx) : (s.touchCtx c f).tally = s.tally := rfl
@[simp] theorem State.touchCtx_ref (c : Nat) (f : Ctx → Ctx) : (s.touchCtx c f).ref = s.ref := rfl
@[simp] theorem State.touchCtx_lamps (c : Nat) (f : Ctx → Ctx) : (s.touchCtx c f).lamps = s.lamps := rfl
@[simp] theorem State.touchCtx_talk (c : Nat) (f : Ctx → Ctx) : (s.touchCtx c f).talk = s.talk := rfl
@[simp] theorem State.touchCtx_matrix (c : Nat) (f : Ctx → Ctx) : (s.touchCtx c f).matrix = s.matrix := rfl
@[simp] theorem State.touchCtx_pending (c : Nat) (f : Ctx → Ctx) : (s.touchCtx c f).pending = s.pending := rfl

/-! ### rewriteCtx -/

@[simp] theorem State.rewriteCtx_plan (c : Nat) (f : Ctx → Ctx) : (s.rewriteCtx c f).plan = s.plan := rfl
@[simp] theorem State.rewriteCtx_probe (c : Nat) (f : Ctx → Ctx) : (s.rewriteCtx c f).probe = s.probe := rfl
@[simp] theorem State.rewriteCtx_bus (c : Nat) (f : Ctx → Ctx) : (s.rewriteCtx c f).bus = s.bus := rfl
@[simp] theorem State.rewriteCtx_links (c : Nat) (f : Ctx → Ctx) : (s.rewriteCtx c f).links = s.links := rfl
@[simp] theorem State.rewriteCtx_lines (c : Nat) (f : Ctx → Ctx) : (s.rewriteCtx c f).lines = s.lines := rfl
@[simp] theorem State.rewriteCtx_tally (c : Nat) (f : Ctx → Ctx) : (s.rewriteCtx c f).tally = s.tally := rfl
@[simp] theorem State.rewriteCtx_ref (c : Nat) (f : Ctx → Ctx) : (s.rewriteCtx c f).ref = s.ref := rfl
@[simp] theorem State.rewriteCtx_lamps (c : Nat) (f : Ctx → Ctx) : (s.rewriteCtx c f).lamps = s.lamps := rfl
@[simp] theorem State.rewriteCtx_talk (c : Nat) (f : Ctx → Ctx) : (s.rewriteCtx c f).talk = s.talk := rfl
@[simp] theorem State.rewriteCtx_matrix (c : Nat) (f : Ctx → Ctx) : (s.rewriteCtx c f).matrix = s.matrix := rfl
@[simp] theorem State.rewriteCtx_pending (c : Nat) (f : Ctx → Ctx) : (s.rewriteCtx c f).pending = s.pending := rfl

/-! ### touchLine -/

@[simp] theorem State.touchLine_board (n : Nat) (f : Line → Line) : (s.touchLine n f).board = s.board := rfl
@[simp] theorem State.touchLine_plan (n : Nat) (f : Line → Line) : (s.touchLine n f).plan = s.plan := rfl
@[simp] theorem State.touchLine_probe (n : Nat) (f : Line → Line) : (s.touchLine n f).probe = s.probe := rfl
@[simp] theorem State.touchLine_bus (n : Nat) (f : Line → Line) : (s.touchLine n f).bus = s.bus := rfl
@[simp] theorem State.touchLine_links (n : Nat) (f : Line → Line) : (s.touchLine n f).links = s.links := rfl
@[simp] theorem State.touchLine_moves (n : Nat) (f : Line → Line) : (s.touchLine n f).moves = s.moves := rfl
@[simp] theorem State.touchLine_tally (n : Nat) (f : Line → Line) : (s.touchLine n f).tally = s.tally := rfl
@[simp] theorem State.touchLine_ref (n : Nat) (f : Line → Line) : (s.touchLine n f).ref = s.ref := rfl
@[simp] theorem State.touchLine_lamps (n : Nat) (f : Line → Line) : (s.touchLine n f).lamps = s.lamps := rfl
@[simp] theorem State.touchLine_talk (n : Nat) (f : Line → Line) : (s.touchLine n f).talk = s.talk := rfl
@[simp] theorem State.touchLine_matrix (n : Nat) (f : Line → Line) : (s.touchLine n f).matrix = s.matrix := rfl
@[simp] theorem State.touchLine_pending (n : Nat) (f : Line → Line) : (s.touchLine n f).pending = s.pending := rfl

/-! ### rewriteLine -/

@[simp] theorem State.rewriteLine_plan (n : Nat) (f : Line → Line) : (s.rewriteLine n f).plan = s.plan := rfl
@[simp] theorem State.rewriteLine_probe (n : Nat) (f : Line → Line) : (s.rewriteLine n f).probe = s.probe := rfl
@[simp] theorem State.rewriteLine_bus (n : Nat) (f : Line → Line) : (s.rewriteLine n f).bus = s.bus := rfl
@[simp] theorem State.rewriteLine_links (n : Nat) (f : Line → Line) : (s.rewriteLine n f).links = s.links := rfl
@[simp] theorem State.rewriteLine_moves (n : Nat) (f : Line → Line) : (s.rewriteLine n f).moves = s.moves := rfl
@[simp] theorem State.rewriteLine_tally (n : Nat) (f : Line → Line) : (s.rewriteLine n f).tally = s.tally := rfl
@[simp] theorem State.rewriteLine_ref (n : Nat) (f : Line → Line) : (s.rewriteLine n f).ref = s.ref := rfl
@[simp] theorem State.rewriteLine_lamps (n : Nat) (f : Line → Line) : (s.rewriteLine n f).lamps = s.lamps := rfl
@[simp] theorem State.rewriteLine_talk (n : Nat) (f : Line → Line) : (s.rewriteLine n f).talk = s.talk := rfl
@[simp] theorem State.rewriteLine_matrix (n : Nat) (f : Line → Line) : (s.rewriteLine n f).matrix = s.matrix := rfl
@[simp] theorem State.rewriteLine_pending (n : Nat) (f : Line → Line) : (s.rewriteLine n f).pending = s.pending := rfl

/-! ### touchLamp -/

@[simp] theorem State.touchLamp_board (n : Nat) (f : Lamp → Lamp) : (s.touchLamp n f).board = s.board := rfl
@[simp] theorem State.touchLamp_plan (n : Nat) (f : Lamp → Lamp) : (s.touchLamp n f).plan = s.plan := rfl
@[simp] theorem State.touchLamp_probe (n : Nat) (f : Lamp → Lamp) : (s.touchLamp n f).probe = s.probe := rfl
@[simp] theorem State.touchLamp_bus (n : Nat) (f : Lamp → Lamp) : (s.touchLamp n f).bus = s.bus := rfl
@[simp] theorem State.touchLamp_links (n : Nat) (f : Lamp → Lamp) : (s.touchLamp n f).links = s.links := rfl
@[simp] theorem State.touchLamp_moves (n : Nat) (f : Lamp → Lamp) : (s.touchLamp n f).moves = s.moves := rfl
@[simp] theorem State.touchLamp_lines (n : Nat) (f : Lamp → Lamp) : (s.touchLamp n f).lines = s.lines := rfl
@[simp] theorem State.touchLamp_tally (n : Nat) (f : Lamp → Lamp) : (s.touchLamp n f).tally = s.tally := rfl
@[simp] theorem State.touchLamp_ref (n : Nat) (f : Lamp → Lamp) : (s.touchLamp n f).ref = s.ref := rfl
@[simp] theorem State.touchLamp_talk (n : Nat) (f : Lamp → Lamp) : (s.touchLamp n f).talk = s.talk := rfl
@[simp] theorem State.touchLamp_matrix (n : Nat) (f : Lamp → Lamp) : (s.touchLamp n f).matrix = s.matrix := rfl
@[simp] theorem State.touchLamp_pending (n : Nat) (f : Lamp → Lamp) : (s.touchLamp n f).pending = s.pending := rfl

/-! ### rewriteLamp -/

@[simp] theorem State.rewriteLamp_board (n : Nat) (f : Lamp → Lamp) : (s.rewriteLamp n f).board = s.board := rfl
@[simp] theorem State.rewriteLamp_plan (n : Nat) (f : Lamp → Lamp) : (s.rewriteLamp n f).plan = s.plan := rfl
@[simp] theorem State.rewriteLamp_probe (n : Nat) (f : Lamp → Lamp) : (s.rewriteLamp n f).probe = s.probe := rfl
@[simp] theorem State.rewriteLamp_bus (n : Nat) (f : Lamp → Lamp) : (s.rewriteLamp n f).bus = s.bus := rfl
@[simp] theorem State.rewriteLamp_links (n : Nat) (f : Lamp → Lamp) : (s.rewriteLamp n f).links = s.links := rfl
@[simp] theorem State.rewriteLamp_moves (n : Nat) (f : Lamp → Lamp) : (s.rewriteLamp n f).moves = s.moves := rfl
@[simp] theorem State.rewriteLamp_lines (n : Nat) (f : Lamp → Lamp) : (s.rewriteLamp n f).lines = s.lines := rfl
@[simp] theorem State.rewriteLamp_tally (n : Nat) (f : Lamp → Lamp) : (s.rewriteLamp n f).tally = s.tally := rfl
@[simp] theorem State.rewriteLamp_ref (n : Nat) (f : Lamp → Lamp) : (s.rewriteLamp n f).ref = s.ref := rfl
@[simp] theorem State.rewriteLamp_talk (n : Nat) (f : Lamp → Lamp) : (s.rewriteLamp n f).talk = s.talk := rfl
@[simp] theorem State.rewriteLamp_matrix (n : Nat) (f : Lamp → Lamp) : (s.rewriteLamp n f).matrix = s.matrix := rfl
@[simp] theorem State.rewriteLamp_pending (n : Nat) (f : Lamp → Lamp) : (s.rewriteLamp n f).pending = s.pending := rfl

/-! ### setSlot -/

@[simp] theorem State.setSlot_plan (n : Nat) (t : SlotState) : (s.setSlot n t).plan = s.plan := rfl
@[simp] theorem State.setSlot_probe (n : Nat) (t : SlotState) : (s.setSlot n t).probe = s.probe := rfl
@[simp] theorem State.setSlot_bus (n : Nat) (t : SlotState) : (s.setSlot n t).bus = s.bus := rfl
@[simp] theorem State.setSlot_links (n : Nat) (t : SlotState) : (s.setSlot n t).links = s.links := rfl
@[simp] theorem State.setSlot_moves (n : Nat) (t : SlotState) : (s.setSlot n t).moves = s.moves := rfl
@[simp] theorem State.setSlot_lines (n : Nat) (t : SlotState) : (s.setSlot n t).lines = s.lines := rfl
@[simp] theorem State.setSlot_tally (n : Nat) (t : SlotState) : (s.setSlot n t).tally = s.tally := rfl
@[simp] theorem State.setSlot_ref (n : Nat) (t : SlotState) : (s.setSlot n t).ref = s.ref := rfl
@[simp] theorem State.setSlot_lamps (n : Nat) (t : SlotState) : (s.setSlot n t).lamps = s.lamps := rfl
@[simp] theorem State.setSlot_talk (n : Nat) (t : SlotState) : (s.setSlot n t).talk = s.talk := rfl
@[simp] theorem State.setSlot_matrix (n : Nat) (t : SlotState) : (s.setSlot n t).matrix = s.matrix := rfl
@[simp] theorem State.setSlot_pending (n : Nat) (t : SlotState) : (s.setSlot n t).pending = s.pending := rfl

/-! ### setSlotWord -/

@[simp] theorem State.setSlotWord_plan (n w : Nat) (v : Word) : (s.setSlotWord n w v).plan = s.plan := rfl
@[simp] theorem State.setSlotWord_probe (n w : Nat) (v : Word) : (s.setSlotWord n w v).probe = s.probe := rfl
@[simp] theorem State.setSlotWord_bus (n w : Nat) (v : Word) : (s.setSlotWord n w v).bus = s.bus := rfl
@[simp] theorem State.setSlotWord_links (n w : Nat) (v : Word) : (s.setSlotWord n w v).links = s.links := rfl
@[simp] theorem State.setSlotWord_moves (n w : Nat) (v : Word) : (s.setSlotWord n w v).moves = s.moves := rfl
@[simp] theorem State.setSlotWord_lines (n w : Nat) (v : Word) : (s.setSlotWord n w v).lines = s.lines := rfl
@[simp] theorem State.setSlotWord_tally (n w : Nat) (v : Word) : (s.setSlotWord n w v).tally = s.tally := rfl
@[simp] theorem State.setSlotWord_ref (n w : Nat) (v : Word) : (s.setSlotWord n w v).ref = s.ref := rfl
@[simp] theorem State.setSlotWord_lamps (n w : Nat) (v : Word) : (s.setSlotWord n w v).lamps = s.lamps := rfl
@[simp] theorem State.setSlotWord_talk (n w : Nat) (v : Word) : (s.setSlotWord n w v).talk = s.talk := rfl
@[simp] theorem State.setSlotWord_matrix (n w : Nat) (v : Word) : (s.setSlotWord n w v).matrix = s.matrix := rfl
@[simp] theorem State.setSlotWord_pending (n w : Nat) (v : Word) : (s.setSlotWord n w v).pending = s.pending := rfl

/-! ### setEntry -/

@[simp] theorem State.setEntry_board (n : Nat) (f : PlanEntry → PlanEntry) : (s.setEntry n f).board = s.board := rfl
@[simp] theorem State.setEntry_probe (n : Nat) (f : PlanEntry → PlanEntry) : (s.setEntry n f).probe = s.probe := rfl
@[simp] theorem State.setEntry_bus (n : Nat) (f : PlanEntry → PlanEntry) : (s.setEntry n f).bus = s.bus := rfl
@[simp] theorem State.setEntry_links (n : Nat) (f : PlanEntry → PlanEntry) : (s.setEntry n f).links = s.links := rfl
@[simp] theorem State.setEntry_moves (n : Nat) (f : PlanEntry → PlanEntry) : (s.setEntry n f).moves = s.moves := rfl
@[simp] theorem State.setEntry_lines (n : Nat) (f : PlanEntry → PlanEntry) : (s.setEntry n f).lines = s.lines := rfl
@[simp] theorem State.setEntry_tally (n : Nat) (f : PlanEntry → PlanEntry) : (s.setEntry n f).tally = s.tally := rfl
@[simp] theorem State.setEntry_ref (n : Nat) (f : PlanEntry → PlanEntry) : (s.setEntry n f).ref = s.ref := rfl
@[simp] theorem State.setEntry_lamps (n : Nat) (f : PlanEntry → PlanEntry) : (s.setEntry n f).lamps = s.lamps := rfl
@[simp] theorem State.setEntry_talk (n : Nat) (f : PlanEntry → PlanEntry) : (s.setEntry n f).talk = s.talk := rfl
@[simp] theorem State.setEntry_matrix (n : Nat) (f : PlanEntry → PlanEntry) : (s.setEntry n f).matrix = s.matrix := rfl
@[simp] theorem State.setEntry_pending (n : Nat) (f : PlanEntry → PlanEntry) : (s.setEntry n f).pending = s.pending := rfl

/-! ### setRefreshPending -/

@[simp] theorem State.setRefreshPending_board : s.setRefreshPending.board = s.board := rfl
@[simp] theorem State.setRefreshPending_probe : s.setRefreshPending.probe = s.probe := rfl
@[simp] theorem State.setRefreshPending_bus : s.setRefreshPending.bus = s.bus := rfl
@[simp] theorem State.setRefreshPending_links : s.setRefreshPending.links = s.links := rfl
@[simp] theorem State.setRefreshPending_moves : s.setRefreshPending.moves = s.moves := rfl
@[simp] theorem State.setRefreshPending_lines : s.setRefreshPending.lines = s.lines := rfl
@[simp] theorem State.setRefreshPending_tally : s.setRefreshPending.tally = s.tally := rfl
@[simp] theorem State.setRefreshPending_ref : s.setRefreshPending.ref = s.ref := rfl
@[simp] theorem State.setRefreshPending_lamps : s.setRefreshPending.lamps = s.lamps := rfl
@[simp] theorem State.setRefreshPending_talk : s.setRefreshPending.talk = s.talk := rfl
@[simp] theorem State.setRefreshPending_matrix : s.setRefreshPending.matrix = s.matrix := rfl
@[simp] theorem State.setRefreshPending_pending : s.setRefreshPending.pending = s.pending := rfl

/-! ### freeEntry -/

@[simp] theorem State.freeEntry_probe (n : Nat) : (s.freeEntry n).probe = s.probe := rfl
@[simp] theorem State.freeEntry_bus (n : Nat) : (s.freeEntry n).bus = s.bus := rfl
@[simp] theorem State.freeEntry_links (n : Nat) : (s.freeEntry n).links = s.links := rfl
@[simp] theorem State.freeEntry_moves (n : Nat) : (s.freeEntry n).moves = s.moves := rfl
@[simp] theorem State.freeEntry_lines (n : Nat) : (s.freeEntry n).lines = s.lines := rfl
@[simp] theorem State.freeEntry_tally (n : Nat) : (s.freeEntry n).tally = s.tally := rfl
@[simp] theorem State.freeEntry_ref (n : Nat) : (s.freeEntry n).ref = s.ref := rfl
@[simp] theorem State.freeEntry_lamps (n : Nat) : (s.freeEntry n).lamps = s.lamps := rfl
@[simp] theorem State.freeEntry_talk (n : Nat) : (s.freeEntry n).talk = s.talk := rfl
@[simp] theorem State.freeEntry_matrix (n : Nat) : (s.freeEntry n).matrix = s.matrix := rfl
@[simp] theorem State.freeEntry_pending (n : Nat) : (s.freeEntry n).pending = s.pending := rfl

/-! ### pushJob -/

@[simp] theorem State.pushJob_board (j : Job) : (s.pushJob j).board = s.board := rfl
@[simp] theorem State.pushJob_probe (j : Job) : (s.pushJob j).probe = s.probe := rfl
@[simp] theorem State.pushJob_bus (j : Job) : (s.pushJob j).bus = s.bus := rfl
@[simp] theorem State.pushJob_links (j : Job) : (s.pushJob j).links = s.links := rfl
@[simp] theorem State.pushJob_moves (j : Job) : (s.pushJob j).moves = s.moves := rfl
@[simp] theorem State.pushJob_lines (j : Job) : (s.pushJob j).lines = s.lines := rfl
@[simp] theorem State.pushJob_tally (j : Job) : (s.pushJob j).tally = s.tally := rfl
@[simp] theorem State.pushJob_ref (j : Job) : (s.pushJob j).ref = s.ref := rfl
@[simp] theorem State.pushJob_lamps (j : Job) : (s.pushJob j).lamps = s.lamps := rfl
@[simp] theorem State.pushJob_talk (j : Job) : (s.pushJob j).talk = s.talk := rfl
@[simp] theorem State.pushJob_matrix (j : Job) : (s.pushJob j).matrix = s.matrix := rfl
@[simp] theorem State.pushJob_pending (j : Job) : (s.pushJob j).pending = s.pending := rfl

/-! ### setWork -/

@[simp] theorem State.setWork_board (w : Work) : (s.setWork w).board = s.board := rfl
@[simp] theorem State.setWork_probe (w : Work) : (s.setWork w).probe = s.probe := rfl
@[simp] theorem State.setWork_bus (w : Work) : (s.setWork w).bus = s.bus := rfl
@[simp] theorem State.setWork_links (w : Work) : (s.setWork w).links = s.links := rfl
@[simp] theorem State.setWork_moves (w : Work) : (s.setWork w).moves = s.moves := rfl
@[simp] theorem State.setWork_lines (w : Work) : (s.setWork w).lines = s.lines := rfl
@[simp] theorem State.setWork_tally (w : Work) : (s.setWork w).tally = s.tally := rfl
@[simp] theorem State.setWork_ref (w : Work) : (s.setWork w).ref = s.ref := rfl
@[simp] theorem State.setWork_lamps (w : Work) : (s.setWork w).lamps = s.lamps := rfl
@[simp] theorem State.setWork_talk (w : Work) : (s.setWork w).talk = s.talk := rfl
@[simp] theorem State.setWork_matrix (w : Work) : (s.setWork w).matrix = s.matrix := rfl
@[simp] theorem State.setWork_pending (w : Work) : (s.setWork w).pending = s.pending := rfl

/-! ### withdrawJob -/

@[simp] theorem State.withdrawJob_board (j : JobSource) : (s.withdrawJob j).board = s.board := rfl
@[simp] theorem State.withdrawJob_probe (j : JobSource) : (s.withdrawJob j).probe = s.probe := rfl
@[simp] theorem State.withdrawJob_bus (j : JobSource) : (s.withdrawJob j).bus = s.bus := rfl
@[simp] theorem State.withdrawJob_links (j : JobSource) : (s.withdrawJob j).links = s.links := rfl
@[simp] theorem State.withdrawJob_moves (j : JobSource) : (s.withdrawJob j).moves = s.moves := rfl
@[simp] theorem State.withdrawJob_lines (j : JobSource) : (s.withdrawJob j).lines = s.lines := rfl
@[simp] theorem State.withdrawJob_tally (j : JobSource) : (s.withdrawJob j).tally = s.tally := rfl
@[simp] theorem State.withdrawJob_ref (j : JobSource) : (s.withdrawJob j).ref = s.ref := rfl
@[simp] theorem State.withdrawJob_lamps (j : JobSource) : (s.withdrawJob j).lamps = s.lamps := rfl
@[simp] theorem State.withdrawJob_talk (j : JobSource) : (s.withdrawJob j).talk = s.talk := rfl
@[simp] theorem State.withdrawJob_matrix (j : JobSource) : (s.withdrawJob j).matrix = s.matrix := rfl
@[simp] theorem State.withdrawJob_pending (j : JobSource) : (s.withdrawJob j).pending = s.pending := rfl

/-! ### setDest -/

@[simp] theorem State.setDest_board (l : Nat) (f : Dest → Dest) : (s.setDest l f).board = s.board := rfl
@[simp] theorem State.setDest_plan (l : Nat) (f : Dest → Dest) : (s.setDest l f).plan = s.plan := rfl
@[simp] theorem State.setDest_probe (l : Nat) (f : Dest → Dest) : (s.setDest l f).probe = s.probe := rfl
@[simp] theorem State.setDest_bus (l : Nat) (f : Dest → Dest) : (s.setDest l f).bus = s.bus := rfl
@[simp] theorem State.setDest_links (l : Nat) (f : Dest → Dest) : (s.setDest l f).links = s.links := rfl
@[simp] theorem State.setDest_moves (l : Nat) (f : Dest → Dest) : (s.setDest l f).moves = s.moves := rfl
@[simp] theorem State.setDest_lines (l : Nat) (f : Dest → Dest) : (s.setDest l f).lines = s.lines := rfl
@[simp] theorem State.setDest_tally (l : Nat) (f : Dest → Dest) : (s.setDest l f).tally = s.tally := rfl
@[simp] theorem State.setDest_ref (l : Nat) (f : Dest → Dest) : (s.setDest l f).ref = s.ref := rfl
@[simp] theorem State.setDest_lamps (l : Nat) (f : Dest → Dest) : (s.setDest l f).lamps = s.lamps := rfl
@[simp] theorem State.setDest_matrix (l : Nat) (f : Dest → Dest) : (s.setDest l f).matrix = s.matrix := rfl
@[simp] theorem State.setDest_pending (l : Nat) (f : Dest → Dest) : (s.setDest l f).pending = s.pending := rfl

/-! ### setKey -/

@[simp] theorem State.setKey_board (p : Nat) (f : Key → Key) : (s.setKey p f).board = s.board := rfl
@[simp] theorem State.setKey_plan (p : Nat) (f : Key → Key) : (s.setKey p f).plan = s.plan := rfl
@[simp] theorem State.setKey_probe (p : Nat) (f : Key → Key) : (s.setKey p f).probe = s.probe := rfl
@[simp] theorem State.setKey_bus (p : Nat) (f : Key → Key) : (s.setKey p f).bus = s.bus := rfl
@[simp] theorem State.setKey_links (p : Nat) (f : Key → Key) : (s.setKey p f).links = s.links := rfl
@[simp] theorem State.setKey_moves (p : Nat) (f : Key → Key) : (s.setKey p f).moves = s.moves := rfl
@[simp] theorem State.setKey_lines (p : Nat) (f : Key → Key) : (s.setKey p f).lines = s.lines := rfl
@[simp] theorem State.setKey_tally (p : Nat) (f : Key → Key) : (s.setKey p f).tally = s.tally := rfl
@[simp] theorem State.setKey_ref (p : Nat) (f : Key → Key) : (s.setKey p f).ref = s.ref := rfl
@[simp] theorem State.setKey_lamps (p : Nat) (f : Key → Key) : (s.setKey p f).lamps = s.lamps := rfl
@[simp] theorem State.setKey_matrix (p : Nat) (f : Key → Key) : (s.setKey p f).matrix = s.matrix := rfl
@[simp] theorem State.setKey_pending (p : Nat) (f : Key → Key) : (s.setKey p f).pending = s.pending := rfl

/-! ### duckRecompute -/

@[simp] theorem State.duckRecompute_board (l : Nat) : (s.duckRecompute l).board = s.board := rfl
@[simp] theorem State.duckRecompute_plan (l : Nat) : (s.duckRecompute l).plan = s.plan := rfl
@[simp] theorem State.duckRecompute_probe (l : Nat) : (s.duckRecompute l).probe = s.probe := rfl
@[simp] theorem State.duckRecompute_bus (l : Nat) : (s.duckRecompute l).bus = s.bus := rfl
@[simp] theorem State.duckRecompute_links (l : Nat) : (s.duckRecompute l).links = s.links := rfl
@[simp] theorem State.duckRecompute_moves (l : Nat) : (s.duckRecompute l).moves = s.moves := rfl
@[simp] theorem State.duckRecompute_lines (l : Nat) : (s.duckRecompute l).lines = s.lines := rfl
@[simp] theorem State.duckRecompute_tally (l : Nat) : (s.duckRecompute l).tally = s.tally := rfl
@[simp] theorem State.duckRecompute_ref (l : Nat) : (s.duckRecompute l).ref = s.ref := rfl
@[simp] theorem State.duckRecompute_lamps (l : Nat) : (s.duckRecompute l).lamps = s.lamps := rfl
@[simp] theorem State.duckRecompute_matrix (l : Nat) : (s.duckRecompute l).matrix = s.matrix := rfl
@[simp] theorem State.duckRecompute_pending (l : Nat) : (s.duckRecompute l).pending = s.pending := rfl

/-! ### setLinkTally -/

@[simp] theorem State.setLinkTally_board (l : Nat) (f : LinkTally → LinkTally) : (s.setLinkTally l f).board = s.board := rfl
@[simp] theorem State.setLinkTally_plan (l : Nat) (f : LinkTally → LinkTally) : (s.setLinkTally l f).plan = s.plan := rfl
@[simp] theorem State.setLinkTally_probe (l : Nat) (f : LinkTally → LinkTally) : (s.setLinkTally l f).probe = s.probe := rfl
@[simp] theorem State.setLinkTally_bus (l : Nat) (f : LinkTally → LinkTally) : (s.setLinkTally l f).bus = s.bus := rfl
@[simp] theorem State.setLinkTally_links (l : Nat) (f : LinkTally → LinkTally) : (s.setLinkTally l f).links = s.links := rfl
@[simp] theorem State.setLinkTally_moves (l : Nat) (f : LinkTally → LinkTally) : (s.setLinkTally l f).moves = s.moves := rfl
@[simp] theorem State.setLinkTally_lines (l : Nat) (f : LinkTally → LinkTally) : (s.setLinkTally l f).lines = s.lines := rfl
@[simp] theorem State.setLinkTally_ref (l : Nat) (f : LinkTally → LinkTally) : (s.setLinkTally l f).ref = s.ref := rfl
@[simp] theorem State.setLinkTally_lamps (l : Nat) (f : LinkTally → LinkTally) : (s.setLinkTally l f).lamps = s.lamps := rfl
@[simp] theorem State.setLinkTally_talk (l : Nat) (f : LinkTally → LinkTally) : (s.setLinkTally l f).talk = s.talk := rfl
@[simp] theorem State.setLinkTally_matrix (l : Nat) (f : LinkTally → LinkTally) : (s.setLinkTally l f).matrix = s.matrix := rfl
@[simp] theorem State.setLinkTally_pending (l : Nat) (f : LinkTally → LinkTally) : (s.setLinkTally l f).pending = s.pending := rfl

/-! ### recomputePending -/

@[simp] theorem State.recomputePending_board (l : Nat) : (s.recomputePending l).board = s.board := rfl
@[simp] theorem State.recomputePending_plan (l : Nat) : (s.recomputePending l).plan = s.plan := rfl
@[simp] theorem State.recomputePending_probe (l : Nat) : (s.recomputePending l).probe = s.probe := rfl
@[simp] theorem State.recomputePending_bus (l : Nat) : (s.recomputePending l).bus = s.bus := rfl
@[simp] theorem State.recomputePending_links (l : Nat) : (s.recomputePending l).links = s.links := rfl
@[simp] theorem State.recomputePending_moves (l : Nat) : (s.recomputePending l).moves = s.moves := rfl
@[simp] theorem State.recomputePending_lines (l : Nat) : (s.recomputePending l).lines = s.lines := rfl
@[simp] theorem State.recomputePending_ref (l : Nat) : (s.recomputePending l).ref = s.ref := rfl
@[simp] theorem State.recomputePending_lamps (l : Nat) : (s.recomputePending l).lamps = s.lamps := rfl
@[simp] theorem State.recomputePending_talk (l : Nat) : (s.recomputePending l).talk = s.talk := rfl
@[simp] theorem State.recomputePending_matrix (l : Nat) : (s.recomputePending l).matrix = s.matrix := rfl
@[simp] theorem State.recomputePending_pending (l : Nat) : (s.recomputePending l).pending = s.pending := rfl

/-! ### setProbe -/

@[simp] theorem State.setProbe_board (f : Probe → Probe) : (s.setProbe f).board = s.board := rfl
@[simp] theorem State.setProbe_plan (f : Probe → Probe) : (s.setProbe f).plan = s.plan := rfl
@[simp] theorem State.setProbe_bus (f : Probe → Probe) : (s.setProbe f).bus = s.bus := rfl
@[simp] theorem State.setProbe_links (f : Probe → Probe) : (s.setProbe f).links = s.links := rfl
@[simp] theorem State.setProbe_moves (f : Probe → Probe) : (s.setProbe f).moves = s.moves := rfl
@[simp] theorem State.setProbe_lines (f : Probe → Probe) : (s.setProbe f).lines = s.lines := rfl
@[simp] theorem State.setProbe_tally (f : Probe → Probe) : (s.setProbe f).tally = s.tally := rfl
@[simp] theorem State.setProbe_ref (f : Probe → Probe) : (s.setProbe f).ref = s.ref := rfl
@[simp] theorem State.setProbe_lamps (f : Probe → Probe) : (s.setProbe f).lamps = s.lamps := rfl
@[simp] theorem State.setProbe_talk (f : Probe → Probe) : (s.setProbe f).talk = s.talk := rfl
@[simp] theorem State.setProbe_matrix (f : Probe → Probe) : (s.setProbe f).matrix = s.matrix := rfl
@[simp] theorem State.setProbe_pending (f : Probe → Probe) : (s.setProbe f).pending = s.pending := rfl

/-! ### setRef -/

@[simp] theorem State.setRef_board (f : RefMonitor → RefMonitor) : (s.setRef f).board = s.board := rfl
@[simp] theorem State.setRef_plan (f : RefMonitor → RefMonitor) : (s.setRef f).plan = s.plan := rfl
@[simp] theorem State.setRef_probe (f : RefMonitor → RefMonitor) : (s.setRef f).probe = s.probe := rfl
@[simp] theorem State.setRef_bus (f : RefMonitor → RefMonitor) : (s.setRef f).bus = s.bus := rfl
@[simp] theorem State.setRef_links (f : RefMonitor → RefMonitor) : (s.setRef f).links = s.links := rfl
@[simp] theorem State.setRef_moves (f : RefMonitor → RefMonitor) : (s.setRef f).moves = s.moves := rfl
@[simp] theorem State.setRef_lines (f : RefMonitor → RefMonitor) : (s.setRef f).lines = s.lines := rfl
@[simp] theorem State.setRef_tally (f : RefMonitor → RefMonitor) : (s.setRef f).tally = s.tally := rfl
@[simp] theorem State.setRef_lamps (f : RefMonitor → RefMonitor) : (s.setRef f).lamps = s.lamps := rfl
@[simp] theorem State.setRef_talk (f : RefMonitor → RefMonitor) : (s.setRef f).talk = s.talk := rfl
@[simp] theorem State.setRef_matrix (f : RefMonitor → RefMonitor) : (s.setRef f).matrix = s.matrix := rfl
@[simp] theorem State.setRef_pending (f : RefMonitor → RefMonitor) : (s.setRef f).pending = s.pending := rfl

/-! ### mapBindings -/

@[simp] theorem State.mapBindings_board (f : List Binding → List Binding) : (s.mapBindings f).board = s.board := rfl
@[simp] theorem State.mapBindings_plan (f : List Binding → List Binding) : (s.mapBindings f).plan = s.plan := rfl
@[simp] theorem State.mapBindings_probe (f : List Binding → List Binding) : (s.mapBindings f).probe = s.probe := rfl
@[simp] theorem State.mapBindings_bus (f : List Binding → List Binding) : (s.mapBindings f).bus = s.bus := rfl
@[simp] theorem State.mapBindings_moves (f : List Binding → List Binding) : (s.mapBindings f).moves = s.moves := rfl
@[simp] theorem State.mapBindings_lines (f : List Binding → List Binding) : (s.mapBindings f).lines = s.lines := rfl
@[simp] theorem State.mapBindings_tally (f : List Binding → List Binding) : (s.mapBindings f).tally = s.tally := rfl
@[simp] theorem State.mapBindings_ref (f : List Binding → List Binding) : (s.mapBindings f).ref = s.ref := rfl
@[simp] theorem State.mapBindings_lamps (f : List Binding → List Binding) : (s.mapBindings f).lamps = s.lamps := rfl
@[simp] theorem State.mapBindings_talk (f : List Binding → List Binding) : (s.mapBindings f).talk = s.talk := rfl
@[simp] theorem State.mapBindings_matrix (f : List Binding → List Binding) : (s.mapBindings f).matrix = s.matrix := rfl
@[simp] theorem State.mapBindings_pending (f : List Binding → List Binding) : (s.mapBindings f).pending = s.pending := rfl

/-! ### offerLink -/

@[simp] theorem State.offerLink_board (l : Nat) (c : BusCmd) : (s.offerLink l c).board = s.board := rfl
@[simp] theorem State.offerLink_plan (l : Nat) (c : BusCmd) : (s.offerLink l c).plan = s.plan := rfl
@[simp] theorem State.offerLink_probe (l : Nat) (c : BusCmd) : (s.offerLink l c).probe = s.probe := rfl
@[simp] theorem State.offerLink_bus (l : Nat) (c : BusCmd) : (s.offerLink l c).bus = s.bus := rfl
@[simp] theorem State.offerLink_moves (l : Nat) (c : BusCmd) : (s.offerLink l c).moves = s.moves := rfl
@[simp] theorem State.offerLink_lines (l : Nat) (c : BusCmd) : (s.offerLink l c).lines = s.lines := rfl
@[simp] theorem State.offerLink_tally (l : Nat) (c : BusCmd) : (s.offerLink l c).tally = s.tally := rfl
@[simp] theorem State.offerLink_ref (l : Nat) (c : BusCmd) : (s.offerLink l c).ref = s.ref := rfl
@[simp] theorem State.offerLink_lamps (l : Nat) (c : BusCmd) : (s.offerLink l c).lamps = s.lamps := rfl
@[simp] theorem State.offerLink_talk (l : Nat) (c : BusCmd) : (s.offerLink l c).talk = s.talk := rfl
@[simp] theorem State.offerLink_matrix (l : Nat) (c : BusCmd) : (s.offerLink l c).matrix = s.matrix := rfl
@[simp] theorem State.offerLink_pending (l : Nat) (c : BusCmd) : (s.offerLink l c).pending = s.pending := rfl

/-! ### markInFlight -/

@[simp] theorem State.markInFlight_board (o : Originator) (f : Tx → Tx) : (s.markInFlight o f).board = s.board := rfl
@[simp] theorem State.markInFlight_plan (o : Originator) (f : Tx → Tx) : (s.markInFlight o f).plan = s.plan := rfl
@[simp] theorem State.markInFlight_probe (o : Originator) (f : Tx → Tx) : (s.markInFlight o f).probe = s.probe := rfl
@[simp] theorem State.markInFlight_links (o : Originator) (f : Tx → Tx) : (s.markInFlight o f).links = s.links := rfl
@[simp] theorem State.markInFlight_moves (o : Originator) (f : Tx → Tx) : (s.markInFlight o f).moves = s.moves := rfl
@[simp] theorem State.markInFlight_lines (o : Originator) (f : Tx → Tx) : (s.markInFlight o f).lines = s.lines := rfl
@[simp] theorem State.markInFlight_tally (o : Originator) (f : Tx → Tx) : (s.markInFlight o f).tally = s.tally := rfl
@[simp] theorem State.markInFlight_ref (o : Originator) (f : Tx → Tx) : (s.markInFlight o f).ref = s.ref := rfl
@[simp] theorem State.markInFlight_lamps (o : Originator) (f : Tx → Tx) : (s.markInFlight o f).lamps = s.lamps := rfl
@[simp] theorem State.markInFlight_talk (o : Originator) (f : Tx → Tx) : (s.markInFlight o f).talk = s.talk := rfl
@[simp] theorem State.markInFlight_matrix (o : Originator) (f : Tx → Tx) : (s.markInFlight o f).matrix = s.matrix := rfl
@[simp] theorem State.markInFlight_pending (o : Originator) (f : Tx → Tx) : (s.markInFlight o f).pending = s.pending := rfl

/-! ### endInstance -/

@[simp] theorem State.endInstance_board (o : Originator) : (s.endInstance o).board = s.board := rfl
@[simp] theorem State.endInstance_plan (o : Originator) : (s.endInstance o).plan = s.plan := rfl
@[simp] theorem State.endInstance_probe (o : Originator) : (s.endInstance o).probe = s.probe := rfl
@[simp] theorem State.endInstance_links (o : Originator) : (s.endInstance o).links = s.links := rfl
@[simp] theorem State.endInstance_moves (o : Originator) : (s.endInstance o).moves = s.moves := rfl
@[simp] theorem State.endInstance_lines (o : Originator) : (s.endInstance o).lines = s.lines := rfl
@[simp] theorem State.endInstance_tally (o : Originator) : (s.endInstance o).tally = s.tally := rfl
@[simp] theorem State.endInstance_ref (o : Originator) : (s.endInstance o).ref = s.ref := rfl
@[simp] theorem State.endInstance_lamps (o : Originator) : (s.endInstance o).lamps = s.lamps := rfl
@[simp] theorem State.endInstance_talk (o : Originator) : (s.endInstance o).talk = s.talk := rfl
@[simp] theorem State.endInstance_matrix (o : Originator) : (s.endInstance o).matrix = s.matrix := rfl
@[simp] theorem State.endInstance_pending (o : Originator) : (s.endInstance o).pending = s.pending := rfl

/-! ### busFreed -/

@[simp] theorem State.busFreed_board : s.busFreed.board = s.board := rfl
@[simp] theorem State.busFreed_plan : s.busFreed.plan = s.plan := rfl
@[simp] theorem State.busFreed_probe : s.busFreed.probe = s.probe := rfl
@[simp] theorem State.busFreed_links : s.busFreed.links = s.links := rfl
@[simp] theorem State.busFreed_moves : s.busFreed.moves = s.moves := rfl
@[simp] theorem State.busFreed_lines : s.busFreed.lines = s.lines := rfl
@[simp] theorem State.busFreed_tally : s.busFreed.tally = s.tally := rfl
@[simp] theorem State.busFreed_ref : s.busFreed.ref = s.ref := rfl
@[simp] theorem State.busFreed_lamps : s.busFreed.lamps = s.lamps := rfl
@[simp] theorem State.busFreed_talk : s.busFreed.talk = s.talk := rfl
@[simp] theorem State.busFreed_matrix : s.busFreed.matrix = s.matrix := rfl
@[simp] theorem State.busFreed_pending : s.busFreed.pending = s.pending := rfl

/-! ### dropAttention -/

@[simp] theorem State.dropAttention_plan : s.dropAttention.plan = s.plan := rfl
@[simp] theorem State.dropAttention_probe : s.dropAttention.probe = s.probe := rfl
@[simp] theorem State.dropAttention_bus : s.dropAttention.bus = s.bus := rfl
@[simp] theorem State.dropAttention_links : s.dropAttention.links = s.links := rfl
@[simp] theorem State.dropAttention_moves : s.dropAttention.moves = s.moves := rfl
@[simp] theorem State.dropAttention_lines : s.dropAttention.lines = s.lines := rfl
@[simp] theorem State.dropAttention_tally : s.dropAttention.tally = s.tally := rfl
@[simp] theorem State.dropAttention_ref : s.dropAttention.ref = s.ref := rfl
@[simp] theorem State.dropAttention_lamps : s.dropAttention.lamps = s.lamps := rfl
@[simp] theorem State.dropAttention_talk : s.dropAttention.talk = s.talk := rfl
@[simp] theorem State.dropAttention_matrix : s.dropAttention.matrix = s.matrix := rfl
@[simp] theorem State.dropAttention_pending : s.dropAttention.pending = s.pending := rfl

/-! ### dropWrite -/

@[simp] theorem State.dropWrite_plan : s.dropWrite.plan = s.plan := rfl
@[simp] theorem State.dropWrite_probe : s.dropWrite.probe = s.probe := rfl
@[simp] theorem State.dropWrite_bus : s.dropWrite.bus = s.bus := rfl
@[simp] theorem State.dropWrite_links : s.dropWrite.links = s.links := rfl
@[simp] theorem State.dropWrite_moves : s.dropWrite.moves = s.moves := rfl
@[simp] theorem State.dropWrite_lines : s.dropWrite.lines = s.lines := rfl
@[simp] theorem State.dropWrite_tally : s.dropWrite.tally = s.tally := rfl
@[simp] theorem State.dropWrite_ref : s.dropWrite.ref = s.ref := rfl
@[simp] theorem State.dropWrite_lamps : s.dropWrite.lamps = s.lamps := rfl
@[simp] theorem State.dropWrite_talk : s.dropWrite.talk = s.talk := rfl
@[simp] theorem State.dropWrite_matrix : s.dropWrite.matrix = s.matrix := rfl
@[simp] theorem State.dropWrite_pending : s.dropWrite.pending = s.pending := rfl

/-! ### What the elementary updates write -/

@[simp] theorem State.raise_events (e : Event) : (s.raise e).board.events = s.board.events ||| e.bit := rfl
@[simp] theorem State.raise_enable (e : Event) : (s.raise e).board.enable = s.board.enable := rfl
@[simp] theorem State.raise_slots (e : Event) : (s.raise e).board.slots = s.board.slots := rfl
@[simp] theorem State.raise_body (e : Event) : (s.raise e).board.body = s.board.body := rfl
@[simp] theorem State.raise_attention (e : Event) : (s.raise e).board.attention = s.board.attention := rfl
@[simp] theorem State.raise_time (e : Event) : (s.raise e).board.time = s.board.time := rfl
@[simp] theorem State.raise_ready (e : Event) : (s.raise e).board.ready = s.board.ready := rfl
@[simp] theorem State.raise_latch (e : Event) : (s.raise e).board.latch = s.board.latch := rfl
@[simp] theorem State.setSlot_slots (n : Nat) (t : SlotState) : (s.setSlot n t).board.slots = put s.board.slots n t := rfl
@[simp] theorem State.setSlot_body (n : Nat) (t : SlotState) : (s.setSlot n t).board.body = s.board.body := rfl
@[simp] theorem State.setSlot_attention (n : Nat) (t : SlotState) : (s.setSlot n t).board.attention = s.board.attention := rfl
@[simp] theorem State.setSlotWord_slots (n w : Nat) (v : Word) : (s.setSlotWord n w v).board.slots = s.board.slots := rfl
@[simp] theorem State.setSlotWord_attention (n w : Nat) (v : Word) : (s.setSlotWord n w v).board.attention = s.board.attention := rfl
@[simp] theorem State.setSlotWord_body (n w : Nat) (v : Word) :
    (s.setSlotWord n w v).board.body = s.board.body.write (slotAddr n w) v := rfl
@[simp] theorem State.planRewrite_edition : s.planRewrite.plan.edition = s.plan.edition + 1 := rfl
@[simp] theorem State.planRewrite_entries : s.planRewrite.plan.entries = s.plan.entries := rfl
@[simp] theorem State.setEntry_entries (n : Nat) (f : PlanEntry → PlanEntry) :
    (s.setEntry n f).plan.entries = adjust s.plan.entries n f := rfl
@[simp] theorem State.setWork_work (w : Work) : (s.setWork w).plan.work = w := rfl
@[simp] theorem State.pushJob_waiting (j : Job) : (s.pushJob j).plan.waiting = s.plan.waiting ++ [j] := rfl
@[simp] theorem State.setProbe_probe (f : Probe → Probe) : (s.setProbe f).probe = f s.probe := rfl
@[simp] theorem State.setRef_ref (f : RefMonitor → RefMonitor) : (s.setRef f).ref = f s.ref := rfl
@[simp] theorem State.dropAttention_attention : s.dropAttention.board.attention = s.board.attention.drop 1 := rfl

end Sys2Proof.Machine
end

