-- ==== Sys2Proof/Laws/Ops.lean ====
section
/-! SUPPORT. What the shared operations do: fixed tables, sparse tables in canonical form, and the completion of a request. -/

namespace Sys2Proof.Machine

/-! ## Fixed tables -/

/-- Reading the record just put, inside the table. -/
@[simp] theorem look_put_same {α : Type} {n : Nat} [Inhabited α] (v : Vector α n) (i : Nat) (a : α) (h : i < n) :
    look (put v i a) i = a := by
  simp [look, put, h]

/-- Putting a record leaves every other place alone. -/
@[simp] theorem look_put_ne {α : Type} {n : Nat} [Inhabited α] (v : Vector α n) (i j : Nat) (a : α) (h : i ≠ j) :
    look (put v i a) j = look v j := by
  simp [look, put, h]

/-- Reading the record just adjusted, inside the table. -/
@[simp] theorem look_adjust_same {α : Type} {n : Nat} [Inhabited α] (v : Vector α n) (i : Nat) (f : α → α) (h : i < n) :
    look (adjust v i f) i = f (look v i) := look_put_same v i _ h

/-- Adjusting a record leaves every other place alone. -/
@[simp] theorem look_adjust_ne {α : Type} {n : Nat} [Inhabited α] (v : Vector α n) (i j : Nat) (f : α → α) (h : i ≠ j) :
    look (adjust v i f) j = look v j := look_put_ne v i j _ h

/-- A later put at the same place wins. -/
@[simp] theorem put_put {α : Type} {n : Nat} (v : Vector α n) (i : Nat) (a b : α) : put (put v i a) i b = put v i b := by
  simp [put]

/-- A table read at a place after a function was applied to every record. -/
theorem look_mapTable {α β : Type} {n : Nat} [Inhabited α] [Inhabited β] (f : Nat → α → β) (v : Vector α n) (i : Nat) (h : i < n) :
    look (mapTable f v) i = f i (look v i) := by
  simp [look, mapTable, h]

/-! ## Sparse tables -/

/-- Reading the key just inserted. -/
theorem Cells.get_insert_same {α : Type} (d : α) (m : Cells α) (k : Nat) (v : α) : Cells.get d (Cells.insert m k v) k = v := by
  induction m with
  | nil => simp [Cells.insert, Cells.get]
  | cons e m ih =>
    obtain ⟨a, w⟩ := e
    simp only [Cells.insert]
    split
    · simp [Cells.get]
    · split
      · simp [Cells.get]
      · simp [Cells.get, *]

/-- Inserting leaves every other key alone. -/
theorem Cells.get_insert_ne {α : Type} (d : α) (m : Cells α) (k j : Nat) (v : α) (h : k ≠ j) :
    Cells.get d (Cells.insert m k v) j = Cells.get d m j := by
  induction m with
  | nil => simp [Cells.insert, Cells.get, h]
  | cons e m ih =>
    obtain ⟨a, w⟩ := e
    simp only [Cells.insert]
    split
    · simp [Cells.get, h]
    · split
      · subst_vars; simp [Cells.get, h]
      · simp [Cells.get, ih]

/-- Erasing leaves every other key alone. -/
theorem Cells.get_erase_ne {α : Type} (d : α) (m : Cells α) (k j : Nat) (h : k ≠ j) :
    Cells.get d (Cells.erase m k) j = Cells.get d m j := by
  induction m with
  | nil => rfl
  | cons e m ih =>
    obtain ⟨a, w⟩ := e
    simp only [Cells.erase]
    split
    · subst_vars; simp [Cells.get, h]
    · simp [Cells.get, ih]

/-- The bound below a canonical table may be lowered. -/
theorem Cells.wfFrom_lower {α : Type} [DecidableEq α] (d : α) (m : Cells α) (b c : Nat) (hbc : c ≤ b) (h : Cells.wfFrom d (some b) m = true) :
    Cells.wfFrom d (some c) m = true := by
  cases m with
  | nil => rfl
  | cons e m => obtain ⟨a, w⟩ := e; simp [Cells.wfFrom] at h ⊢; exact ⟨⟨by omega, h.1.2⟩, h.2⟩

/-- A canonical table has no lower bound to fear. -/
theorem Cells.wfFrom_none {α : Type} [DecidableEq α] (d : α) (m : Cells α) (b : Nat) (h : Cells.wfFrom d (some b) m = true) :
    Cells.wfFrom d none m = true := by
  cases m with
  | nil => rfl
  | cons e m => obtain ⟨a, w⟩ := e; simp [Cells.wfFrom] at h ⊢; exact ⟨h.1.2, h.2⟩

/-- A key at or below the bound of a canonical table is unlisted. -/
theorem Cells.get_below {α : Type} [DecidableEq α] (d : α) (m : Cells α) (b k : Nat) (hk : k ≤ b) (h : Cells.wfFrom d (some b) m = true) :
    Cells.get d m k = d := by
  induction m generalizing b with
  | nil => rfl
  | cons e m ih =>
    obtain ⟨a, w⟩ := e
    simp [Cells.wfFrom] at h
    have : a ≠ k := by omega
    simp [Cells.get, this]
    exact ih a (by omega) h.2

/-- In a canonical table an erased key reads as unlisted. -/
theorem Cells.get_erase_same {α : Type} [DecidableEq α] (d : α) (l : Option Nat) (m : Cells α) (k : Nat) (h : Cells.wfFrom d l m = true) :
    Cells.get d (Cells.erase m k) k = d := by
  induction m generalizing l with
  | nil => rfl
  | cons e m ih =>
    obtain ⟨a, w⟩ := e
    simp [Cells.wfFrom] at h
    simp only [Cells.erase]
    split
    · subst_vars; exact Cells.get_below d m _ _ (Nat.le_refl _) h.2
    · rename_i hne
      simp [Cells.get, hne]
      exact ih (some a) h.2

/-- Inserting a listed value above the bound keeps the canonical form. -/
theorem Cells.wfFrom_insert {α : Type} [DecidableEq α] (d : α) (l : Option Nat) (m : Cells α) (k : Nat) (v : α) (hv : v ≠ d)
    (hk : ∀ b, l = some b → b < k) (h : Cells.wfFrom d l m = true) : Cells.wfFrom d l (Cells.insert m k v) = true := by
  induction m generalizing l with
  | nil => cases l <;> simp_all [Cells.insert, Cells.wfFrom]
  | cons e m ih =>
    obtain ⟨a, w⟩ := e
    simp only [Cells.insert]
    split
    · cases l <;> simp_all [Cells.wfFrom]
    · split
      · subst_vars; cases l <;> simp_all [Cells.wfFrom]
      · rename_i h1 h2
        have hin := ih (some a) (by intro b hb; cases hb; omega)
        cases l <;> simp_all [Cells.wfFrom]

/-- Erasing keeps the canonical form. -/
theorem Cells.wfFrom_erase {α : Type} [DecidableEq α] (d : α) (l : Option Nat) (m : Cells α) (k : Nat) (h : Cells.wfFrom d l m = true) :
    Cells.wfFrom d l (Cells.erase m k) = true := by
  induction m generalizing l with
  | nil => rfl
  | cons e m ih =>
    obtain ⟨a, w⟩ := e
    simp only [Cells.erase]
    split
    · cases l with
      | none => simp [Cells.wfFrom] at h; exact Cells.wfFrom_none d m _ h.2
      | some b => simp [Cells.wfFrom] at h; exact Cells.wfFrom_lower d m _ _ (by omega) h.2
    · have := ih (some a)
      cases l <;> simp_all [Cells.wfFrom]

/-- Every write keeps the canonical form. -/
theorem Cells.wf_put {α : Type} [DecidableEq α] (d : α) (m : Cells α) (k : Nat) (v : α) (h : Cells.wf d m = true) :
    Cells.wf d (Cells.put d m k v) = true := by
  unfold Cells.put
  split
  · exact Cells.wfFrom_erase d none m k h
  · exact Cells.wfFrom_insert d none m k v (by assumption) (by intro b hb; cases hb) h

/-- In a canonical table, reading the key just written gives the value written. -/
theorem Cells.get_put_same {α : Type} [DecidableEq α] (d : α) (m : Cells α) (k : Nat) (v : α) (h : Cells.wf d m = true) :
    Cells.get d (Cells.put d m k v) k = v := by
  unfold Cells.put
  split
  · subst_vars; exact Cells.get_erase_same _ none m k h
  · exact Cells.get_insert_same d m k v

/-- A write leaves every other key alone. -/
theorem Cells.get_put_ne {α : Type} [DecidableEq α] (d : α) (m : Cells α) (k j : Nat) (v : α) (h : k ≠ j) :
    Cells.get d (Cells.put d m k v) j = Cells.get d m j := by
  unfold Cells.put
  split
  · exact Cells.get_erase_ne d m k j h
  · exact Cells.get_insert_ne d m k j v h

/-- The request board's bodies keep their canonical form under every write. -/
theorem Memory.wf_write (m : Memory) (a : Nat) (v : Word) (h : m.wf = true) : (m.write a v).wf = true := Cells.wf_put _ m a v h

/-- Reading the word just written. -/
theorem Memory.read_write_same (m : Memory) (a : Nat) (v : Word) (h : m.wf = true) : (m.write a v).read a = v := Cells.get_put_same _ m a v h

/-- A write leaves every other word alone. -/
theorem Memory.read_write_ne (m : Memory) (a b : Nat) (v : Word) (h : a ≠ b) : (m.write a v).read b = m.read b := Cells.get_put_ne _ m a b v h

/-! ## Completion (R186) -/

/-- Result words written one after another, as one board. -/
theorem State.foldl_setSlotWord (s : State) (n : Nat) (ws : List (Nat × Word)) :
    ws.foldl (fun (s : State) (w : Nat × Word) => s.setSlotWord n w.1 w.2) s =
      { s with board := { s.board with
          body := ws.foldl (fun (m : Memory) (w : Nat × Word) => m.write (slotAddr n w.1) w.2) s.board.body } } := by
  induction ws generalizing s with
  | nil => rfl
  | cons w ws ih => simp only [List.foldl_cons]; rw [ih]; rfl

/-- A completion touches the board alone: the result words and the code, the slot's state and EVENTS.BOARD (R186). -/
theorem State.complete_eq (s : State) (n : Nat) (r : Result) (ws : List (Nat × Word)) :
    s.complete n r ws =
      { s with board := { s.board with
          slots := put s.board.slots n .done
          body := (ws ++ [(3, resultNat r.ctorIdx)]).foldl (fun (m : Memory) (w : Nat × Word) => m.write (slotAddr n w.1) w.2) s.board.body
          events := s.board.events ||| Event.board.bit } } := by
  unfold State.complete
  rw [State.foldl_setSlotWord]
  simp [State.setSlotWord, State.setSlot, State.raise, List.foldl_append]

/-- A request completed in its take step leaves the board served and nothing else changed (R185, R186). -/
theorem State.complete_taken (s : State) (n : Nat) (r : Result) (ws : List (Nat × Word)) :
    (s.dropAttention.setSlot n .taken).complete n r ws = s.answered n r ws := by
  rw [State.complete_eq]
  simp [State.dropAttention, State.setSlot, State.answered, Board.served]

/-- The step of a request command that is the intake's next. -/
theorem State.request_taken (s : State) (n kind : Nat) (h : State → Nat → State) (hn : n < 32) (ht : s.takesNext n kind = true) :
    s.request n kind h = .next (h (s.dropAttention.setSlot n .taken) n).settle := by
  simp [State.request, hn, ht]

/-! ## Frames on the line (R58, R179) -/

/-- The bits of a byte as it is sent, one by one. -/
theorem getElem?_sentBits (b : Byte) (k : Nat) (h : k < 10) :
    (sentBits b)[k]? = some (if k = 0 then false else if k = 9 then true else b.getLsbD (k - 1)) := by
  obtain rfl | rfl | rfl | rfl | rfl | rfl | rfl | rfl | rfl | rfl :
      k = 0 ∨ k = 1 ∨ k = 2 ∨ k = 3 ∨ k = 4 ∨ k = 5 ∨ k = 6 ∨ k = 7 ∨ k = 8 ∨ k = 9 := by omega
  all_goals rfl

/-- Bit k of a frame belongs to byte k / 10 of it. -/
theorem getElem?_frameBits (bs : List Byte) : ∀ k, (frameBits bs)[k]? = bs[k / 10]?.bind fun b => (sentBits b)[k % 10]? := by
  induction bs with
  | nil => intro k; rfl
  | cons b bs ih =>
    intro k
    have hl : (sentBits b).length = 10 := rfl
    rw [show frameBits (b :: bs) = sentBits b ++ frameBits bs from rfl]
    by_cases h : k < 10
    · rw [List.getElem?_append_left (by omega), Nat.div_eq_of_lt h, Nat.mod_eq_of_lt h]; rfl
    · obtain ⟨j, rfl⟩ : ∃ j, k = j + 10 := ⟨k - 10, by omega⟩
      rw [List.getElem?_append_right (by omega), hl, Nat.add_sub_cancel, ih, Nat.add_div_right j (by omega), Nat.add_mod_right]; rfl

end Sys2Proof.Machine
end

