-- ==== Sys2Proof/Tests/Slice0.lean ====
section
/-! SUPPORT. Small tests: ill-formed commands refused, worked values of the manual, and states that meet the hypotheses of the statements. -/

namespace Sys2Proof.Tests
open Sys2Proof Sys2Proof.Machine

/-! ## States to test on -/

/-- The part right after its initialisation. -/
def ready : State := State.reset.initialised

/-- Slot n posted with a kind and some body words, and named in the pending set. -/
def posted (s : State) (n kind : Nat) (words : List (Nat × Nat)) : State :=
  { s with board := { s.board with
      attention := [n], slots := put s.board.slots n .posted
      body := ((1, kind) :: words).foldl (fun (m : Memory) (w : Nat × Nat) => m.write (slotAddr n w.1) (BitVec.ofNat 16 w.2)) s.board.body } }

/-- A bound MIC link of unit 1. -/
def mic : LinkRec := { LinkRec.vacant with state := .live, kind := .mic, unit := 1, options := Options.default }

/-- Link l replaced. -/
def withLink (s : State) (l : Nat) (r : LinkRec) : State := { s with links := { s.links with recs := put s.links.recs l r } }

/-- Context c replaced. -/
def withCtx (s : State) (c : Nat) (x : Ctx) : State := { s with moves := { s.moves with ctxs := put s.moves.ctxs c x } }

/-- Plan entry n replaced. -/
def withEntry (s : State) (n : Nat) (e : PlanEntry) : State := { s with plan := { s.plan with entries := put s.plan.entries n e } }

/-- A timer that is due as soon as it runs. -/
def soon : Timer := { start := 0, len := 0 }

/-- The state a command leaves, the state itself when it stops. -/
def after (c : Instr) (s : State) : State :=
  match exec c s with
  | .next t => t
  | .fault _ => s
  | .refused _ => s

/-! ## Ill-formed commands (each check of WellFormed refuses one) -/

theorem test_wf_registers : Instr.wf (.registerWriteIgnored .ready 1) = false ∧ Instr.wf (.registerWriteIgnored (.ident 3) 0) = false ∧
    Instr.wf (.registerWriteIgnored (.ident 7) 0) = false := by decide

theorem test_wf_addresses : Instr.wf (.hostWordWrite 16384 0) = false ∧ Instr.wf (.latchLowRead 16384) = false ∧
    Instr.wf (.latchHighRead 16384) = false := by decide

theorem test_wf_board_slots : Instr.wf (.slotPost 32) = false ∧ Instr.wf (.slotWithdraw 32) = false ∧ Instr.wf (.slotHandBack 32) = false := by decide

theorem test_wf_request_slots : ∀ kind ∈ (List.range 31).tail, (requestOf kind 32).map Instr.wf = some false ∧ (requestOf kind 31).map Instr.wf = some true := by
  decide

theorem test_wf_timers : Instr.wf (.weakTimerExpiry 32) = false ∧ Instr.wf (.lossTimerExpiry 32) = false ∧ Instr.wf (.rescueTimerExpiry 32) = false ∧
    Instr.wf (.rampTimerExpiry 32) = false ∧ Instr.wf (.holdTimerExpiry 4) = false ∧ Instr.wf (.confirmTimerExpiry 4) = false ∧
    Instr.wf (.queryTimerExpiry 4) = false ∧ Instr.wf (.hangTimerExpiry 16 0) = false ∧ Instr.wf (.latchWindowExpiry 0 12) = false := by decide

theorem test_wf_lines : Instr.wf (.receiveByteError 3 [true]) = false ∧
    Instr.wf (.discardedByte 3 0) = false ∧ Instr.wf (.frameError 3 0 0 0) = false ∧ Instr.wf (.frameMarkerByte 3) = false ∧
    Instr.wf (.tallyFrame 2 0 0) = false ∧ Instr.wf (.staleTimerExpiry 3) = false ∧ Instr.wf (.staleClearExpiry 2) = false := by decide

theorem test_wf_lamps : Instr.wf (.fadeStepExpiry 24) = false ∧ Instr.wf (.blinkTimerExpiry 24) = false ∧ Instr.wf (.pwmActiveEnd 24) = false := by
  decide

theorem test_wf_pulses_and_replies : Instr.wf (.probePulse 1048576) = false ∧ Instr.wf (.replyFrame []) = false ∧
    Instr.wf (.replyFrame (List.replicate 29 0)) = false := by decide

/-- An ill-formed command is stopped by name. -/
theorem test_ill_formed_stops : exec (.slotPost 32) ready = .fault (.noSuchSlot 32) ∧ exec (.setRules 32) ready = .fault (.noSuchSlot 32) ∧
    exec (.hostWordWrite 16384 0) ready = .fault (.noSuchWord 16384) ∧ exec (.staleClearExpiry 2) ready = .fault (.noSuchLine 2) :=
  ⟨rfl, rfl, rfl, rfl⟩

/-! ## Worked values of the manual -/

/-- R188: a bit written 1 is cleared, a bit written 0 stays. -/
theorem test_events_write : (after (.eventsWrite 0x0101) { ready with board := { ready.board with events := 0x107#9 } }).board.events = 0x006#9 := by decide

/-- R193: IDENT of the 3640. -/
theorem test_ident : [4, 5, 6].map ready.register = [0x0A31#16, 0x3640#16, 0x0001#16] := by decide

/-- R184: 31 is a slot number, 32 is stray. -/
theorem test_attention : (after (.attentionWrite 31) ready).board.attention = [31] ∧ (after (.attentionWrite 32) ready).board.stray = 1 := by decide

/-- R183: 1 posts a FREE slot, 2 is refused. -/
theorem test_slot_post : (after (.hostWordWrite 0x7E0 1) ready).board.refused = 1 ∧ (after (.hostWordWrite 0x420 1) ready).slot 31 = .posted ∧
    (after (.hostWordWrite 0x420 2) ready).board.refused = 1 := by decide

/-- R185, R186: an unknown kind completes BAD_KIND, code 2. -/
theorem test_bad_kind : (after .intakeTake (posted ready 5 31 [])).slot 5 = .done ∧ (after .intakeTake (posted ready 5 31 [])).slotWord 5 3 = 2 := by decide

/-- R9: a guard of 401 is clamped to 400, with result CLAMPED. -/
theorem test_set_rules : (after (.setRules 3) (posted ready 3 1 [(4, 1), (5, 401)])).plan.rules.gAdj = 400 ∧
    (after (.setRules 3) (posted ready 3 1 [(4, 1), (5, 401)])).slotWord 3 3 = 1 := by decide

/-- R47: a count equal to N_ref is level 64, no pulse 1, and the level stops at 255. -/
theorem test_levels : [levelOf 4096 4096, levelOf 0 4096, levelOf 1048574 4096, levelOf 32 4096, levelOf 95 4096, levelOf 96 4096] = [64, 1, 255, 1, 1, 2] := by
  decide

/-- R59, R60: TUNE_FAR to unit 3, channel 2, code 2400. -/
theorem test_tune_far_frame : (BusCmd.tuneFar 2 2400).frame 3 = [0x03#8, 0x03#8, 0x03#8, 0x02#8, 0x09#8, 0x60#8, 0x68#8] := by decide

/-- R180, R179: CLEAR_ALL, and SET_POINT for output 4, input 5, attenuation 6. -/
theorem test_matrix_frames : Sender.clearAll.frame = [0xE4#8, 0, 0, 0, 0xE4#8] ∧ (Sender.setPoint 77 6).frame = [0xE3#8, 4, 5, 6, 0xE4#8] := by decide

/-- R119: the check byte of a tally frame for source 5 at PROGRAM. -/
theorem test_line_check : lineCheck 5 3 = 247#8 := by decide

/-- R146: a fade from 64 to 16. -/
theorem test_fade_duties : (List.range 9).map ({ d0 := 64, dt := 16, k := 0 } : Fade).dutyAt = [64, 58, 52, 46, 40, 34, 28, 22, 16] := by decide

/-- R175: a ramp steps by its rate and stops at its target. -/
theorem test_ramp : [rampStep 0 24 4, rampStep 22 24 4, rampStep 24 0 4, rampStep 3 0 4] = [4, 24, 20, 0] := by decide

/-- R190: the matrix line's first frame after a reset is CLEAR_ALL, and the line is idle after it. -/
theorem test_first_frame : ready.matrix.sender = .clearAll ∧ (after .matrixFrameSent ready).matrix.sender = .idle := by decide

/-- R62: a received byte with a framing error drains the window. -/
theorem test_garbled_reply : (after (.garbledReplyByte 0x83 true) { ready with bus := { ready.bus with
    state := .listening, window := some soon, inFlight := some { orig := .poller, unit := 3, cmd := .query, frame := [], attempt := 1, live := true, discarded := false } }
    }).bus.state = .draining := by decide

/-- R157: the down of a MOMENTARY key presses it, and its up with hang time 0 makes it IDLE again. -/
theorem test_momentary :
    let s := { ready with talk := { ready.talk with keys := put ready.talk.keys 14 { Key.reset with mode := .momentary } } }
    let d := after (.talkKey 0) (posted s 0 27 [(4, 1), (5, 2), (6, 1)])
    (d.key 14).activity = .pressed ∧ ((after (.talkKey 0) (posted d 0 27 [(4, 1), (5, 2), (6, 0)])).key 14).activity = .idle := by decide +kernel

/-! ## States that meet the hypotheses of the statements -/

theorem witness_StepRunsTheFrontCommand : State.reset.pending = [] ∧ step { ready with pending := [.softReset] } = exec .softReset ready := ⟨rfl, rfl⟩

theorem witness_EveryWellFormedCommandCompletes : Instr.wf .softReset = true ∧ Instr.wf (.hostWordWrite 16383 0) = true ∧ Instr.wf (.pwmActiveEnd 23) = true := by
  decide

theorem witness_ResetsAndInitialisation : State.reset.board.ready = false ∧ ready.board.ready = true := by decide

theorem witness_RegisterWritesAndTheInterrupt : (2#16).getLsbD 0 = false ∧ (4 ≤ 4 ∧ 4 ≤ 6) ∧ (4 ≤ 6 ∧ 6 ≤ 6) ∧ State.reset.board.ready = false := by decide

theorem witness_AttentionFeedsTheIntake : ready.board.attentionOk ∧ (posted ready 31 30 []).board.attentionOk ∧
    (State.reset.board.ready = false ∧ ready.board.attention = []) ∧
    ((posted ready 31 30 []).board.ready = true ∧ (posted ready 31 30 []).board.attention = 31 :: [] ∧ (posted ready 31 30 []).slot 31 = .posted ∧
      (requestOf 30 31).isSome = true ∧ requestOf 31 31 = none) ∧
    (after (.attentionWrite 0) ready).slot 0 ≠ .posted ∧ (ready.board.attention.head? ≠ some 0 ∧ requestOf 1 0 = some (.setRules 0) ∧ requestOf 30 32 = some (.abort 32)) := by
  refine ⟨⟨by simp [rising, ready, State.initialised, State.reset, Board.reset], by decide⟩, ⟨by simp [rising, posted], by decide⟩, by decide, by decide, by decide, by decide⟩

theorem witness_HostWritesReachOnlyOpenSlotBodies : (0x43F < 16384 ∧ 0x43F = 0x40 + 32 * 31 + 31 ∧ ready.slot 31 = .free) ∧
    (0x41 = 0x40 + 32 * 0 + 1 ∧ (posted ready 0 1 []).slot 0 = .posted) ∧ (after (.place 0) (posted ready 0 3 [(8, 9), (9, 10), (4, 1), (7, 0)])).slot 0 ≠ .free ∧
    (after .intakeTake (posted ready 31 40 [])).slot 31 = .done ∧ 0x3F < 0x40 ∧ 0x440 ≤ 0x440 ∧ ready.board.body.wf = true ∧
    State.reset.board.ready = false := by decide

theorem witness_StateWordWritesFollowTheSlotTable : (31 < 32 ∧ ready.board.ready = true ∧ ready.slot 31 = .free) ∧ (posted ready 31 1 []).slot 31 = .posted ∧
    (after .intakeTake (posted ready 31 40 [])).slot 31 = .done := by decide

theorem witness_ReadsReturnThePublishedWords : (4 < 16384 ∧ ready.board.ready = true ∧ ready.isLow32 4 = true ∧ ready.board.latch ≠ some (4, 0)) ∧
    (after (.latchLowRead 4) ready).board.latch = some (4, 0) ∧ (ready.isLow32 0 = false ∧ ready.isLow32 0x3F = false ∧ ready.isLow32 0x3E = false) ∧
    State.reset.board.ready = false ∧ (0x1783 < 0x1784 ∧ 0x10C0 < 0x1400 ∧ 0x3FFF < 0x4000 ∧ 1599 < 1600 ∧ (1 ≤ 16 ∧ 16 ≤ 16) ∧ (1 ≤ 64 ∧ 64 ≤ 64)) := by decide

theorem witness_NothingElseChangesTheReadLatch : (exec .intakeTake ready = .next ready) ∧ (∀ a, Instr.intakeTake ≠ .latchLowRead a) ∧
    (∀ a, Instr.intakeTake ≠ .latchHighRead a) ∧ Instr.intakeTake ≠ .powerOnReset ∧ Instr.intakeTake ≠ .softReset :=
  ⟨rfl, ⟨fun _ h => (nomatch h), fun _ h => (nomatch h), by decide, by decide⟩⟩

theorem witness_SetRulesAndTheDefaults : (31 < 32 ∧ (posted ready 31 1 []).takesNext 31 1 = true) ∧ ready.board.ready = true := by decide

theorem witness_SetExclusionWritesItsPlace : 0 < 32 ∧ (posted ready 0 2 [(4, 7), (5, 1)]).takesNext 0 2 = true := by decide

theorem witness_LockCarrierAndClearCarrier : (0 < 32 ∧ (posted ready 0 6 [(4, 47)]).takesNext 0 6 = true) ∧ (31 < 32 ∧ (posted ready 31 5 []).takesNext 31 5 = true) := by
  decide

theorem witness_SearchesCoverTheirClampedGrid : (0 : Nat) ≤ 12799 ∧ (0 : Nat) < 64 ∧ (0 : Nat) ≤ 12799 ∧ (12799 : Nat) ≤ 12799 := by decide

theorem witness_PlaceRaisesASearch : 0 < 32 ∧ (posted ready 0 3 [(8, 1599)]).takesNext 0 3 = true := by decide

theorem witness_SetCarrierAndAuditJoinTheList : (0 < 32 ∧ (posted ready 0 4 [(6, 0xFFFF)]).takesNext 0 4 = true) ∧ (31 < 32 ∧ (posted ready 31 7 []).takesNext 31 7 = true) := by
  decide

/-- A running job of slot 0 in its tests: width 4, at code c after k candidates. -/
def job (source : JobSource) (work : JobWork) (kind : CarrierKind) (c k : Nat) (aborted : Bool) : Running :=
  { job := { source := source, work := work, kind := kind, width := 4, linkKind := .mic, link := none, clamped := false }
    width := 4, leftOut := none, cursor := c, examined := k, aborted := aborted, stage := .testing }

/-- The candidate a running job is at. -/
def candidateOf (r : Running) : Candidate := { code := r.cursor, width := r.width, kind := r.job.kind, leftOut := r.leftOut }

/-- A grid of two codes, 0 and 4. -/
def grid : Grid := { lo := 0, hi := 4, step := 4, start := 0, limit := 12800 }

/-- A plan entry of link 0. -/
def origin (lock : Bool) : PlanEntry := { PlanEntry.free with status := .active, owner := some 0, code := 4, width := 4, lock := lock }

/-- A context in HELD for link 31, from slot 1, its target in entry 47. -/
def heldCtx : Ctx := { Ctx.free with phase := .held, link := 31, slot := some 1, targetEntry := some 47, targetCode := some 2480, holdTimer := some soon }

theorem witness_CandidateTestsSettleSearchesAndChecks :
    let reason (r : Running) : Reason := (candidateOf r).reason ready.plan ready.probe
    let tests : Nat := min ((grid.hi - grid.lo) / grid.step + 1) grid.limit
    let place (c k : Nat) := job (.place 0) (.search grid) .link c k false
    let check (e : Option Nat) (c : Nat) (aborted : Bool) := job (.setCarrier 31 e) (.check c false) .foreign c 0 aborted
    let bind := job (.bind 31 31) (.check 4 true) .link 4 0 false
    let move := job (.move 3) (.search grid) .link 4 1 false
    let s (r : LinkRec) : State := withCtx (withLink ready 31 r) 3 { heldCtx with phase := .seeking }
    let lowest (e : Nat) : Bool := decide (e < 48 ∧ (ready.entry e).status = .free ∧ ∀ m < e, (ready.entry m).status ≠ .free)
    (ready.board.ready = true ∧ (place 4 1).stage = .testing ∧ (place 4 1).job.work = .search grid) ∧
    (reason (place 4 1) = .none ∧ (place 4 1).aborted = false) ∧ (reason (place 3 1) ≠ .none ∧ tests ≤ 1 + 1) ∧ (reason (place 0 0) ≠ .none ∧ ¬tests ≤ 0 + 1) ∧
    ((check none 4 true).aborted = true ∧ reason (check none 3 false) = .band ∧ reason (check none 4 false) = .none ∧ lowest 0 = true) ∧
    ((check (some 47) 4 false).job.source = .setCarrier 31 (some 47) ∧ (ready.entry 47).code ≠ 4 ∧
      ((withEntry ready 47 (origin false)).entry 47).code = 4 ∧ ((withEntry ready 47 (origin false)).entry 47).width = 4) ∧
    (bind.job.source = .bind 31 31 ∧ reason bind = .none) ∧
    (move.job.source = .move 3 ∧ reason move = .none ∧ (((s mic).ctx 3).link < 32) ∧ (mic.applied ≠ .program ∧ mic.state = .live ∧ ((s mic).ctx 3).manualGo = false)) ∧
    (((s { mic with state := .bound }).link 31).state = .bound ∧ mic.kind ≠ .camera ∧ { mic with kind := .camera }.kind = .camera) := by decide

theorem witness_RefreshWritesCountMarkAndWorstType :
    let x : PlanSnapshot := { entries := ready.plan.entries, exclusions := ready.plan.exclusions, rules := ready.plan.rules }
    let cm : Commit := { entry := 47, code := 4, reason := some .none }
    let closing : Running := { job (.setCarrier 31 none) (.check 4 false) .foreign 4 1 false with stage := .closing cm x }
    let auditing : Running := { job (.audit 31) .audit .link 0 0 false with stage := .auditing x }
    (ready.board.ready = true ∧ (ready.setWork (.refresh x)).plan.work = .refresh x) ∧
    ((ready.setWork (.job closing)).plan.work = .job closing ∧ closing.stage = .closing cm x ∧ closing.job.source = .setCarrier 31 none) ∧
    ((ready.setWork (.job auditing)).plan.work = .job auditing ∧ auditing.stage = .auditing x ∧ auditing.job.source = .audit 31) :=
  ⟨⟨rfl, rfl⟩, ⟨rfl, rfl, rfl⟩, rfl, rfl, rfl⟩

/-- The present place touches the last code of the entry 0..8, which is also the candidate's at code 4. -/
theorem witness_SetExclusionWritesItsPlace_overlaps :
    let xs : Vector Exclusion 8 := put ready.plan.exclusions 7 { present := true, lo := 8, hi := 12799, edition := 0 }
    let s := withEntry { ready with plan := { ready.plan with exclusions := xs } } 47 (origin false)
    let x : PlanSnapshot := { entries := s.plan.entries, exclusions := xs, rules := s.plan.rules }
    let overlaps (code width : Nat) : Prop := ∃ k < 8, (look xs k).present = true ∧ code ≤ (look xs k).hi + width ∧ (look xs k).lo ≤ code + width
    let r : Running := { job (.place 31) (.search grid) .link 4 0 false with width := 4 }
    (s.board.ready = true ∧ (s.setWork (.refresh x)).plan.work = .refresh x ∧ (s.entry 47).status ≠ .free ∧
      (look x.entries 47).status ≠ .free ∧ (look x.entries 47).kind = .link ∧ overlaps (look x.entries 47).code (look x.entries 47).width) ∧
    (r.stage = .testing ∧ r.job.source = .place 31 ∧ r.job.work = .search grid ∧ r.job.kind = .link ∧ r.width ≤ r.cursor ∧
      r.cursor + r.width ≤ 12799 ∧ overlaps r.cursor r.width) := by decide +kernel

theorem witness_EveryStepKeepsTheMarksRight : State.reset.plan.marksOk ∧ step State.reset = .next State.reset := by
  refine ⟨fun _ n hn h => absurd ?_ h, rfl⟩
  revert n
  decide

theorem witness_EngineChoosesRefreshThenHeadJob :
    let busy : State := { ready with bus := { ready.bus with state := .sending } }
    let j : Job := { source := .place 0, work := .search grid, kind := .link, width := 0, linkKind := .mic, link := none, clamped := false }
    let k : Job := { j with source := .setCarrier 0 none, work := .check 4 false }
    let audit : Job := { j with source := .audit 31, work := .audit }
    let full : Plan := { ready.plan with entries := Vector.replicate 48 { PlanEntry.free with status := .active }, waiting := [k] }
    (busy.bus.state ≠ .idle ∧ busy.plan.refreshPending = false ∧ busy.plan.waiting = []) ∧
    ({ busy.plan with refreshPending := true }.refreshPending = true ∧ busy.plan.work = .idle) ∧
    ({ busy.plan with waiting := [j] }.waiting = j :: [] ∧ j.source = .place 0 ∧ j.link = none ∧ j.work = .search grid) ∧
    (full.work = .idle ∧ full.refreshPending = false ∧ k.source = .setCarrier 0 none ∧ ∀ m < 48, (look full.entries m).status ≠ .free) ∧
    (k.work = .check 4 false ∧ audit.work = .audit ∧ { j with link := some 31 }.link = some 31 ∧ (busy.link 31).state = .vacant) ∧
    ({ j with source := .bind 31 31 }.source = .bind 31 31 ∧ { j with source := .move 3 }.source = .move 3) := by decide

theorem witness_SetProbeNamesTheUnitAndItsSettings : 0 < 32 ∧ (posted ready 0 8 [(4, 16)]).takesNext 0 8 = true := by decide

theorem witness_ScansAreCreatedHeldAndResumed : (0 < 32 ∧ (posted ready 0 9 [(5, 1599)]).takesNext 0 9 = true) ∧
    (posted ready 0 10 []).takesNext 0 10 = true ∧ (posted ready 31 11 []).takesNext 31 11 = true := by decide

theorem witness_ClearProbeFaultAndClearMap : (0 < 32 ∧ (posted ready 0 12 []).takesNext 0 12 = true) ∧
    ((posted ready 31 13 []).takesNext 31 13 = true ∧ (posted ready 31 13 []).tablesOk ∧ ready.probe.state = .idle) ∧
    ({ ready.probe with state := .held }.state ≠ .idle ∧ Cells.get 0 [(0, 1)] 0 ≠ 0) := by decide

/-- A counting window of a phase. -/
def window (phase : PhaseKind) : Window := { phase := phase, tref := 1000, nref := 256 }

/-- A sweep of slot 2 over bins 0 to 1599 with a window and the counters given. -/
def sweeping (w : Option Window) (pulses ticks : Nat) : State :=
  { ready with probe := { ready.probe with
      state := .sampling, slot := some 2, hi := 1599, window := w, pulses := pulses, ticks := ticks, settleTimer := some soon } }

theorem witness_CountingWindowsAndCalibration :
    let closed := sweeping none 0 0
    let ref (pulses ticks : Nat) := sweeping (some (window .reference)) pulses ticks
    let s (pulses : Nat) := sweeping (some (window .sample)) pulses 9
    (closed.board.ready = true ∧ closed.probe.settleTimer = some soon ∧ soon.len ≤ (closed.board.time - soon.start).toNat) ∧
    (closed.probe.phase = .reference ∧ { closed.probe with phase := .sample }.phase = .sample) ∧ closed.probe.window = none ∧
    ((ref 254 0).probe.ticks ≤ 1048574 ∧ 1048574 < 1048575 ∧ (ref 254 0).probe.pulses + 1 < (window .reference).nref) ∧
    ((ref 255 0).probe.ticks ≤ 0 ∧ (window .reference).nref ≤ (ref 255 0).probe.pulses + 1) ∧
    ((ref 0 0).probe.window = some (window .reference) ∧ (window .reference).phase = .reference ∧ (ref 0 0).probe.slot = some 2 ∧
      1048575 ≤ max (ref 0 0).probe.ticks 1048575) ∧
    ((s 255).probe.window = some (window .sample) ∧ (window .sample).phase = .sample ∧ (s 255).tablesOk ∧ (s 255).probe.cur ≠ (s 255).probe.hi ∧
        { (s 255).probe with cur := 1599 }.cur = (s 255).probe.hi ∧ (s 255).probe.slot = some 2) ∧
    ((window .sample).tref ≤ max (s 255).probe.ticks 1000 ∧ max (s 255).probe.ticks 999 < (window .sample).tref ∧ 1048575 ≤ (s 1048574).probe.pulses + 1 ∧
      (s 1048573).probe.pulses + 1 < 1048575) := by decide

/-- R47, R48, R55: the last bin's window ends the sweep OK (code 0) with one bin measured; the pulse that finds T_ref ticks passed ends the window too. -/
theorem test_sweep_end :
    let s : State := { sweeping (some (window .sample)) 256 9 with probe := { (sweeping (some (window .sample)) 256 9).probe with cur := 1599 } }
    [Instr.sampleWindowEnd, .probePulse 1000].map (fun c => ((after c s).slotWord 2 3, (after c s).slotWord 2 6, (after c s).probe.levels.get 0 1599)) =
      [(0, 1, 64), (0, 1, 64)] := by decide

/-- R43: a pulse with no window open is not counted; a window that opens clears both counters. -/
theorem test_counters :
    (after (.probePulse 7) (sweeping none 5 6)).probe.pulses = 5 ∧
    (let p := (after .settleExpiry (sweeping none 5 6)).probe; (p.pulses, p.ticks) = (0, 0)) ∧
    (let p := (after (.probePulse 7) (sweeping (some (window .reference)) 5 6)).probe; (p.pulses, p.ticks) = (6, 7)) := by decide

theorem witness_SampleWindowEndWritesLevelAndOwnMark :
    let s := sweeping (some (window .sample)) 255 9
    s.board.ready = true ∧ s.probe.window = some (window .sample) ∧ (window .sample).phase = .sample ∧ s.probe.cur ≠ s.probe.hi ∧ s.tablesOk := by decide

/-- The unit bus sending a QUERY to unit 1. -/
def queries : Bus :=
  let tx : Tx := { orig := .poller, unit := 1, cmd := .query, frame := BusCmd.query.frame 1, attempt := 1, live := true, discarded := false }
  { ready.bus with state := .sending, inFlight := some tx }

theorem witness_RequestFramesAsTheManualGivesThem : (1 ≤ 16 ∧ 16 ≤ 16 ∧ 3 ≤ 3 ∧ 12799 ≤ 12799) ∧ 1 ≤ 1 ∧
    (queries.state = .sending ∧ queries.inFlight.isSome = true ∧ ready.bus.state ≠ .sending) := by decide

/-- R58: the address byte 1 of a QUERY to unit 1, bit by bit; the line is released after the frame's 40 bits. -/
theorem test_query_bits :
    (List.range 10).map queries.drives = [some false, some true, some false, some false, some false, some false, some false, some false, some false, some true] ∧
      queries.drives 39 = some true ∧ queries.drives 40 = none := by decide

theorem witness_ArbiterServesByKindThenIndex :
    let cam : LinkRec := { mic with kind := .camera }
    let waits : State := { withLink ready 31 cam with tally := { ready.tally with links := put ready.tally.links 31 { LinkTally.vacant with head := .waiting } } }
    let ctx : State := withCtx ready 3 { Ctx.free with phase := .confirm, offer := some .query }
    let link : State := withLink ready 31 { mic with offer := some (.tuneFar 0 1) }
    ((waits.link 31).state ≠ .vacant ∧ (waits.link 31).kind = .camera ∧ (waits.linkTally 31).head = .waiting ∧ ∀ m < 31, (waits.link m).kind = .camera → (waits.linkTally m).head ≠ .waiting) ∧
    ((∀ l < 32, (ctx.linkTally l).head ≠ .waiting) ∧ (ctx.ctx 3).offer = some .query ∧ ∀ d < 3, (ctx.ctx d).offer = none) ∧
    ((∀ c < 4, (link.ctx c).offer = none) ∧ (link.link 31).offer = some (.tuneFar 0 1) ∧ ∀ m < 31, (link.link m).offer = none) ∧
    ((∀ l < 32, (ready.linkTally l).head ≠ .waiting ∧ (ready.link l).offer = none) ∧ ∀ c < 4, (ready.ctx c).offer = none) ∧
    (link.bus.state = .idle ∧ link.plan.refreshPending = false ∧ link.plan.waiting = [] ∧ link.firstWaiter = some (.link 31, 1, .tuneFar 0 1)) := by decide

/-- A transaction in flight. -/
def inFlight (o : Originator) (unit : Nat) (cmd : BusCmd) (attempt : Nat) : Tx :=
  { orig := o, unit := unit, cmd := cmd, frame := cmd.frame unit, attempt := attempt, live := true, discarded := false }

/-- The unit bus in a state, with a transaction in flight. -/
def onBus (st : BusState) (t : Tx) (u : UnitRec) : State :=
  { ready with bus := { ready.bus with state := st, inFlight := some t, window := some soon, units := put ready.bus.units (t.unit - 1) u } }

/-- A PRESENT unit record. -/
def present (role : Role) : UnitRec := { state := .present, role := role, misses := 0, good := 0, failed := 0 }

theorem witness_AttemptsOnTheUnitBus :
    let sends := onBus .sending (inFlight .poller 16 .query 1) (present .link)
    let hears := onBus .listening (inFlight .poller 16 .query 1) (present .link)
    let drains := onBus .draining (inFlight .poller 1 .query 2) (present .link)
    let misses := withLink (onBus .listening (inFlight .poller 16 .query 2) { present .link with misses := 1 }) 31 { mic with unit := 16 }
    let missing := withLink (onBus .listening (inFlight .poller 16 .query 1) { present .link with state := .missing }) 31 { mic with unit := 16, state := .unitMissing }
    (sends.board.ready = true ∧ sends.bus.state = .sending) ∧
    (hears.bus.state = .listening ∧ hears.bus.reply = [] ∧ hears.bus.inFlight = some (inFlight .poller 16 .query 1) ∧ (0x91#8 : Byte) ≠ BitVec.ofNat 8 16 + 0x80) ∧
    sends.bus.state ≠ .listening ∧
    (hears.bus.window = some soon ∧ soon.len ≤ (hears.board.time - soon.start).toNat ∧ (inFlight .poller 16 .query 1).attempt = 1) ∧
    (drains.bus.state = .draining ∧ (inFlight .poller 1 .query 2).attempt = 2 ∧ (inFlight .poller 1 .query 2).orig = .poller ∧
      (inFlight .poller 1 .query 2).live = true ∧ (drains.unit 1).state = .present ∧ (drains.unit 1).misses = 0 ∧ drains.bus.pollGap ≠ 0) ∧
    (misses.bus.window = some soon ∧ misses.bus.inFlight = some (inFlight .poller 16 .query 2) ∧ (misses.unit 16).role = .link ∧
      (misses.unit 16).state = .present ∧ 1 ≤ (misses.unit 16).misses.toNat ∧ (misses.link 31).state = .live ∧ (misses.link 31).unit = 16) ∧
    (missing.bus.reply = [] ∧ missing.bus.inFlight = some (inFlight .poller 16 .query 1) ∧ (missing.unit 16).state = .missing ∧
      (missing.link 31).state = .unitMissing ∧ (missing.link 31).unit = 16 ∧ BitVec.ofNat 8 (16 + 0x80) = (0x90#8 : Byte)) := by decide

theorem witness_ReplyFramesEndTheirTransactions :
    let heard (t : Tx) (role : Role) : State := onBus .listening t (present role)
    let probe := inFlight .probe 16 (.probeTune .reference 0) 1
    let s : State := { heard probe .probe with probe := { ready.probe with state := .calibrating } }
    let ctx := inFlight (.ctx 3) 16 (.tuneFar 3 12799) 2
    let link := inFlight (.link 31) 16 (.muteLocal 3 false) 2
    let head (l : Tally) := inFlight (.head 31) 16 (.tally 3 l) 2
    let waits : State := withLink (heard link .link) 31 { mic with mutePending := true, headPending := true, unit := 16 }
    let deferred : State := { waits with tally := { waits.tally with links := put waits.tally.links 31 { LinkTally.vacant with head := .deferred } } }
    (s.board.ready = true ∧ s.bus.state = .listening ∧ s.bus.reply = [] ∧ s.bus.inFlight = some probe ∧ probe.live = true ∧ (1 ≤ probe.unit ∧ probe.unit ≤ 16)) ∧
    (probe.orig = .probe ∧ probe.discarded = false ∧ probe.cmd = .probeTune .reference 0 ∧ s.probe.state ≠ .idle ∧ s.probe.settle ≠ 0 ∧
      (s.unit 16).state = .present ∧ (s.unit 16).role = .probe) ∧
    (probe.attempt = 1 ∧ { probe with attempt := 2 }.attempt = 2) ∧ (ctx.orig = .ctx 3 ∧ ctx.cmd ≠ .query ∧ ctx.attempt = 2 ∧ ((heard ctx .link).unit 16).state = .present) ∧
    (link.orig = .link 31 ∧ link.cmd ≠ .query ∧ (∀ b ∈ waits.links.bindings, b.link = 31 → b.stage = .seeking) ∧ (waits.link 31).mutePending = true) ∧
    ((head .off).orig = .head 31 ∧ (head .off).cmd = .tally 3 .off ∧ (waits.link 31).headPending = true ∧ (waits.link 31).applied = .off ∧
      (waits.link 31).applied ≠ .program ∧ (head .program).cmd = .tally 3 .program) ∧
    ((∀ l < 32, (deferred.linkTally l).head = .deferred → (deferred.link l).headPending = true) ∧ (deferred.unit 16).role = .link ∧ (s.unit 16).role = .probe ∧
      (deferred.linkTally 31).head = .deferred ∧ (deferred.link 31).unit = 16) := by decide

/-- A binding in progress of link 0 from slot 2. -/
def binding (st : BindStage) : Binding :=
  { slot := 2, link := 0, kind := .mic, studio := .a, unit := 1, channel := 0, output := none, options := Options.default, sources := [], clamped := false,
    stage := st, entry := 0, code := 4, examined := 1, reason := none, farCause := .none }

/-- The state with a binding in progress. -/
def withBinding (s : State) (b : Binding) : State := { s with links := { s.links with bindings := [b] } }

theorem witness_AttemptsOnTheUnitBus_originators :
    let of (o : Originator) (cmd : BusCmd) : State := onBus .listening (inFlight o 16 cmd 2) (present .link)
    let bound (s : State) : State := { s with links := { s.links with bindings := [{ binding .tuneFar with link := 31 }] } }
    let common (s : State) (t : Tx) : Bool := decide (s.board.ready = true ∧ s.bus.window = some soon ∧ soon.len ≤ (s.board.time - soon.start).toNat ∧
      s.bus.state = .listening ∧ s.bus.inFlight = some t ∧ t.attempt = 2 ∧ t.unit = 16 ∧ t.live = true ∧ (s.unit 16).state = .present ∧ (s.unit 16).misses = 0)
    let tune : BusCmd := .tuneFar 3 4
    common (of (.ctx 3) tune) (inFlight (.ctx 3) 16 tune 2) = true ∧ common (of (.link 31) tune) (inFlight (.link 31) 16 tune 2) = true ∧
    ((bound (of (.link 31) tune)).links.bindings.find? fun x => decide (x.link = 31 ∧ x.stage ≠ .seeking)) = some ({ binding .tuneFar with link := 31 }) ∧
    ready.links.bindings = [] ∧ common (of (.head 31) (.tally 3 .off)) (inFlight (.head 31) 16 (.tally 3 .off) 2) = true ∧
    ((withLink ready 31 { mic with headPending := true }).link 31).headPending = true ∧
    common (of .probe (.probeTune .reference 0)) (inFlight .probe 16 (.probeTune .reference 0) 2) = true ∧
    ({ ready.probe with state := .calibrating }.state ≠ .idle ∧ ready.probe.state = .idle) ∧ { inFlight .poller 16 .query 2 with live := false }.live = false := by decide

/-- R63, R71, R79: the second TUNE_FAR of a binding finds no reply: TUNE_LOCAL follows, the cause kept, and the miss is counted. -/
theorem test_binding_no_reply :
    let s := onBus .listening (inFlight (.link 31) 16 (.tuneFar 3 4) 2) (present .link)
    let u := after .replyWindowEnd { s with links := { s.links with bindings := [{ binding .tuneFar with link := 31 }] } }
    (u.links.bindings.map fun b => (b.stage, b.farCause)) = [(.tuneLocal, .noReply)] ∧ (u.unit 16).misses = 1 ∧ (u.unit 16).failed = 1 := by decide

theorem witness_ReplyFramesEndTheirTransactions_binding :
    let tx := inFlight (.link 31) 16 (.tuneLocal 3 4) 2
    let s := onBus .listening tx (present .link)
    let u : State := { s with links := { s.links with bindings := [{ binding .tuneLocal with link := 31 }] } }
    u.board.ready = true ∧ u.bus.state = .listening ∧ u.bus.reply = [] ∧ u.bus.inFlight = some tx ∧ tx.live = true ∧ tx.unit = 16 ∧ (u.unit 16).state = .present ∧
      tx.orig = .link 31 ∧ tx.cmd ≠ .query ∧ tx.attempt = 2 ∧
      (u.links.bindings.find? fun x => decide (x.link = 31 ∧ x.stage ≠ .seeking)) = some ({ binding .tuneLocal with link := 31 }) := by decide

theorem witness_PollGapExpiryChoosesTheNextUnit :
    let gap (cursor : Nat) : State := { ready with bus := { ready.bus with gapTimer := some soon, cursor := cursor, units := put ready.bus.units 15 (present .link) } }
    let eligible (s : State) (a : Nat) : Bool := decide (1 ≤ a ∧ a ≤ 16 ∧ (s.unit a).state ≠ .unused ∧ (s.unit a).role = .link)
    ((gap 15).bus.gapTimer = some soon ∧ soon.len ≤ ((gap 15).board.time - soon.start).toNat ∧ eligible (gap 15) 16 = true ∧ (gap 15).bus.cursor < 16 ∧
      ∀ b < 16, eligible (gap 15) b = false) ∧
    ((gap 16).bus.cursor = 16 ∧ eligible (gap 16) 16 = true) ∧ (∀ a < 17, eligible ready a = false) := by decide

theorem witness_LinkOptionsAreClampedAndWritten : 0 < 32 ∧ (posted ready 0 16 [(4, 0xFFFF)]).takesNext 0 16 = true := by decide

/-- The words of a BIND_LINK of link 0, MIC, unit 16, channel 3, code 12,799 with the default options. -/
def bindWordsFor (link : Nat) : List (Nat × Nat) :=
  [(4, link), (5, 1), (6, 16 + 256 * 3), (7, 0xFFFF), (8, 0), (9, 12799)] ++ (List.range 13).map fun k => (14 + k, 0xFFFF)

theorem witness_BindLinkBeginsABinding :
    let s := posted ready 0 14 (bindWordsFor 31)
    let o := (s.optionWords 0 14).read Options.default
    let legal (s : State) : Bool := decide (s.param 0 4 ≤ 31 ∧ s.param 0 5 % 256 ≤ 2 ∧ s.param 0 5 / 256 ≤ 1 ∧ s.param 0 6 % 256 ≠ 0 ∧ s.param 0 6 % 256 ≤ 16 ∧
      s.param 0 6 / 256 ≤ 3 ∧ s.param 0 27 = 0 ∧ s.param 0 13 = 0)
    (s.takesNext 0 14 = true ∧ legal s = true ∧ o.bad = false) ∧
    (31 < (posted ready 0 14 (bindWordsFor 32)).param 0 4) ∧
    ((s.link 31).state = .vacant ∧ s.links.bindings = [] ∧ s.probe.unit ≠ 16 ∧ (∀ m < 32, (s.link m).state = .vacant) ∧ s.plan.waiting = []) ∧
    (((withLink s 31 mic).link 31).state ≠ .vacant ∧ legal (withLink s 31 mic) = true) ∧
    (8 ≤ ((List.replicate 8 { source := .place 1, work := .audit, kind := .link, width := 0, linkKind := .mic, link := none, clamped := false : Job }).filter
      fun j => !j.source.isMove).length) := by decide

theorem witness_UnbindLinkFreesEverythingTheLinkHeld :
    let s := withEntry (withLink (posted ready 2 15 [(4, 31)]) 31 { mic with targetEntry := some 47, output := some 31, kind := .iem }) 0 (origin false)
    let held := withCtx s 3 { Ctx.free with phase := .held, link := 31 }
    (s.takesNext 2 15 = true ∧ s.param 2 4 = 31 ∧ (s.link 31).state ≠ .vacant ∧ (∀ c < 4, (s.ctx c).phase = .free) ∧ s.links.bindings = [] ∧
      (s.entry 0).lock = false ∧ (s.link 31).originEntry < 48 ∧ s.tablesOk ∧ (∀ m < 31, (s.link m).state = .vacant)) ∧
    31 < (posted ready 2 15 [(4, 32)]).param 2 4 ∧ ((posted ready 2 15 [(4, 31)]).link 31).state = .vacant ∧
    ((binding .tuneFar).stage ≠ .seeking ∧ (withBinding s { binding .tuneFar with link := 31 }).takesNext 2 15 = true) ∧
    ((held.ctx 3).phase ≠ .free ∧ (held.ctx 3).link = 31 ∧ held.takesNext 2 15 = true) ∧
    (((withEntry s 0 (origin true)).entry 0).lock = true ∧ s.plan.rules.lockOverride = false) := by decide

theorem witness_ResolveLinkSettlesAnAdriftLink :
    let s := withLink (posted ready 2 17 [(4, 31), (5, 1)]) 31 { mic with state := .adrift, targetEntry := some 47 }
    (s.takesNext 2 17 = true ∧ s.param 2 4 = 31 ∧ s.param 2 5 = 1 ∧ (s.link 31).state = .adrift ∧ (s.link 31).targetEntry = some 47 ∧
      (s.link 31).originEntry < 48 ∧ 47 ≠ (s.link 31).originEntry) ∧
    (31 < (posted ready 2 17 [(4, 32)]).param 2 4 ∧ 1 < (posted ready 2 17 [(5, 2)]).param 2 5) ∧ ((posted ready 2 17 [(4, 31)]).link 31).state = .vacant ∧
    ((withLink ready 31 mic).link 31).state ≠ .adrift := by decide

/-- A report of a locked channel at a level and code. -/
def report (lock : Bool) (rf tuned : Nat) : Report := { lock := lock, muted := false, far := true, rf := rf, battery := 100, tuned := tuned }

theorem witness_ReportsAreJudgedByTheTable : mic.state ∈ [LinkState.bound, .live, .weak, .lost, .unitMissing, .mistuned] ∧
    { mic with state := .weak }.state = .weak ∧ { mic with state := .lost }.state = .lost ∧ { mic with state := .mistuned }.state = .mistuned ∧
    (mic.options.rfThreshold ≤ (report true 60 4).rf ∧ ¬mic.options.rfThreshold ≤ (report true 59 4).rf) ∧ (report true 60 5).tuned ≠ 4 ∧
    (report false 60 4).lock = false := by decide

/-- The payload of a STATUS whose channel 0 has lock, level 60 and a code below 256, the other channels nothing. -/
def statusOf (code : Byte) : List Byte := [1, 60, 100, 0, code] ++ List.replicate 15 0

/-- A STATUS of unit 16 is heard by link 31 alone, its origin entry 0 at code 4, its target entry 47 at code 9. -/
def asked (o : Originator) (r : LinkRec) : State :=
  withEntry (withEntry (withLink (onBus .listening (inFlight o 16 .query 1) (present .link)) 31 { r with unit := 16 }) 0 (origin false)) 47
    { origin false with status := .reserved, code := 9 }

theorem witness_ReportsAreJudgedByTheTable_status :
    let adrift : LinkRec := { mic with state := .adrift, targetEntry := some 47 }
    let moving (p : Phase) (k : LinkKind) : State :=
      withCtx (asked (.ctx 3) { mic with state := .moving, kind := k }) 3 { heldCtx with phase := p, targetCode := some 9, slot := none }
    let p (code : Byte) : Report := reportAt (statusOf code) 0
    let common (s : State) (t : Tx) : Bool := decide (s.board.ready = true ∧ s.bus.state = .listening ∧ s.bus.reply = [] ∧ s.bus.inFlight = some t ∧ t.live = true ∧
      t.cmd = .query ∧ t.unit = 16) && decide ((s.unit 16).role = .link ∧ (s.unit 16).state = .present) &&
      ((List.range 32).all fun l => decide ((s.link l).rescueTimer ≠ .waiting)) && decide ((s.link 31).unit = 16 ∧ (s.entry (s.link 31).originEntry).code = 4) &&
      (List.range 31).all fun m => decide ((s.link m).unit ≠ 16)
    (common (asked .poller mic) (inFlight .poller 16 .query 1) = true ∧ (statusOf 4).length = 20 ∧ (∀ l < 32, ((asked .poller mic).link l).state ≠ .adrift) ∧
      mic.options.weakTime ≠ 0 ∧ ∀ c < 4, ((asked .poller mic).ctx c).phase = .free) ∧
    (common (asked .poller adrift) (inFlight .poller 16 .query 1) = true ∧ ((asked .poller adrift).link 31).targetEntry = some 47 ∧
      ((p 4).lock = true ∧ (p 4).tuned = 4) ∧ ((p 9).lock = true ∧ (p 9).tuned = ((asked .poller adrift).entry 47).code ∧ (p 9).tuned ≠ 4) ∧ (p 5).tuned ≠ 4 ∧ (p 5).tuned ≠ 9) ∧
    (common (moving .confirm .mic) (inFlight (.ctx 3) 16 .query 1) = true ∧ ((moving .confirm .mic).link 31).state = .moving ∧
      ((moving .confirm .mic).ctx 3).phase = .confirm ∧ some (p 9).tuned = ((moving .confirm .mic).ctx 3).targetCode ∧ 60 ≤ (p 9).rf) ∧
    (common (moving .revertConfirm .camera) (inFlight (.ctx 3) 16 .query 1) = true ∧ ((moving .revertConfirm .camera).ctx 3).phase = .revertConfirm ∧
      ((moving .revertConfirm .camera).link 31).kind = .camera ∧ ∀ d < 3, ((moving .confirm .mic).ctx d).phase = .free) := by decide +kernel

/-- R83: a low report of a LIVE link with weak time 0 makes it WEAK at once; a weak timer that runs goes on. -/
theorem test_weak_at_once :
    let s (t : Option Timer) := withEntry (withLink ready 31 { mic with weakTimer := t, options := { mic.options with weakTime := 0 } }) 0 (origin false)
    let u (t : Option Timer) := ((s t).evaluate 31 (report true 59 4)).link 31
    ((u none).state, (u none).weakTimer, (u none).edition) = (.weak, none, 2) ∧ ((u (some soon)).state, (u (some soon)).weakTimer) = (.live, some soon) := by decide +kernel

theorem witness_LinkTimersChangeTheLink :
    let s := withLink ready 31 { mic with weakTimer := some soon, lossTimer := some soon, rescueTimer := .running soon }
    let late : State := { s with links := { s.links with recs := put s.links.recs 31 { s.link 31 with lastRescue := some 0 } } }
    let full : State := { s with moves := { s.moves with ctxs := Vector.replicate 4 { Ctx.free with phase := .held } } }
    let held (x : Ctx) : State := withCtx s 3 x
    (s.board.ready = true ∧ soon.len ≤ (s.board.time - soon.start).toNat ∧ (s.link 31).weakTimer = some soon ∧ (s.link 31).state = .live ∧ s.ctxOf 31 = none) ∧
    ((held heldCtx).ctxOf 31 = some 3 ∧ ((held heldCtx).ctx 3).phase = .held ∧ (s.link 31).applied ≠ .program ∧ heldCtx.manualGo = false) ∧
    (({ heldCtx with manualGo := true }.manualGo = true ∧ heldCtx.go = false) ∧ (s.link 31).kind ≠ .camera ∧ { mic with kind := .camera }.kind = .camera) ∧
    ((s.link 31).lossTimer = some soon ∧ (s.link 31).state ≠ .lost) ∧
    ((s.link 31).rescueTimer = .running soon ∧ (withBinding s { binding .tuneLocal with link := 31 }).tuning 31 = true) ∧
    (s.tuning 31 = false ∧ ((withEntry s 0 (origin true)).entry 0).lock = true ∧ ¬(s.entry 0).lock = true ∧
      (s.link 31).rescueBarred = false ∧ { s.link 31 with rescueBarred := true }.rescueBarred = true) ∧
    ((late.link 31).lastRescue = some 0 ∧ 0 < (late.link 31).options.backoff - (late.board.time - 0).toNat) ∧
    ((s.link 31).lastRescue = none ∧ (∀ c < 4, (full.ctx c).phase ≠ .free)) ∧
    ((s.ctx 0).phase = .free ∧ ((withCtx s 0 { Ctx.free with phase := .held }).ctx 1).phase = .free) := by decide

/-- R88: a rescue refused for a locked origin bars the link's rescues: with the origin unlocked and the timer running again, the next expiry still starts none; once the link has left WEAK and entered it again, an expiry starts one. -/
theorem test_rescue_barred :
    let s (r : LinkRec) (lock : Bool) : State := withEntry (withLink ready 31 r) 0 (origin lock)
    let weak : LinkRec := { mic with state := .weak, rescueTimer := .running soon }
    let fired (r : LinkRec) (lock : Bool) : State := after (.rescueTimerExpiry 31) (s r lock)
    let barred := ((fired weak true).link 31)
    let left := ((s barred false).linkChange 31 fun r => { r with state := .live }).link 31
    let show3 (u : State) := ((u.link 31).rescueTimer, (u.link 31).rescueBarred, (u.ctx 0).phase)
    show3 (fired weak true) = (.stopped, true, .free) ∧ show3 (fired { barred with rescueTimer := .running soon } false) = (.stopped, true, .free) ∧
    left.rescueBarred = false ∧ show3 (fired { left with state := .weak, rescueTimer := .running soon } false) = (.stopped, false, .seeking) := by decide +kernel

/-- Link 31 waits for a context with its rescue; link 30's move in HELD has context 3; a MOVE_LINK is posted or not. -/
def rescueWaits (s : State) : State :=
  let full : State := { s with moves := { s.moves with ctxs := Vector.replicate 4 { Ctx.free with phase := .seeking, link := 2 } } }
  withCtx (withLink (withLink full 31 { mic with state := .weak, rescueTimer := .waiting }) 30 { mic with channel := 1 }) 3 { Ctx.free with phase := .held, link := 30 }

theorem witness_LinkTimersChangeTheLink_waiting : (rescueWaits ready).board.ready = true ∧ ((rescueWaits ready).link 31).rescueTimer = .waiting ∧
    ((rescueWaits ready).link 30).rescueTimer = .stopped := by decide

/-- R89: a context freed by a hold timeout goes to the waiting rescue at once; with a MOVE_LINK posted it stays free, for whichever is taken first. -/
theorem test_rescue_competes :
    let alone := (rescueWaits ready).endMove 3 .holdTimeout .none
    let competing := (rescueWaits (posted ready 2 18 [(4, 30), (5, 900)])).endMove 3 .holdTimeout .none
    ((alone.ctx 3).phase, (alone.ctx 3).link, (alone.ctx 3).origin) = (.seeking, 31, .rescue) ∧
    ((competing.ctx 3).phase, (competing.link 31).rescueTimer) = (.free, .waiting) ∧
    (((after (.moveLink 2) competing).ctx 3).link, ((after (.moveLink 2) competing).link 31).rescueTimer) = (30, .waiting) ∧
    (((after (.rescueTimerExpiry 31) competing).ctx 3).link, ((after (.rescueTimerExpiry 31) competing).link 31).rescueTimer) = (31, .stopped) := by decide +kernel

theorem witness_MoveLinkOpensAContext : 0 < 32 ∧ (posted ready 0 18 [(4, 31), (5, 12799)]).takesNext 0 18 = true := by decide

theorem witness_HeldMovesGoOrRunOut :
    let s (r : LinkRec) (x : Ctx) : State := withCtx (withLink (posted ready 2 19 [(4, 31)]) 31 r) 3 x
    ((s mic heldCtx).takesNext 2 19 = true ∧ (s mic heldCtx).ctxOf 31 = some 3 ∧ ((s mic heldCtx).ctx 3).phase = .held ∧ (s mic heldCtx).param 2 4 = 31 ∧
      (mic.applied ≠ .program ∧ mic.state = .live)) ∧
    (31 < (posted ready 2 19 [(4, 32)]).param 2 4 ∧ ∀ c < 4, (ready.ctx c).phase ≠ .held) ∧
    (heldCtx.go = false ∧ heldCtx.urgent = false ∧ { mic with applied := .program }.applied = .program ∧ { heldCtx with go := true }.go = true) ∧
    (mic.kind ≠ .camera ∧ { mic with kind := .camera }.kind = .camera) ∧
    (heldCtx.holdTimer = some soon ∧ soon.len ≤ ((s mic heldCtx).board.time - soon.start).toNat ∧ heldCtx.targetEntry = some 47 ∧ heldCtx.slot = some 1 ∧
      (∀ d < 3, ((s mic heldCtx).ctx d).phase = .free) ∧ (∀ l < 32, ((s mic heldCtx).link l).rescueTimer ≠ .waiting) ∧ (s mic heldCtx).tablesOk ∧
      (s mic heldCtx).retuning = (s mic heldCtx).probe.autoHold) ∧
    (let t := s { mic with state := .lost } { heldCtx with slot := none, origin := .rescue };
      (t.ctx 3).holdTimer = some soon ∧ (t.ctx 3).phase = .held ∧ (t.ctx 3).targetEntry = some 47 ∧ (t.ctx 3).slot = none ∧ (t.ctx 3).link < 32 ∧
        (t.link 31).state = .lost ∧ t.retuning = t.probe.autoHold) := by decide

theorem witness_ConfirmationExpiries :
    let x : Ctx := { heldCtx with phase := .confirm, confirmTimer := some soon, queryTimer := some soon }
    let s : State := withCtx (withLink ready 31 mic) 3 x
    (s.board.ready = true ∧ soon.len ≤ (s.board.time - soon.start).toNat ∧ (s.ctx 3).confirmTimer = some soon ∧ (s.ctx 3).phase = .confirm) ∧
    (s.ctx 3).queryTimer = some soon ∧
    (let t : State := withCtx s 3 { x with phase := .revertConfirm };
      (t.ctx 3).confirmTimer = some soon ∧ (t.ctx 3).phase = .revertConfirm ∧ (t.ctx 3).link < 32 ∧ ∀ l < 32, (t.link l).rescueTimer ≠ .waiting) := by decide

theorem witness_MovesFollowTheirTransactionsToTheirEnd :
    let s (p : Phase) (abort : Bool) : State := withCtx ready 3 { heldCtx with phase := p, abort := abort }
    let m (r : LinkRec) : State := withCtx (withEntry (withLink ready 31 r) 0 (origin false)) 3 { heldCtx with phase := .muting }
    let ends : State := { m { mic with state := .moving } with probe := { ready.probe with autoHold := true } }
    let waiting (r : RescueTimer) : State := withLink ready 31 { mic with state := .weak, rescueTimer := r }
    let full : State := { ready with moves := { ready.moves with ctxs := Vector.replicate 4 { Ctx.free with phase := .held } } }
    (∀ p ∈ [Phase.muting, .tuneFar, .tuneLocal, .confirm, .revertConfirm, .revertFar, .revertLocal, .unmuting],
      ((s p false).ctx 3).phase = p ∧ ((s p false).ctx 3).abort = false ∧ ((s p true).ctx 3).abort = true) ∧
    (((m { mic with applied := .program }).link 31).applied = .program ∧ mic.retunedOnAir = false ∧ (ready.link 31).applied ≠ .program ∧
      BusCmd.tuneFar 0 0 ≠ .query ∧ mic.kind ≠ .camera ∧ { mic with kind := .camera }.kind = .camera) ∧
    (ends.tablesOk ∧ ends.retuning = ends.probe.autoHold ∧ (ends.ctx 3).link < 32 ∧ (∀ d < 3, (ends.ctx d).phase = .free) ∧ (ends.ctx 3).targetEntry = some 47 ∧
      47 ≠ (ends.link 31).originEntry ∧ (ends.link 31).originEntry < 48 ∧ (∀ l < 32, (ends.link l).rescueTimer ≠ .waiting) ∧ (ends.ctx 3).slot = some 1 ∧
      Outcome.ok ≠ .none ∧ Outcome.aborted ≠ .none) ∧
    (∀ c < 4, (full.ctx c).phase ≠ .free) ∧
    (((waiting .waiting).link 31).rescueTimer = .waiting ∧ (∀ l < 31, ((waiting .waiting).link l).rescueTimer ≠ .waiting) ∧ ((waiting .waiting).ctx 0).phase = .free) := by decide

theorem witness_MovesFollowTheirTransactionsToTheirEnd_competes :
    let s := posted ready 2 18 [(4, 31)]
    2 ∈ s.board.attention ∧ s.slot 2 = .posted ∧ s.param 2 1 = 18 ∧ ready.board.attention = [] := by decide

/-- R109, R195: a CAMERA move confirmed from slot 1 completes OK, adopting entry 47 and freeing entry 0. -/
theorem test_move_end :
    let s := withCtx (withEntry (withEntry (withLink ready 31 { mic with kind := .camera, state := .moving, targetEntry := some 47 }) 0 (origin true)) 47
      { origin false with status := .reserved, code := 9 }) 3 { heldCtx with phase := .confirm }
    let u := s.endMove 3 .ok .none
    ((u.entry 0).status, (u.entry 47).status, (u.entry 47).lock, (u.link 31).originEntry, (u.link 31).state, u.slotWord 1 3, u.slotWord 1 10) =
      (.free, .active, true, 47, .bound, 0, 47) := by decide +kernel

theorem witness_BindingsCommitThenTune : ((withBinding ready (binding .seeking)).links.bindings.find? fun x => decide (x.link = 0)) = some (binding .seeking) ∧
    (binding .tuneFar).stage = .tuneFar ∧ (binding .tuneLocal).stage = .tuneLocal ∧
    (ready.bus.poll = .idle ∧ (ready.unit (binding .seeking).unit).state = .unused ∧ 1 ≤ (binding .seeking).unit ∧ (binding .seeking).unit ≤ 16 ∧
      (ready.unit 1).state = .unused ∧ ready.bus.cursor = 16) ∧ { binding .seeking with kind := .iem, output := some 31 }.kind = .iem ∧ ready.tablesOk := by decide

/-- R69, R72, R128, R171: the commit of an IEM binding with output 31 and a source at PREVIEW makes its unit UNKNOWN and asked by the IDLE poller, computes its pending tally and brings its programme in at full level. -/
theorem test_binding_commit :
    let b : Binding := { binding .seeking with kind := .iem, studio := .b, output := some 31, sources := [(1, 64)] }
    let s := { withBinding ready b with tally := { ready.tally with sources := put ready.tally.sources 127 .preview } }
    let u := s.bindingCommit b.link 5 700 1 none
    ((u.unit b.unit).state, u.bus.pollOffer, (u.linkTally b.link).pending, (u.linkTally b.link).head, (u.dest b.link).current, u.imageAt (18 * 31 + 17)) =
      (.unknown, some b.unit, .preview, .idle, 0, 0) := by decide +kernel

theorem witness_AbortAnswersByWhatTheSlotHolds :
    let s (m : Nat) : State := posted ready 2 30 [(5, m)]
    let held : State := (s 31).setSlot 31 .taken
    let byLink : State := posted ready 2 30 [(4, 1), (5, 31)]
    let j : Job := { source := .place 31, work := .audit, kind := .link, width := 0, linkKind := .mic, link := none, clamped := false }
    let run (aborted : Bool) : Running := job (.setCarrier 31 none) (.check 4 false) .foreign 4 0 aborted
    let cm : Stage := .closing { entry := 47, code := 4, reason := none } ready.plan.snapshot
    let seeking : State := withCtx ready 3 { heldCtx with phase := .seeking }
    let mine : Job := { j with source := .move 3 }
    ((s 31).takesNext 2 30 = true ∧ (s 31).param 2 4 = 0 ∧ (s 31).slot 31 = .free) ∧ (1 < (posted ready 2 30 [(4, 2)]).param 2 4 ∧ 31 < (s 32).param 2 5 ∧ (s 2).param 2 5 = 2) ∧
    ((s 31).setSlot 31 .done).slot 31 = .done ∧ (held.takesNext 2 30 = true ∧ held.slot 31 = .taken ∧ j.source.slot? = some 31) ∧
    (held.plan.waiting = [] ∧ (held.setWork (.job (run true))).plan.work = .job (run true) ∧ (run true).job.source.slot? = some 31 ∧ (run true).stage = .testing ∧
      { run false with stage := cm }.stage ≠ .testing ∧ (run true).job.source = .setCarrier 31 none) ∧
    (let bound : Running := { job (.bind 31 9) (.check 4 false) .link 4 0 false with stage := cm }
      let reused : State := withCtx (held.setWork (.job bound)) 3 { heldCtx with phase := .seeking, slot := some 31 };
      reused.plan.work = .job bound ∧ bound.stage ≠ .testing ∧ bound.job.source = .bind 31 9 ∧ reused.links.bindings = [] ∧ (reused.ctx 3).slot = some 31) ∧
    ((withBinding held { binding .tuneFar with slot := 31 }).links.bindings = [{ binding .tuneFar with slot := 31 }] ∧ held.links.bindings = [] ∧ held.plan.work = .idle) ∧
    (((withCtx held 3 { heldCtx with slot := some 31 }).ctx 3).slot = some 31 ∧ ∀ c < 4, (held.ctx c).phase = .free) ∧
    { held.probe with slot := some 31 }.slot = some 31 ∧
    (byLink.param 2 4 = 1 ∧ byLink.param 2 5 = 31 ∧ (∀ c < 4, (ready.ctx c).phase = .free) ∧ ((withCtx byLink 3 heldCtx).ctx 3).link = 31) ∧
    ((seeking.ctx 3).phase = .seeking ∧ (seeking.pushJob mine).plan.waiting = [mine] ∧ mine.source = .move 3 ∧ seeking.plan.waiting = [] ∧
      (job (.move 3) (.check 4 false) .link 4 0 false).job.source = .move 3) := by decide

/-- R112: an ABORT of a move in MUTING is OK and sets abort requested once; one in REVERT_FAR is TOO_LATE. -/
theorem test_abort_phases :
    let s (p : Phase) : State := withCtx ready 3 { heldCtx with phase := p }
    let u := ((s .muting).abortMove 3).2
    ((s .muting).abortMove 3).1 = .ok ∧ (u.ctx 3).abort = true ∧ u.abortMove 3 = (.ok, u) ∧ (s .revertFar).abortMove 3 = (.tooLate, s .revertFar) := by decide +kernel

/-- R30, R79: a slot re-used by a MOVE_LINK while the closing refresh of the BIND_LINK it held still runs: ABORT withdraws the waiting job of the move, which ends ABORTED. -/
theorem test_abort_reused_slot :
    let bound : Running := { job (.bind 31 9) (.check 4 false) .link 4 0 false with stage := .closing { entry := 47, code := 4, reason := none } ready.plan.snapshot }
    let waits : Job := { (job (.move 3) (.check 4 false) .link 4 0 false).job with source := .move 3 }
    let s := withCtx ((((withLink (posted ready 2 30 [(5, 31)]) 31 mic).setSlot 31 .taken).setWork (.job bound)).pushJob waits) 3 { heldCtx with phase := .seeking, slot := some 31 }
    let u := after (.abort 2) s
    (u.slotWord 2 3, u.slot 31, u.slotWord 31 3, (u.ctx 3).phase, u.plan.waiting) = (0, .done, BitVec.ofNat 16 Result.aborted.ctorIdx, .free, []) := by decide +kernel

/-- The words of a SET_LINE of line i. -/
def lineWords (i on : Nat) : List (Nat × Nat) := [(4, i), (5, on), (6, 4), (7, 2), (8, 2), (9, 2), (10, 10000), (11, 1000)]

/-- Line i enabled. -/
def withLine (s : State) (i : Nat) (r : Line) : State := { s with lines := { s.lines with recs := put s.lines.recs i r } }

/-- An enabled line that has been heard. -/
def heard : Line := { Line.reset with state := .active, enable := true, staleTimer := some soon, clearTimer := some soon }

theorem witness_SetLineConfiguresOneLine :
    let legal (s : State) : Bool := decide (s.param 2 4 ≤ 2 ∧ s.param 2 5 ≤ 1 ∧ s.param 2 6 ≤ 4 ∧ s.param 2 7 ≤ 2 ∧ s.param 2 8 ≠ 0 ∧ s.param 2 8 ≤ 2 ∧ s.param 2 9 ≤ 2)
    let s (i on : Nat) : State := posted ready 2 20 (lineWords i on)
    let held : State := withLine { s 1 0 with tally := { ready.tally with sources := put ready.tally.sources 127 .program } } 1 heard
    let named : State := withLink held 31 { mic with sources := [(1, 64)] }
    ((s 2 1).takesNext 2 20 = true ∧ legal (s 2 1) = true ∧ ((s 2 1).line 2).enable = false ∧ (s 2 1).param 2 5 = 1) ∧ 2 < (s 3 1).param 2 4 ∧
    (((withLine (s 2 1) 2 heard).line 2).enable = true ∧ (withLine (s 2 1) 2 heard).param 2 5 = 1 ∧ heard.rate ≠ (s 2 1).param 2 6) ∧
    (((withLine (s 1 0) 1 heard).line 1).enable = true ∧ legal (withLine (s 1 0) 1 heard) = true ∧ (withLine (s 1 0) 1 heard).param 2 5 = 0 ∧ (s 1 0).tablesOk) ∧
    ((named.link 31).sources = [(1, 64)] ∧ 127 / 64 = 1 ∧ look named.tally.sources 127 ≠ .off ∧ (named.line 1).enable = true) := by decide +kernel

theorem witness_CharactersAreJudgedThenDecoded :
    let odd : Line := { heard with parity := .odd, stopBits := 2, rx := Receiver.ready }
    (ready.board.ready = true ∧ (ready.line 2).enable = false) ∧ (heard.enable = true ∧ heard.stopBits = 1 ∧ heard.rx = Receiver.off) ∧
    (odd.enable = true ∧ odd.stopBits = 2 ∧ odd.rx = Receiver.ready ∧ ((List.range 8).filter fun k => (1#8 : Byte).getLsbD k).length = 1) ∧
    (heard.decoder = .hunt ∧ (0#8 : Byte) ≠ 0xE2#8) ∧ { heard with decoder := .collecting [1] }.decoder = .collecting [1] ∧ [(1 : Byte)].length < 2 ∧
    ((List.replicate 15 true).length < 16 ∧ heard.filter = .short ∧ 1 < 2) ∧
    (heard.rx.phase = .waiting 0 ∧ heard.rx.level = false ∧ heard.rx.run = 0) := by decide

theorem witness_CharactersAreJudgedThenDecoded_rest : Receiver.ready.atRest ∧ Receiver.off.atRest :=
  ⟨fun _ _ h => (nomatch h), fun _ _ h => (nomatch h)⟩

/-- R116, R118: levels sampled on line 0, right after it was switched on. -/
def sampled (levels : List Bool) : Line := (after (.receiveByteError 0 levels) (withLine ready 0 heard)).line 0

/-- R118: a break counts one framing error however long it lasts, and the byte after a bit time of mark is received. -/
theorem test_break : (sampled (List.replicate 16 true ++ List.replicate 600 false)).framingErrors = 1 ∧
    (sampled (List.replicate 16 true ++ List.replicate 600 false ++ bitTimes [true, false, true, true, true, true, true, true, true, true, true])).discarded = 1 := by
  decide +kernel

/-- R118: a break that begins inside a character, after its start bit and a bit at mark, waits for a bit time of mark too: a byte after less is not taken. -/
theorem test_break_inside_a_character :
    let broken := List.replicate 16 true ++ bitTimes [false, true] ++ List.replicate 200 false
    (sampled broken).framingErrors = 1 ∧ (sampled broken).rx.phase = .waiting 0 ∧
    (sampled (broken ++ List.replicate 8 true ++ bitTimes [false, true, true, true, true, true, true, true, true, true])).discarded = 0 := by decide +kernel

/-- R116: a start bit that comes before a whole bit time of mark after switching on is not taken. -/
theorem test_wait_for_mark : (sampled (List.replicate 14 true ++ bitTimes [false, true, true, true, true, true, true, true, true, true])).discarded = 0 ∧
    (sampled (List.replicate 17 true ++ bitTimes [false, true, true, true, true, true, true, true, true, true])).discarded = 1 := by decide +kernel

theorem witness_TallyAndPanelFrames :
    let s := withLine (withLine ready 1 heard) 2 heard
    let marked : Line := { heard with decoder := .collecting [] }
    (s.board.ready = true ∧ (s.line 1).enable = true ∧ (s.line 1).decoder = .hunt ∧ ((withLine s 1 marked).line 1).decoder = .collecting []) ∧
    (64 < (65#8).toNat ∧ 3 < (4#8).toNat ∧ (0#8 : Byte) ≠ 255#8 - (0 + 0)) ∧ ((64#8).toNat ≤ 64 ∧ (3#8).toNat ≤ 3 ∧ (64#8 : Byte) ≠ 0) ∧
    (15 < (16#8).toNat ∧ (16#8 : Byte) ≠ 0x7F#8 ∧ (11 < (12#8).toNat ∧ (127#8).toNat < 128) ∧ 139 < (140#8).toNat) ∧
    ((s.line 2).enable = true ∧ (s.line 2).decoder = .hunt ∧ (15#8).toNat ≤ 15 ∧ (11#8).toNat ≤ 11 ∧ 128 ≤ (0x8B#8).toNat ∧ (0x8B#8).toNat ≤ 139) := by decide

theorem witness_StaleLinesHoldThenClear :
    let s := withLine (withLine ready 1 heard) 2 heard
    s.board.ready = true ∧ soon.len ≤ (s.board.time - soon.start).toNat ∧ (s.line 1).staleTimer = some soon ∧ (s.line 2).staleTimer = some soon ∧
      (s.line 1).clearTimer = some soon ∧ (let v := withLink { s with tally := { s.tally with sources := put s.tally.sources 127 .program } } 31 { mic with sources := [(1, 64)] };
        ((List.range 64).all fun k => decide (look v.tally.sources (64 * 1 + k) = .off)) = false ∧ (v.link 31).state ≠ .vacant ∧
        (v.link 31).sources.any (fun x => decide (x.1 = 1)) = true) := by decide +kernel

theorem witness_TallyRequestsSetThePendingTally :
    let s := withLink (posted ready 2 21 [(4, 31), (5, 1), (6, 256 + 64)]) 31 mic
    let v := withLink (posted ready 2 22 [(4, 31), (5, 4)]) 31 mic
    (s.takesNext 2 21 = true ∧ s.param 2 5 ≤ 4 ∧ s.param 2 6 / 256 ≤ 1 ∧ s.param 2 6 % 256 = 64 ∧ s.param 2 4 ≤ 31 ∧ (s.link 31).state ≠ .vacant ∧
      (s.linkTally 31).override = .none) ∧
    (4 < (posted ready 2 21 [(5, 5)]).param 2 5 ∧ (ready.link 31).state = .vacant) ∧
    (v.takesNext 2 22 = true ∧ v.param 2 5 ≤ 4 ∧ (v.link 31).state ≠ .vacant) ∧ 4 < (posted ready 2 22 [(5, 5)]).param 2 5 := by decide

theorem witness_FrameEventsApplyThePendingTally :
    let s : State := { ready with ref := { ready.ref with lossTimer := some soon, synthTimer := some soon } }
    let live (r : LinkRec) : State := withLink s 31 r
    let differing (r : LinkRec) : State := { live r with tally := { s.tally with links := put s.tally.links 31 { LinkTally.vacant with pending := .program } } }
    let iem := differing { mic with kind := .iem }
    let camera := differing { mic with kind := .camera }
    (s.board.ready = true ∧ ¬∃ l < 32, (s.link l).state ≠ .vacant) ∧ s.ref.locked = false ∧ s.ref.lossTimer = some soon ∧ s.ref.synthTimer = some soon ∧
      soon.len ≤ (s.board.time - soon.start).toNat ∧
    ((iem.link 31).state ≠ .vacant ∧ (iem.link 31).applied ≠ (iem.linkTally 31).pending ∧ (iem.link 31).kind = .iem ∧ (iem.linkTally 31).pending = .program ∧
      ∀ c < 4, (iem.ctx c).phase ≠ .held) ∧
    ((camera.link 31).kind = .camera ∧ (camera.linkTally 31).head = .idle ∧ ((withCtx camera 3 { heldCtx with phase := .confirm }).ctxOf 31 = some 3)) ∧
    (((withCtx camera 3 { heldCtx with urgent := true }).ctx 3).phase = .held ∧ (withCtx camera 3 heldCtx).ctxOf 31 = some 3 ∧ (camera.link 31).state = .live) := by decide

/-- R136, R137, R144: a frame event gives link 31 its pending PROGRAM, lamp 23 naming it the duty 64 of that level, and its camera head tally waits. -/
theorem test_frame_event :
    let lamp : Lamp := { Lamp.reset with mode := .link, link := 31, dutyProgram := 64, state := .steady }
    let s : State := { withLink ready 31 { mic with kind := .camera } with
      tally := { ready.tally with links := put ready.tally.links 31 { LinkTally.vacant with pending := .program } }
      lamps := { ready.lamps with recs := put ready.lamps.recs 23 lamp } }
    let u := s.frameEvent
    ((u.link 31).applied, (u.lamp 23).duty, (u.linkTally 31).head, u.ref.frames) = (.program, 64, .waiting, 1) := by decide

theorem witness_SetLampDecidesTheLampAfresh : 0 < 32 ∧ (posted ready 0 23 [(4, 23), (5, 1), (6, 31)]).takesNext 0 23 = true := by decide

/-- The part in a lamp test. -/
def testing : State := { ready with lamps := { ready.lamps with testTimer := some soon } }

theorem witness_LampTestCoversEveryLampNotOff :
    let s (a : Nat) : State := posted testing 2 24 [(4, a), (5, 60)]
    ((s 1).takesNext 2 24 = true ∧ (s 1).tablesOk ∧ (s 1).param 2 4 = 1) ∧ 1 < (s 2).param 2 4 ∧
    ((s 0).param 2 4 = 0 ∧ (s 0).lamps.testTimer.isSome = true ∧ (posted ready 2 24 []).lamps.testTimer = none) ∧
    (testing.board.ready = true ∧ testing.lamps.testTimer = some soon ∧ soon.len ≤ (testing.board.time - soon.start).toNat) := by decide

theorem witness_LampsFollowLinksFadesAndBlinks :
    let x (k : Nat) : Lamp := { Lamp.reset with state := .fading, fadeTimer := some soon, blinkTimer := some soon, fade := { d0 := 64, dt := 0, k := k } }
    let s (k : Nat) : State := { ready with lamps := { ready.lamps with recs := put ready.lamps.recs 23 (x k) } }
    let follows (st : LampState) (alarm : Bool) : Lamp := { Lamp.reset with
      mode := .link, link := 31, state := st, alarm := alarm, duty := 32, dutyProgram := 64, dutyOff := 31, fadeN := 1 }
    let v (r : LinkRec) (p : Lamp) : State := withLink { ready with lamps := { ready.lamps with recs := put ready.lamps.recs 23 p } } 31 r
    ((s 6).board.ready = true ∧ soon.len ≤ ((s 6).board.time - soon.start).toNat ∧ ((s 6).lamp 23).fadeTimer = some soon ∧ ((s 6).lamp 23).state = .fading ∧
      ((s 6).lamp 23).fade.k + 1 < 8) ∧
    8 ≤ ((s 7).lamp 23).fade.k + 1 ∧ ((s 0).lamp 23).blinkTimer = some soon ∧ ({ d0 := 64, dt := 0, k := 0 } : Fade).dt ≤ 64 ∧
    ((ready.lamp 23).outOff = true ∧ { Lamp.reset with outOff := false, outDuty := 63 }.outDuty < 64) ∧
    (∀ st ∈ [LampState.off, .test, .steady, .fading, .blinking], ∀ a, ((v mic (follows st a)).lamp 23).mode = .link ∧ ((v mic (follows st a)).lamp 23).link = 31 ∧
      ((v mic (follows st a)).lamp 23).state = st ∧ ((v mic (follows st a)).lamp 23).alarm = a) ∧
    (({ mic with state := .adrift, applied := .program }.applied = .program) ∧ ({ mic with state := .lost }.state = .lost) ∧
      (follows .steady false).duty ≤ (follows .steady false).dutyProgram ∧ (follows .fading false).dutyOff < (follows .fading false).duty) := by decide

/-- R144, R146, R148: an unbinding lets a steady lamp at 32 fall to its OFF duty 31 by a fade, and ends a blink at that duty at once. -/
theorem test_lamp_unbound :
    let p (st : LampState) : Lamp := { Lamp.reset with mode := .link, link := 31, state := st, duty := 32, dutyOff := 31, fadeN := 1 }
    let u (st : LampState) : Lamp := (State.lampLevelChange { ready with lamps := { ready.lamps with recs := put ready.lamps.recs 23 (p st) } } 31).lamp 23
    ((u .steady).state, (u .steady).duty, (u .steady).fade.dt, (u .blinking).state, (u .blinking).duty) = (.fading, 32, 31, .steady, 31) := by decide

theorem witness_SetStationAndSetKeyWriteTheirSettings : (0 < 32 ∧ (posted ready 0 25 [(4, 15)]).takesNext 0 25 = true) ∧
    (posted ready 31 26 [(4, 15), (5, 11), (7, 37)]).takesNext 31 26 = true := by decide

/-- Key 11 of station 15 put into the key table. -/
def withKey (s : State) (k : Key) : State := { s with talk := { s.talk with keys := put s.talk.keys 191 k } }

theorem witness_TalkKeyFollowsTheKeyTables :
    let s (m : KeyMode) (a : Activity) (dir : Nat) : State := withKey (posted ready 2 27 [(4, 15), (5, 11), (6, dir)]) { Key.reset with mode := m, activity := a }
    ((s .auto .pressed 0).takesNext 2 27 = true ∧ (s .auto .pressed 0).tablesOk ∧ (s .auto .pressed 0).param 2 4 ≤ 15 ∧ (s .auto .pressed 0).param 2 5 ≤ 11 ∧
      (s .auto .pressed 0).param 2 6 ≤ 1 ∧ ((s .auto .pressed 0).key 191).mode ≠ .none) ∧
    1 < (s .auto .idle 2).param 2 6 ∧ ((s .none .idle 1).key 191).mode = .none ∧ ((s .latching .latched 1).key 191).activity = .latched := by decide +kernel

/-- A down on a key 11 of station 15 whose target is link 31, an IEM link of output 31, or the group ALL_A. -/
def talked (target : Nat) (a : Activity) : State :=
  withLink (withKey (posted ready 2 27 [(4, 15), (5, 11), (6, 1)]) { Key.reset with mode := .auto, activity := a, target := target, atten := 9, dests := if a = .idle then [] else [31] }) 31
    { mic with kind := .iem, output := some 31 }

theorem witness_TalkKeyFollowsTheKeyTables_activation : ((talked 31 .idle).takesNext 2 27 = true ∧ (talked 31 .idle).tablesOk ∧ ((talked 31 .idle).key 191).activity = .idle ∧
      ((talked 31 .idle).key 191).mode = .auto) ∧ (((talked 31 .latched).key 191).activity = .latched ∧ ((talked 31 .latched).key 191).dests.Nodup ∧ 31 ∈ ((talked 31 .latched).key 191).dests) := by
  decide +kernel

/-- R161, R163, R167: the key's request takes slot 0 of the destination, and its talk crosspoint its attenuation, by the link and by the group ALL_A. -/
theorem test_activation : ∀ target ∈ [31, 36],
    let u := after (.talkKey 2) (talked target .idle)
    (u.key 191).dests = [31] ∧ ((u.dest 31).slot 0).map (fun t => (t.req.station, t.req.key, t.req.atten, t.talking)) = some (15, 11, 9, true) ∧
      u.imageAt (18 * 31 + 15) = 9 ∧ (u.key 191).talking = 1 := by decide +kernel

/-- Link 31, an IEM link, with station 15's key 11 talking at attenuation 9 and station 0's key 0 waiting at attenuation 5, both keys with activity a. -/
def contested (a : Activity) : State :=
  let req (st k atten : Nat) : Waiter := { station := st, key := k, priority := 0, atten := atten, order := atten }
  let s := withLink ready 31 { mic with kind := .iem, output := some 31 }
  let active (dests : List Nat) : Key := { Key.reset with mode := .latching, activity := a, dests := dests }
  let d : Dest := { Dest.vacant with slots := put Dest.vacant.slots 0 (some { req := req 15 11 9, talking := true }), grant := [0], waiters := [req 0 0 5] }
  { s with talk := { s.talk with dests := put s.talk.dests 31 d, keys := put (put s.talk.keys 191 (active [31])) 0 { active [31] with activity := .latched } } }

/-- R124, R160, R165: the release notice silences the PRESSED key, whose slot goes to the waiter, and its talk crosspoint stays MUTE while the waiter's opens; LATCHED keys stay. -/
theorem test_release_notice :
    let s := withLine (contested .pressed) 2 heard
    let u := after (.staleTimerExpiry 2) s
    let v := after (.staleTimerExpiry 2) (withLine (contested .latched) 2 heard)
    ((u.key 191).activity, (u.key 0).activity, (u.key 0).talking, ((u.dest 31).slot 0).map (fun t => (t.req.station, t.talking)), (u.dest 31).waiters) =
      (.idle, .latched, 1, some (0, true), []) ∧
    (u.imageAt (18 * 31), u.imageAt (18 * 31 + 15)) = (5, 127) ∧ (v.key 191).activity = .latched ∧ v.dest 31 = (contested .latched).dest 31 := by decide +kernel

/-- A destination whose four slots hold talkers of priority p. -/
def fullDest (p : Nat) : Dest :=
  { Dest.vacant with
      slots := mapTable (fun i (_ : Option Talker) => some { req := { station := i, key := 0, priority := p, atten := 0, order := i }, talking := true }) Dest.vacant.slots
      grant := [0, 1, 2, 3] }

theorem witness_RequestsAreArbitratedAndTalkersFollowTheLink :
    let w : Waiter := { station := 9, key := 1, priority := 7, atten := 0, order := 9 }
    let iem : LinkRec := { mic with kind := .iem, output := some 31 }
    let s (r : LinkRec) : State := withLink { ready with talk := { ready.talk with dests := put ready.talk.dests 31 (fullDest 6) } } 31 r
    (w.priority ≤ 7 ∧ Dest.vacant.slot 0 = none) ∧
    ((∀ j < 4, (fullDest 6).slot j ≠ none) ∧ (fullDest 6).grant = [0, 1, 2, 3] ∧ ((fullDest 6).slot 3).map (·.req.priority) = some 6 ∧ 6 < w.priority ∧
      ∀ j < 4, (fullDest 6).grant.idxOf j ≤ (fullDest 6).grant.idxOf 3) ∧
    (∀ j < 4, ((fullDest 7).slot j).map (·.req.priority) = some 7) ∧
    (∀ x ∈ [{ w with order := 8 }], x.priority = w.priority → x.order ≠ w.order) ∧
    (((fullDest 7).slot 2).map (fun t => (t.req.station, t.req.key)) = some (2, 0) ∧ ∀ j < 4, j ≠ 2 → ((fullDest 7).slot j).map (·.req.station) ≠ some 2) ∧
    (∀ i < 4, ((fullDest 7).slot i).map (·.req.station) ≠ some 9) ∧
    ((s iem).tablesOk ∧ ((s iem).link 31).output = some 31 ∧ ((s iem).link 31).kind = .iem ∧ ((s iem).dest 31).talking = false) ∧
    (iem.state = .live ∧ (∀ i < 4, (((s iem).dest 31).slot i).map (·.talking) = some true) ∧ ((s { iem with state := .lost }).link 31).state = .lost) := by decide

/-- R166, R167, R173: link 31 LOST holds its four talkers, mutes their points and lets programme back to base 0; LIVE again, station 3 is at its attenuation and programme ducks by 24. -/
theorem test_talkers_follow :
    let s (st : LinkState) (d : Dest) : State := withLink { ready with talk := { ready.talk with dests := put ready.talk.dests 31 d } } 31
      { mic with kind := .iem, output := some 31, state := st }
    let heldDest : Dest := { (fullDest 6).setTalking false with current := 0, target := 0 }
    let up := (s .live heldDest).talkLinkChange 31
    let down := (s .lost { fullDest 6 with current := 0, target := 24, talking := true }).talkLinkChange 31
    (up.imageAt (pointOf 31 3), (up.dest 31).target, (up.dest 31).talking, down.imageAt (pointOf 31 3), (down.dest 31).target, (down.dest 31).edition) =
      (0, 24, true, 127, 0, 1) := by decide +kernel

theorem witness_CancelTalkAndKeyTimers :
    let k : Key := { Key.reset with mode := .auto, activity := .pressed, dests := [31], hangTimer := some soon, windowTimer := some soon }
    let s (who : Nat) : State := withKey (posted ready 2 28 [(4, who)]) k
    ((s 15).takesNext 2 28 = true ∧ (s 15).tablesOk ∧ (s 15).param 2 4 ≤ 15 ∧ ((s 15).key 191).activity ≠ .idle) ∧ (s 0xFFFF).param 2 4 = 0xFFFF ∧
    (15 < (s 16).param 2 4 ∧ (s 16).param 2 4 ≠ 0xFFFF) ∧
    ((s 15).board.ready = true ∧ soon.len ≤ ((s 15).board.time - soon.start).toNat ∧ ((s 15).key 191).hangTimer = some soon ∧ ((s 15).key 191).dests.Nodup) ∧
    ((s 15).key 191).windowTimer = some soon := by decide +kernel

theorem witness_ProgrammeSettingsAndRampSteps :
    let iem : LinkRec := { mic with kind := .iem, output := some 31 }
    let s (l : Nat) (r : LinkRec) : State := withLink (posted ready 2 29 [(4, l), (5, 1), (6, 127)]) 31 r
    ((s 31 iem).tablesOk ∧ (s 31 iem).takesNext 2 29 = true ∧ (s 31 iem).param 2 4 ≤ 31 ∧ ((s 31 iem).link 31).state ≠ .vacant ∧ ((s 31 iem).link 31).kind = .iem ∧
      min 127 ((s 31 iem).param 2 6) ≠ ((s 31 iem).dest 31).base) ∧
    (31 < (s 32 iem).param 2 4 ∧ ((s 31 LinkRec.vacant).link 31).state = .vacant ∧ ((s 31 mic).link 31).kind ≠ .iem) ∧
    ((posted ready 2 29 []).param 2 5).testBit 0 = false ∧
    (let t : State := { ready with talk := { ready.talk with dests := put ready.talk.dests 31 { Dest.vacant with rampTimer := some soon, current := 0, target := 24 } } };
      t.tablesOk ∧ t.board.ready = true ∧ (t.dest 31).rampTimer = some soon ∧ soon.len ≤ (t.board.time - soon.start).toNat) := by decide

/-- A matrix line whose queue holds points 0 to n - 1. -/
def queued (n : Nat) (st : Sender) : State :=
  { ready with matrix := { ready.matrix with
      image := (List.range n).map fun p => (p, 0), queue := (List.range n).map fun p => (p, 0), sender := st } }

/-- R179, R180: the marker 0xE4 of CLEAR_ALL, bit by bit; the line is at mark when the sender is IDLE. -/
theorem test_matrix_bits : (List.range 10).map Sender.clearAll.line = [false, false, false, true, false, false, true, true, true, true] ∧
    Sender.clearAll.line 50 = true ∧ Sender.idle.line 0 = true := by decide

theorem witness_TheOutputQueueAndTheSender :
    (Cells.wf Config.mute (queued 32 .clearAll).matrix.image = true ∧ (queued 32 .clearAll).imageAt 0 = 0 ∧ (queued 32 .clearAll).imageAt 0 ≠ 1 ∧
      (0, 0) ∈ (queued 32 .clearAll).matrix.queue) ∧
    ((queued 31 .clearAll).matrix.queue.length < 32 ∧ (queued 31 .clearAll).matrix.sender ≠ .idle ∧ ¬(575, 127) ∈ (queued 31 .clearAll).matrix.queue ∧
      (queued 31 .clearAll).imageAt 575 ≠ 0) ∧
    ((queued 0 .idle).matrix.queue = [] ∧ (queued 0 .idle).matrix.sender = .idle ∧ (queued 0 .idle).matrix.marks = []) ∧ 32 ≤ (queued 32 .clearAll).matrix.queue.length ∧
    ((queued 1 .clearAll).board.ready = true ∧ (queued 1 .clearAll).tablesOk ∧ (queued 1 .clearAll).matrix.queue = (0, 0) :: []) := by decide

theorem witness_EveryStepKeepsTheQueueAndTheTables : State.reset.matrix.Ok ∧ State.reset.board.attentionOk ∧ State.reset.tablesOk ∧ step State.reset = .next State.reset := by
  refine ⟨⟨by decide, by decide, by decide, by simp [rising, State.reset, Matrix.reset], by decide, ?_⟩, ⟨by simp [rising, State.reset, Board.reset], by decide⟩, by decide, rfl⟩
  intro p h
  exact absurd rfl h

end Sys2Proof.Tests
end

