-- ==== Sys2Proof/Proofs/FrequencyPlan.lean ====
section
/-! SUPPORT and the proofs of the statements on the frequency plan (chapter 1): the plan requests, the refresh, and a candidate that meets an exclusion. -/

namespace Sys2Proof.Machine

/-! ## A request's slot taken, and what its handler then reads and writes -/

section Taken

variable (s : State) (n : Nat)

/-- Taking a slot leaves the words of every slot (R183, R185). -/
@[simp] theorem State.taken_param (m w : Nat) : (s.dropAttention.setSlot n .taken).param m w = s.param m w := rfl

/-- Taking a slot leaves the plan table. -/
@[simp] theorem State.taken_entry (e : Nat) : (s.dropAttention.setSlot n .taken).entry e = s.entry e := rfl

/-- Taking a slot leaves what a SET_CARRIER job names. -/
@[simp] theorem State.taken_carrierNamed (e : Nat) : (s.dropAttention.setSlot n .taken).carrierNamed e = s.carrierNamed e := rfl

/-- Taking a slot leaves the locks. -/
@[simp] theorem State.taken_lockRefuses (e : Nat) (override : Bool) :
    (s.dropAttention.setSlot n .taken).lockRefuses e override = s.lockRefuses e override := rfl

/-- Taking a slot leaves the rules that its request words select. -/
@[simp] theorem State.taken_rulesField (m : Nat) : (s.dropAttention.setSlot n .taken).rulesField m = s.rulesField m := rfl

/-- A write of the rules keeps the take of the slot. -/
@[simp] theorem State.writeRules_taken (r : Rules) :
    (s.dropAttention.setSlot n .taken).writeRules r = (s.writeRules r).dropAttention.setSlot n .taken := by
  by_cases h : r = s.plan.rules
  · simp [State.writeRules, h]
  · simp [State.writeRules, h]; rfl

/-- A write of an exclusion place keeps the take of the slot. -/
@[simp] theorem State.writeExclusion_taken (k : Nat) (present : Bool) (lo hi : Nat) :
    (s.dropAttention.setSlot n .taken).writeExclusion k present lo hi =
      (s.writeExclusion k present lo hi).dropAttention.setSlot n .taken := by
  let x := look s.plan.exclusions k
  by_cases h : x.present = present ∧ x.lo = lo ∧ x.hi = hi
  · simp [State.writeExclusion, x, h]
  · simp [State.writeExclusion, x, h]; rfl

/-- A write of a lock flag keeps the take of the slot. -/
@[simp] theorem State.writeLock_taken (e : Nat) (lock : Bool) :
    (s.dropAttention.setSlot n .taken).writeLock e lock = (s.writeLock e lock).dropAttention.setSlot n .taken := by
  by_cases h : (s.entry e).lock = lock
  · simp [State.writeLock, h]
  · simp [State.writeLock, h]; rfl

/-- The removal path keeps the take of the slot. -/
@[simp] theorem State.freeEntry_taken (e : Nat) :
    (s.dropAttention.setSlot n .taken).freeEntry e = (s.freeEntry e).dropAttention.setSlot n .taken := rfl

end Taken

/-! ## What the plan requests write, record by record -/

/-- A write of the rules that changes them is one plan rewrite and sets refresh-pending (R9). -/
theorem State.writeRules_eq (s : State) (r : Rules) :
    s.writeRules r = if r = s.plan.rules then s else
      { s with plan := { s.plan with rules := r, edition := s.plan.edition + 1, refreshPending := true }
               board := s.board.note [.plan] } := rfl

/-- A write of an exclusion place that changes it counts both editions and sets refresh-pending (R8). -/
theorem State.writeExclusion_eq (s : State) (k : Nat) (present : Bool) (lo hi : Nat) :
    let old := look s.plan.exclusions k
    s.writeExclusion k present lo hi =
      if present = old.present ∧ lo = old.lo ∧ hi = old.hi then s else
        { s with plan := { s.plan with exclusions := put s.plan.exclusions k { present, lo, hi, edition := old.edition + 1 }
                                       edition := s.plan.edition + 1, refreshPending := true }
                 board := s.board.note [.plan] } := by
  simp only [State.writeExclusion, eq_comm (a := present), eq_comm (a := lo), eq_comm (a := hi)]
  rfl

/-- A write of a lock flag that changes it counts both editions and leaves refresh-pending (R13). -/
theorem State.writeLock_eq (s : State) (e : Nat) (lock : Bool) :
    s.writeLock e lock = if (s.entry e).lock = lock then s else
      { s with plan := { s.plan with entries := put s.plan.entries e { s.entry e with lock := lock, edition := (s.entry e).edition + 1 }
                                     edition := s.plan.edition + 1 }
               board := s.board.note [.plan] } := rfl

/-- The removal path empties one entry but for its edition, which it counts with the plan's, and sets refresh-pending (R17). -/
theorem State.freeEntry_eq (s : State) (e : Nat) :
    s.freeEntry e =
      { s with plan := { s.plan with entries := put s.plan.entries e { PlanEntry.free with edition := (s.entry e).edition + 1 }
                                     edition := s.plan.edition + 1, refreshPending := true }
               board := s.board.note [.plan] } := rfl

/-- An entry is not in use exactly when it is FREE (R3). -/
theorem PlanEntry.not_inUse_iff (x : PlanEntry) : (!x.inUse) = true ↔ x.status = .free := by
  simp [PlanEntry.inUse]

/-! ## Clamped fields -/

/-- A value clamped to a range that is not empty. -/
theorem clamp_eq_max_min {lo hi : Nat} (h : lo ≤ hi) (v : Nat) : clamp lo hi v = max lo (min hi v) := by
  unfold clamp
  split
  · omega
  · split <;> omega

/-- A value is clamped exactly when it lies outside the range. -/
theorem clamp_ne_iff {lo hi : Nat} (h : lo ≤ hi) (v : Nat) : clamp lo hi v ≠ v ↔ v < lo ∨ hi < v := by
  rw [clamp_eq_max_min h]; omega

/-- A selected value is clamped; another keeps the value in force (R9). -/
theorem selected_value {lo hi : Nat} (h : lo ≤ hi) (mask k raw cur : Nat) :
    (selected mask k lo hi raw cur).value = if mask.testBit k then max lo (min hi raw) else cur := by
  rw [← clamp_eq_max_min h]
  exact apply_ite Clamped.value _ _ _

/-- A value is noted as clamped when it is selected and out of range. -/
theorem selected_was {lo hi : Nat} (h : lo ≤ hi) (mask k raw cur : Nat) :
    (selected mask k lo hi raw cur).was = (mask.testBit k && (decide (raw < lo) || decide (hi < raw))) := by
  simp only [selected, maskBit, clampTo, clamp_ne_iff h]
  split <;> simp [*]

/-- A selected enable is set by every word but 0 (log entry 15). -/
theorem selected_enable (mask k raw : Nat) (cur : Bool) :
    decide ((selected mask k 0 1 raw (flag cur)).value = 1) = if mask.testBit k then decide (raw ≠ 0) else cur := by
  rw [selected_value (by omega)]
  split
  · exact decide_eq_decide.mpr (by omega)
  · cases cur <;> rfl

/-! ## SET_RULES and the defaults (R9) -/

/-- SET_RULES in a slot just taken writes the rules its words select and answers (R9). -/
theorem State.doSetRules_taken (s : State) (n : Nat) :
    (s.dropAttention.setSlot n .taken).doSetRules n = (s.writeRules (s.rulesField n).1).answered n (okOrClamped (s.rulesField n).2) [] := by
  simp only [State.doSetRules, State.taken_rulesField, State.writeRules_taken, State.complete_taken]

/-- Settles O10: each rule is a selected field, and only a write that changes one is a rewrite. -/
theorem setRulesAndTheDefaults : Obligations.SetRulesAndTheDefaults := by
  refine ⟨?_, ?_⟩
  · intro n s hn ht sel raw pick off old new r
    have hrules : (s.rulesField n).1 = new := by
      simp only [State.rulesField, selected_enable]
      simp (disch := omega) only [selected_value, Config.maxWidth]
      rfl
    have hresult : okOrClamped (s.rulesField n).2 = r := by
      simp (disch := omega) only [State.rulesField, selected_was, Config.maxWidth]
      rfl
    calc exec (.setRules n) s
        = .next ((s.dropAttention.setSlot n .taken).doSetRules n).settle := State.request_taken s n 1 _ hn ht
      _ = .next ((s.writeRules new).answered n r []).settle := by rw [State.doSetRules_taken, hrules, hresult]
      _ = _ := by rw [State.writeRules_eq, apply_ite (State.answered · n r [])]
  · rintro s t (h | ⟨hready, h⟩)
    · cases h
      rfl
    · have hsoft : exec .softReset s = .next s.softReset := by
        show Host.Outcome.next (if s.board.ready then s.softReset else s) = _
        rw [if_pos hready]
      cases hsoft.symm.trans h
      rfl

/-! ## LOCK_CARRIER and CLEAR_CARRIER (R13, R18) -/

/-- LOCK_CARRIER in a slot just taken: its checks, and the write of the lock flag (R13). -/
theorem State.doLockCarrier_taken (s : State) (n : Nat) :
    let e := s.param n 4
    (s.dropAttention.setSlot n .taken).doLockCarrier n =
      if 47 < e ∨ 1 < s.param n 5 then s.answered n .badField []
      else if (s.entry e).status = .free then s.answered n .notFound []
      else if (s.entry e).status = .reserved then s.answered n .inUse []
      else (s.writeLock e (decide (s.param n 5 = 1))).answered n .ok [] := by
  simp only [State.doLockCarrier, State.taken_param, State.taken_entry]
  cases (s.entry (s.param n 4)).status with
  | free => simp only [State.complete_taken, if_true]
  | reserved => simp only [State.complete_taken, reduceCtorEq, if_true, if_false]
  | active => simp only [State.writeLock_taken, State.complete_taken, reduceCtorEq, if_false]; rfl

/-- CLEAR_CARRIER in a slot just taken: its checks in their order, and the removal path (R17, R18). -/
theorem State.doClearCarrier_taken (s : State) (n : Nat) :
    let e := s.param n 4
    (s.dropAttention.setSlot n .taken).doClearCarrier n =
      if 47 < e then s.answered n .badField []
      else if (s.entry e).status = .free then s.answered n .notFound []
      else if (s.entry e).kind = .link then s.answered n .inUse []
      else if s.carrierNamed e then s.answered n .busy []
      else if s.lockRefuses e (flagOverride (s.param n 5)) then s.answered n .locked []
      else (s.freeEntry e).answered n .ok [] := by
  simp only [State.doClearCarrier, State.taken_param, State.taken_entry, State.taken_carrierNamed, State.taken_lockRefuses,
    State.freeEntry_taken, State.complete_taken, PlanEntry.not_inUse_iff]

/-- Settles O12: the two requests' checks, with the lock write and the removal path as one plan rewrite each. -/
theorem lockCarrierAndClearCarrier : Obligations.LockCarrierAndClearCarrier := by
  refine ⟨?_, ?_⟩
  · intro n s hn ht e x lock
    calc exec (.lockCarrier n) s
        = .next ((s.dropAttention.setSlot n .taken).doLockCarrier n).settle := State.request_taken s n 6 _ hn ht
      _ = _ := by rw [State.doLockCarrier_taken, State.writeLock_eq, apply_ite (State.answered · n .ok [])]
  · intro n s hn ht e x override
    calc exec (.clearCarrier n) s
        = .next ((s.dropAttention.setSlot n .taken).doClearCarrier n).settle := State.request_taken s n 5 _ hn ht
      _ = _ := by rw [State.doClearCarrier_taken, State.freeEntry_eq]; rfl

/-! ## SET_EXCLUSION (R8) -/

/-- A value clamped to the codes of the band. -/
theorem clampTo_code (v : Nat) : clampTo 0 Config.maxCode v = { value := min 12799 v, was := decide (12799 < v) } := by
  simp [clampTo, clamp_eq_max_min, Config.maxCode]

/-- SET_EXCLUSION in a slot just taken: its checks, and the write of the place (R8). -/
theorem State.doSetExclusion_taken (s : State) (n : Nat) :
    let k := s.param n 4
    let lo := min 12799 (s.param n 6)
    let hi := min 12799 (s.param n 7)
    (s.dropAttention.setSlot n .taken).doSetExclusion n =
      if 7 < k ∨ 1 < s.param n 5 then s.answered n .badField []
      else if s.param n 5 = 0 then (s.writeExclusion k false 0 0).answered n .ok []
      else if hi < lo then s.answered n .badField []
      else (s.writeExclusion k true lo hi).answered n (if 12799 < s.param n 6 ∨ 12799 < s.param n 7 then .clamped else .ok) [] := by
  simp only [State.doSetExclusion, State.taken_param, State.writeExclusion_taken, State.complete_taken, clampTo_code, okOrClamped,
    Bool.or_eq_true, decide_eq_true_eq]

/-! ## An entry under an exclusion at the refresh (R8, R25, R26) -/

/-- A span and a range of codes meet. -/
theorem spanMeets_natCast (f w lo hi : Nat) : spanMeets f w lo hi = true ↔ f ≤ hi + w ∧ lo ≤ f + w := by
  simp only [spanMeets, decide_eq_true_eq]
  omega

/-- A record of a table is a member of its list. -/
theorem look_mem_toList {α : Type} {n : Nat} [Inhabited α] (v : Vector α n) (i : Nat) (h : i < n) : look v i ∈ v.toList := by
  simp [look, h]

/-- The signal of an in-use entry is among the plan's signals (R3). -/
theorem signal_mem_signalsOf (entries : Vector PlanEntry 48) (e : Nat) (he : e < 48) (hu : (look entries e).inUse = true) :
    (look entries e).signal e ∈ signalsOf entries :=
  List.mem_filterMap.mpr ⟨e, List.mem_range.mpr he, if_pos hu⟩

/-- A violation of an exclusion place is of type EXCL. -/
theorem type_of_mem_exclInstances {xs : List Exclusion} {l : List Signal} {i : Inst} (h : i ∈ exclInstances xs l) : i.type = .excl := by
  obtain ⟨a, -, hi⟩ := List.mem_flatMap.mp h
  obtain ⟨x, -, rfl⟩ := List.mem_map.mp hi
  rfl

/-- A LINK signal that overlaps a present place has its EXCL violation (R25). -/
theorem mem_exclInstances {xs : List Exclusion} {l : List Signal} {x : Exclusion} {a : Signal} (hx : x ∈ xs) (ha : a ∈ l)
    (h : exclMeets x a = true) : { type := .excl, members := [a.id] } ∈ exclInstances xs l :=
  List.mem_flatMap.mpr ⟨a, ha, List.mem_map.mpr ⟨x, List.mem_filter.mpr ⟨hx, h⟩, rfl⟩⟩

/-- EXCL stands first among the types: an entry with an EXCL violation has worst type EXCL (R25). -/
theorem worstOf_instances_excl {r : Rules} {xs : List Exclusion} {l : List Signal} {i : Inst} {n : Nat} (hi : i ∈ exclInstances xs l)
    (hn : n ∈ i.members) : instancesOf (instances r xs l) n ≠ [] ∧ worstOf (instancesOf (instances r xs l) n) = .excl := by
  have hmem : i ∈ instancesOf (exclInstances xs l) n := List.mem_filter.mpr ⟨hi, by simpa using hn⟩
  obtain ⟨j, js, hjs⟩ := List.exists_cons_of_ne_nil (List.ne_nil_of_mem hmem)
  have hj : j ∈ exclInstances xs l := (List.mem_filter.mp (hjs ▸ List.mem_cons_self : j ∈ instancesOf (exclInstances xs l) n)).1
  have hall : ∃ ks, instancesOf (instances r xs l) n = j :: ks := by
    simp only [instances, instancesOf, List.filter_append, List.append_assoc] at hjs ⊢
    rw [hjs]
    exact ⟨_, rfl⟩
  obtain ⟨ks, hks⟩ := hall
  rw [hks]
  exact ⟨List.cons_ne_nil _ _, type_of_mem_exclInstances hj⟩

/-- A refresh writes an in-use entry's three values and its edition and nothing else of it (R11, R26). -/
theorem PlanEntry.refreshed_of_inUse (is : List Inst) (fresh : Option Nat) (n : Nat) (e : PlanEntry) (h : e.inUse = true) :
    PlanEntry.refreshed is fresh n e = { e.withMarks (instancesOf is n) with edition := (PlanEntry.refreshed is fresh n e).edition } := by
  unfold PlanEntry.refreshed
  by_cases hw : e.withMarks (instancesOf is n) = e
  · simp [hw]
  · simp [h, hw]

/-- What a refresh on its own leaves of an entry (R26). -/
theorem State.writeRefresh_entry (s : State) (x : PlanSnapshot) (e : Nat) (he : e < 48) :
    ((s.writeRefresh x).setWork .idle).entry e = PlanEntry.refreshed x.instances none e (s.entry e) := by
  have hentries : (s.writeRefresh x).plan.entries = refreshEntries x none s.plan.entries := by
    simp only [State.writeRefresh]
    split <;> rfl
  show look (s.writeRefresh x).plan.entries e = _
  rw [hentries]
  exact look_mapTable _ _ _ he

/-- The end of a refresh on its own is its write (R26, R27). -/
theorem exec_refreshEnd_of_refresh {s : State} {x : PlanSnapshot} (hready : s.board.ready = true) (hwork : s.plan.work = .refresh x) :
    exec .refreshEnd s = .next ((s.writeRefresh x).setWork .idle).settle := by
  show Host.Outcome.next (s.onEvent s.engineRefresh) = _
  simp only [State.onEvent, hready, if_true, State.engineRefresh, hwork]

/-! ## A candidate under an exclusion (R31, R33) -/

/-- A LINK candidate within the band that overlaps a present place fails with the reason EXCL (R31, R33). -/
theorem Candidate.reason_excl {c : Candidate} {p : Plan} {x : Exclusion} (pr : Probe) (hkind : c.kind = .link) (hlo : c.width ≤ c.code)
    (hhi : c.code + c.width ≤ 12799) (hx : x ∈ p.exclusions.toList) (hm : exclMeets x c.signal = true) : c.reason p pr = .excl := by
  have hband : c.inBand = true := by simp [Candidate.inBand, Config.maxCode, hlo, hhi]
  have hclear : c.clearOfExclusions p.exclusions.toList = false := by
    simp only [Candidate.clearOfExclusions, Bool.not_eq_false', List.any_eq_true]
    exact ⟨x, hx, hm⟩
  simp [Candidate.reason, hband, hclear, hkind]

/-- A failed candidate of a search: the next one, or the end of the search at its limit or its last candidate (R34, R35). -/
theorem State.testCandidate_search_failed {s : State} {r : Running} {g : Grid} (hwork : r.job.work = .search g)
    (hr : r.candidate.reason s.plan s.probe ≠ .none) :
    s.testCandidate r =
      if r.examined + 1 < g.limit ∧ r.examined + 1 ≤ (g.hi - g.lo) / g.step then
        s.setWork (.job { r with cursor := g.next r.cursor, examined := r.examined + 1 })
      else (s.setWork .idle).jobFailed r.job (if r.aborted then .aborted else .noChannel) (r.examined + 1) none := by
  have hend : min g.size g.limit ≤ r.examined + 1 ↔ ¬(r.examined + 1 < g.limit ∧ r.examined + 1 ≤ (g.hi - g.lo) / g.step) := by
    unfold Grid.size
    omega
  simp only [State.testCandidate, hwork, if_neg hr, hend, ite_not]

/-- A candidate test of a running job (R29). -/
theorem exec_candidateTest_of_testing {s : State} {r : Running} (hready : s.board.ready = true) (hwork : s.plan.work = .job r)
    (hstage : r.stage = .testing) : exec .candidateTest s = .next (s.testCandidate r).settle := by
  show Host.Outcome.next (s.onEvent s.engineTest) = _
  simp only [State.onEvent, hready, if_true, State.engineTest, hwork, hstage]

/-- Settles O11: the write of one place; the refresh, by the EXCL violation that comes first of an entry's; the candidate test, by the reason EXCL. -/
theorem setExclusionWritesItsPlace : Obligations.SetExclusionWritesItsPlace := by
  refine ⟨?_, ?_, ?_⟩
  · intro n s hn ht k action lo hi old written
    have hwritten (present : Bool) (lo hi : Nat) (r : Result) :
        (s.writeExclusion k present lo hi).answered n r [] = written { present, lo, hi, edition := 0 } r := by
      rw [State.writeExclusion_eq, apply_ite (State.answered · n r [])]
    calc exec (.setExclusion n) s
        = .next ((s.dropAttention.setSlot n .taken).doSetExclusion n).settle := State.request_taken s n 2 _ hn ht
      _ = _ := by rw [State.doSetExclusion_taken, hwritten, hwritten]
  · intro s x e hready hwork he old begun hold hbegun hkind ⟨k, hk, hpresent, hhi, hlo⟩
    have hmeets : exclMeets (look x.exclusions k) (begun.signal e) = true := by
      simp [exclMeets, PlanEntry.signal, hpresent, hkind, spanMeets_natCast, hhi, hlo]
    have hsignal : begun.signal e ∈ signalsOf x.entries := signal_mem_signalsOf x.entries e he (by simpa [PlanEntry.inUse] using hbegun)
    obtain ⟨hne, hworst⟩ : instancesOf x.instances e ≠ [] ∧ worstOf (instancesOf x.instances e) = .excl :=
      worstOf_instances_excl (mem_exclInstances (look_mem_toList x.exclusions k hk) hsignal hmeets) List.mem_cons_self
    have hpos : 0 < (instancesOf x.instances e).length := List.length_pos_iff.mpr hne
    refine ⟨_, exec_refreshEnd_of_refresh hready hwork, ?_⟩
    rw [State.writeRefresh_entry s x e he]
    have hfields := PlanEntry.refreshed_of_inUse x.instances none e old (by simpa [PlanEntry.inUse] using hold)
    have hmarks : old.withMarks (instancesOf x.instances e) =
        { old with mark := true, count := min 65535 (instancesOf x.instances e).length, worst := .excl } := by
      rw [PlanEntry.withMarks, decide_eq_true hpos.ne', hworst]
    rw [hmarks] at hfields
    rw [hfields]
    exact ⟨rfl, by simpa using hpos, rfl, rfl⟩
  · intro s r g n hready hwork hstage hsource hsearch hkind hlow hhigh ⟨k, hk, hpresent, hhi, hlo⟩ count
    have hmeets : exclMeets (look s.plan.exclusions k) r.candidate.signal = true := by
      simp [exclMeets, Candidate.signal, Running.candidate, hpresent, hkind, spanMeets_natCast, hhi, hlo]
    have hreason : r.candidate.reason s.plan s.probe = .excl :=
      Candidate.reason_excl s.probe hkind hlow hhigh (look_mem_toList _ k hk) hmeets
    have hfailed (f : JobFailure) : (s.setWork .idle).jobFailed r.job f count none =
        (s.setWork .idle).complete n f.result [(12, 0xFFFF#16), (13, BitVec.ofNat 16 count)] := by
      simp only [State.jobFailed, hsource]
      rfl
    rw [exec_candidateTest_of_testing hready hwork hstage, State.testCandidate_search_failed hsearch (by rw [hreason]; decide),
      hfailed, apply_ite JobFailure.result]
    rfl

end Sys2Proof.Machine
end

section
/-! SUPPORT. What leaves the plan alone (chapters 1 and 2): one lemma for each operation of the other blocks, in the order of the definitions. -/

namespace Sys2Proof.Machine

/-! ## Folds and completions -/

/-- Folding operations that leave the plan leaves the plan. -/
theorem State.foldl_plan {α : Type} (f : State → α → State) (hf : ∀ s a, (f s a).plan = s.plan) (l : List α) (s : State) :
    (l.foldl f s).plan = s.plan :=
  List.foldlRecOn l f (motive := fun t => t.plan = s.plan) rfl fun t ht a _ => (hf t a).trans ht

/-- The completion of a request leaves the plan (R186). -/
@[simp] theorem State.complete_plan (s : State) (n : Nat) (r : Result) (ws : List (Nat × Word)) : (s.complete n r ws).plan = s.plan := by
  rw [State.complete_eq]

/-! ## Steps of talkback, the matrix line and the lamps -/

/-- The state u differs from s in no more than the board, talkback, the matrix line and the lamps. -/
def State.StudioOnly (s u : State) : Prop :=
  ∃ (board : Board) (talk : Talk) (matrix : Matrix) (lamps : Lamps), u = { s with board, talk, matrix, lamps }

namespace State.StudioOnly

variable {s t u : State}

/-- Changing nothing. -/
theorem same (s : State) : StudioOnly s s := ⟨_, _, _, _, rfl⟩

/-- One such change after another. -/
theorem trans (h : StudioOnly s t) (h' : StudioOnly t u) : StudioOnly s u := by
  obtain ⟨_, _, _, _, rfl⟩ := h
  obtain ⟨_, _, _, _, rfl⟩ := h'
  exact ⟨_, _, _, _, rfl⟩

/-- Such changes one by one over a list. -/
theorem foldl {α : Type} {f : State → α → State} (hf : ∀ s a, StudioOnly s (f s a)) (l : List α) (s : State) :
    StudioOnly s (l.foldl f s) :=
  List.foldlRecOn l f (motive := StudioOnly s) (same s) fun t ht a _ => ht.trans (hf t a)

/-- Such a change under a test. -/
theorem branch {c : Prop} [Decidable c] (h : StudioOnly s t) (h' : StudioOnly s u) : StudioOnly s (if c then t else u) := by
  split <;> assumption

theorem plan (h : StudioOnly s u) : u.plan = s.plan := by obtain ⟨_, _, _, _, rfl⟩ := h; rfl
theorem probe (h : StudioOnly s u) : u.probe = s.probe := by obtain ⟨_, _, _, _, rfl⟩ := h; rfl
theorem links (h : StudioOnly s u) : u.links = s.links := by obtain ⟨_, _, _, _, rfl⟩ := h; rfl
theorem moves (h : StudioOnly s u) : u.moves = s.moves := by obtain ⟨_, _, _, _, rfl⟩ := h; rfl

end State.StudioOnly

section Studio

open State.StudioOnly

variable (s : State)

theorem State.talkRewrites_studioOnly (k : Nat) : StudioOnly s (s.talkRewrites k) :=
  branch (same s) ⟨_, _, _, _, rfl⟩

theorem State.setKey_studioOnly (p : Nat) (f : Key → Key) : StudioOnly s (s.setKey p f) := ⟨_, _, _, _, rfl⟩

theorem State.setDest_studioOnly (l : Nat) (f : Dest → Dest) : StudioOnly s (s.setDest l f) := ⟨_, _, _, _, rfl⟩

theorem State.rewriteDest_studioOnly (l : Nat) (f : Dest → Dest) : StudioOnly s (s.rewriteDest l f) :=
  (s.setDest_studioOnly l _).trans (talkRewrites_studioOnly _ 1)

theorem State.lampEvent_studioOnly (n : Nat) (f : Lamp → Lamp) : StudioOnly s (s.lampEvent n f) :=
  branch ⟨_, _, _, _, rfl⟩ ⟨_, _, _, _, rfl⟩

/-! ### The matrix line and ducking (chapter 11) -/

theorem State.writePoint_studioOnly (p v : Nat) : StudioOnly s (s.writePoint p v) :=
  branch (same s) (branch ⟨_, _, _, _, rfl⟩ ⟨_, _, _, _, rfl⟩)

theorem State.writeProgramme_studioOnly (l : Nat) : StudioOnly s (s.writeProgramme l) := by
  unfold State.writeProgramme
  split
  · exact same s
  · exact s.writePoint_studioOnly _ _

theorem State.duckNotice_studioOnly (l : Nat) (talking : Bool) : StudioOnly s (s.duckNotice l talking) :=
  branch (same s) ⟨_, _, _, _, rfl⟩

theorem State.duckBind_studioOnly (l : Nat) : StudioOnly s (s.duckBind l) :=
  branch ((s.setDest_studioOnly l _).trans (writeProgramme_studioOnly _ l)) (same s)

theorem State.vacateProgramme_studioOnly (l : Nat) : StudioOnly s (s.vacateProgramme l) :=
  branch (s.setDest_studioOnly l _) (s.rewriteDest_studioOnly l _)

theorem State.duckUnbind_studioOnly (l : Nat) : StudioOnly s (s.duckUnbind l) :=
  branch ((s.vacateProgramme_studioOnly l).trans (writeProgramme_studioOnly _ l)) (same s)

theorem State.setCurrent_studioOnly (l c : Nat) : StudioOnly s (s.setCurrent l c) :=
  branch (same s) ((s.setDest_studioOnly l _).trans (writeProgramme_studioOnly _ l))

theorem State.writeSettings_studioOnly (l base offAir onAir rate : Nat) : StudioOnly s (s.writeSettings l base offAir onAir rate) := by
  have hwritten : StudioOnly s (s.rewriteDest l fun d => { d with base := base, offAir := offAir, onAir := onAir, rate := rate }) :=
    s.rewriteDest_studioOnly l _
  have hmoved := hwritten.trans (branch (c := (s.dest l).base = base) (same _) (setCurrent_studioOnly _ l (rebase (s.dest l).base base (s.dest l).current)))
  exact branch (same s) ((hmoved.trans (branch (same _) (setCurrent_studioOnly _ l _))).trans (setDest_studioOnly _ l _))

theorem State.rampExpiry_studioOnly (l : Nat) : StudioOnly s (s.rampExpiry l) :=
  (s.setDest_studioOnly l _).trans (writeProgramme_studioOnly _ l)

/-! ### Talkback (chapter 10) -/

theorem State.writeTalkPoints_studioOnly (l : Nat) : StudioOnly s (s.writeTalkPoints l) := by
  unfold State.writeTalkPoints
  split
  · exact same s
  · exact foldl (fun t st => t.writePoint_studioOnly _ _) _ s

theorem State.settleDest_studioOnly (l : Nat) : StudioOnly s (s.settleDest l) :=
  branch ((s.writeTalkPoints_studioOnly l).trans (duckNotice_studioOnly _ l _)) (s.writeTalkPoints_studioOnly l)

/-- The editions that a talk event counts. -/
theorem State.countTalk_studioOnly (t : State) : StudioOnly t (s.countTalk t) :=
  (foldl (fun u l => u.setDest_studioOnly l _) _ t).trans (talkRewrites_studioOnly _ _)

/-- A talk event is one as far as its own changes are. -/
theorem State.talkEvent_studioOnly {f : State → State} (hf : StudioOnly s (f s)) : StudioOnly s (s.talkEvent f) :=
  (hf.trans ⟨_, _, _, _, rfl⟩).trans (s.countTalk_studioOnly _)

theorem State.requestAt_studioOnly (w : Waiter) (l : Nat) : StudioOnly s (s.requestAt w l) := by
  refine .trans ?_ (settleDest_studioOnly _ l)
  split
  · exact s.setDest_studioOnly l _
  · exact (s.setDest_studioOnly l _).trans (setKey_studioOnly _ _ _)

theorem State.activate_studioOnly (st k : Nat) : StudioOnly s (s.activate st k) :=
  .trans ⟨_, _, _, _, rfl⟩ (foldl (fun t l => t.requestAt_studioOnly _ l) _ _)

theorem State.deactivate_studioOnly (st k : Nat) : StudioOnly s (s.deactivate st k) :=
  (foldl (fun t l => (t.setDest_studioOnly l _).trans (settleDest_studioOnly _ l)) _ s).trans (setKey_studioOnly _ _ _)

theorem State.releaseKey_studioOnly (st k : Nat) : StudioOnly s (s.releaseKey st k) :=
  branch (s.deactivate_studioOnly st k) (s.setKey_studioOnly _ _)

theorem State.keyDown_studioOnly (st k : Nat) : StudioOnly s (s.keyDown st k) := by
  have hactivate (f : Key → Key) : StudioOnly s ((s.activate st k).setKey (keyPlace st k) f) :=
    (s.activate_studioOnly st k).trans (setKey_studioOnly _ _ f)
  simp only [State.keyDown]
  cases (s.key (keyPlace st k)).mode with
  | none => exact same s
  | momentary =>
    cases (s.key (keyPlace st k)).activity with
    | idle => exact hactivate _
    | hanging => exact s.setKey_studioOnly _ _
    | pressed | latched => exact same s
  | latching =>
    cases (s.key (keyPlace st k)).activity with
    | idle => exact hactivate _
    | latched => exact s.deactivate_studioOnly st k
    | pressed | hanging => exact same s
  | auto =>
    cases (s.key (keyPlace st k)).activity with
    | idle => exact hactivate _
    | hanging => exact s.setKey_studioOnly _ _
    | latched => exact s.deactivate_studioOnly st k
    | pressed => exact same s

theorem State.keyUp_studioOnly (st k : Nat) : StudioOnly s (s.keyUp st k) := by
  simp only [State.keyUp]
  cases (s.key (keyPlace st k)).mode with
  | none | latching => exact same s
  | momentary =>
    cases (s.key (keyPlace st k)).activity with
    | pressed => exact s.releaseKey_studioOnly st k
    | idle | hanging | latched => exact same s
  | auto =>
    cases (s.key (keyPlace st k)).activity with
    | pressed => exact branch (s.setKey_studioOnly _ _) (s.releaseKey_studioOnly st k)
    | idle | hanging | latched => exact same s

theorem State.keyEvent_studioOnly (st k : Nat) (down : Bool) : StudioOnly s (s.keyEvent st k down) :=
  s.talkEvent_studioOnly (branch (s.keyDown_studioOnly st k) (s.keyUp_studioOnly st k))

theorem State.deactivateAll_studioOnly (ps : List Nat) : StudioOnly s (s.deactivateAll ps) :=
  s.talkEvent_studioOnly (foldl (fun t _ => t.deactivate_studioOnly _ _) ps s)

theorem State.releaseNotice_studioOnly : StudioOnly s s.releaseNotice := s.deactivateAll_studioOnly _

theorem State.hangExpiry_studioOnly (st k : Nat) : StudioOnly s (s.hangExpiry st k) :=
  s.talkEvent_studioOnly (s.deactivate_studioOnly st k)

theorem State.talkLinkChange_studioOnly (l : Nat) : StudioOnly s (s.talkLinkChange l) :=
  branch (same s) (s.talkEvent_studioOnly ((s.setDest_studioOnly l _).trans (settleDest_studioOnly _ l)))

theorem State.talkUnbind_studioOnly (l : Nat) : StudioOnly s (s.talkUnbind l) :=
  s.talkEvent_studioOnly (((s.setDest_studioOnly l _).trans (writeTalkPoints_studioOnly _ l)).trans ⟨_, _, _, _, rfl⟩)

/-! ### Lamps (chapter 9) -/

theorem State.lampLevelChange_studioOnly (l : Nat) : StudioOnly s (s.lampLevelChange l) :=
  foldl (fun t n => t.lampEvent_studioOnly n _) _ s

theorem State.lampStateChange_studioOnly (l : Nat) : StudioOnly s (s.lampStateChange l) :=
  foldl (fun t n => t.lampEvent_studioOnly n _) _ s

theorem State.startTest_studioOnly : StudioOnly s s.startTest :=
  foldl (fun t _ => branch (same t) ⟨_, _, _, _, rfl⟩) _ s

theorem State.endTest_studioOnly : StudioOnly s s.endTest :=
  .trans ⟨_, _, _, _, rfl⟩ (foldl (fun t _ => branch ⟨_, _, _, _, rfl⟩ (same t)) _ _)

end Studio

end Sys2Proof.Machine
end

section
/-! SUPPORT. What leaves the plan alone (chapters 3 to 8): the operations of the bus, the probe, tally, links, moves and lines. -/

namespace Sys2Proof.Machine

section Plan

variable (s : State)

@[simp] theorem State.withCommands_plan (cs : List Instr) : ({ s with pending := cs } : State).plan = s.plan := rfl

/-! ## The unit bus (chapter 4) -/

@[simp] theorem State.setUnit_plan (a : Nat) (u : UnitRec) : (s.setUnit a u).plan = s.plan := by
  simp only [State.setUnit]; split <;> rfl

@[simp] theorem State.unitReplied_plan (a : Nat) (good : Bool) : (s.unitReplied a good).plan = s.plan := by
  simp only [State.unitReplied]; split <;> simp

@[simp] theorem State.unitFailed_plan (a : Nat) (miss : Bool) : (s.unitFailed a miss).plan = s.plan := by
  simp only [State.unitFailed]; split <;> simp

@[simp] theorem State.unitReferred_plan (a : Nat) (role : Role) : (s.unitReferred a role).plan = s.plan := by
  simp only [State.unitReferred]; split <;> simp

@[simp] theorem State.unitReleased_plan (a : Nat) : (s.unitReleased a).plan = s.plan := s.setUnit_plan a _

@[simp] theorem State.pollChoose_plan : s.pollChoose.plan = s.plan := by
  simp only [State.pollChoose]; split <;> rfl

@[simp] theorem State.pollWake_plan : s.pollWake.plan = s.plan := by
  simp only [State.pollWake]; split <;> simp

@[simp] theorem State.pollDrop_plan (a : Nat) : (s.pollDrop a).plan = s.plan := by
  simp only [State.pollDrop]; split <;> simp

@[simp] theorem State.pollEnded_plan : s.pollEnded.plan = s.plan := by
  simp only [State.pollEnded]; split <;> simp

@[simp] theorem State.leaveWaiting_plan (o : Originator) : (s.leaveWaiting o).plan = s.plan := by
  cases o <;> rfl

@[simp] theorem State.arbitrate_plan : s.arbitrate.plan = s.plan := by
  simp only [State.arbitrate]
  split
  · split
    · exact s.leaveWaiting_plan _
    · rfl
  · rfl

@[simp] theorem State.frameSent_plan : s.frameSent.plan = s.plan := by
  simp only [State.frameSent]; split <;> rfl

/-! ## The probe (chapter 3) -/

@[simp] theorem State.endSweep_plan (r : Result) (fault : Bool) : (s.endSweep r fault).plan = s.plan := by
  simp only [State.endSweep]; split <;> simp

@[simp] theorem State.referenceComplete_plan (t : Nat) : (s.referenceComplete t).plan = s.plan := rfl

@[simp] theorem State.referenceTooSlow_plan : s.referenceTooSlow.plan = s.plan := s.endSweep_plan _ _

@[simp] theorem State.sampleComplete_plan (level : Nat) : (s.sampleComplete level).plan = s.plan := by
  simp only [State.sampleComplete]; split <;> simp

@[simp] theorem State.sampleTimeUp_plan (w : Window) : (s.sampleTimeUp w).plan = s.plan := sampleComplete_plan _ _

@[simp] theorem State.probePulse_plan (tick : Nat) : (s.probePulse tick).plan = s.plan := by
  simp only [State.probePulse]
  split
  · rfl
  · split
    · split
      · exact s.referenceTooSlow_plan
      · split <;> rfl
    · split
      · exact s.sampleTimeUp_plan _
      · split
        · exact sampleComplete_plan _ _
        · rfl

@[simp] theorem State.referenceTimeout_plan : s.referenceTimeout.plan = s.plan := by
  simp only [State.referenceTimeout]
  split
  · rfl
  · split
    · exact s.referenceTooSlow_plan
    · rfl

@[simp] theorem State.sampleWindowEnd_plan : s.sampleWindowEnd.plan = s.plan := by
  simp only [State.sampleWindowEnd]
  split
  · rfl
  · split
    · rfl
    · exact s.sampleTimeUp_plan _

@[simp] theorem State.settleExpiry_plan : s.settleExpiry.plan = s.plan := rfl

@[simp] theorem State.probeTuneEnded_plan (ok discarded : Bool) : (s.probeTuneEnded ok discarded).plan = s.plan := by
  simp only [State.probeTuneEnded]
  split
  · rfl
  · split
    · exact s.endSweep_plan _ _
    · split
      · rfl
      · split <;> rfl

@[simp] theorem State.holdEffect_plan : s.holdEffect.plan = s.plan := by
  simp only [State.holdEffect]; split <;> rfl

@[simp] theorem State.releaseEffect_plan : s.releaseEffect.plan = s.plan := by
  simp only [State.releaseEffect]; split <;> rfl

@[simp] theorem State.updateAutoHold_plan : s.updateAutoHold.plan = s.plan := by
  simp only [State.updateAutoHold]
  split
  · rfl
  · split
    · exact holdEffect_plan _
    · exact releaseEffect_plan _

/-! ## Tally (chapter 8) -/

@[simp] theorem State.recomputeWhere_plan (p : List (Nat × Nat) → Bool) : (s.recomputeWhere p).plan = s.plan :=
  State.foldl_plan _ (fun t l => t.recomputePending_plan l) _ s

@[simp] theorem State.writeSource_plan (line source : Nat) (t : Tally) : (s.writeSource line source t).plan = s.plan := by
  simp only [State.writeSource]; split <;> simp

@[simp] theorem State.clearTable_plan (line : Nat) : (s.clearTable line).plan = s.plan := by
  simp only [State.clearTable]; split <;> simp

@[simp] theorem State.setHead_plan (l : Nat) (h : Head) : (s.setHead l h).plan = s.plan := by
  simp only [State.setHead]; split <;> rfl

@[simp] theorem State.headChange_plan (l : Nat) : (s.headChange l).plan = s.plan := by
  simp only [State.headChange]; split <;> simp

@[simp] theorem State.headEnded_plan (l : Nat) (carried : Tally) (ok : Bool) : (s.headEnded l carried ok).plan = s.plan := by
  simp only [State.headEnded]
  split
  · exact s.setHead_plan l _
  · split <;> exact s.setHead_plan l _

@[simp] theorem State.tallyBind_plan (l : Nat) : (s.tallyBind l).plan = s.plan := by
  simp only [State.tallyBind]; split <;> simp

@[simp] theorem State.tallyUnbind_plan (l : Nat) : (s.tallyUnbind l).plan = s.plan := rfl

/-! ## Links (chapter 5) -/

@[simp] theorem State.linkCore_plan (l : Nat) (f : LinkRec → LinkRec) : (s.linkCore l f).plan = s.plan := by
  simp only [State.linkCore]
  split
  · rfl
  · exact ((State.talkLinkChange_studioOnly _ l).trans (State.lampStateChange_studioOnly _ l)).plan

@[simp] theorem State.startRescue_plan (l : Nat) : (s.startRescue l).plan = s.plan := by
  simp only [State.startRescue]; split <;> rfl

@[simp] theorem State.setBinding_plan (l : Nat) (f : Binding → Binding) : (s.setBinding l f).plan = s.plan := rfl

@[simp] theorem State.dropBinding_plan (l : Nat) : (s.dropBinding l).plan = s.plan := rfl

@[simp] theorem State.bindingCommit_plan (l entry code examined : Nat) (reason : Option Reason) :
    (s.bindingCommit l entry code examined reason).plan = s.plan := by
  simp only [State.bindingCommit]
  split
  · rfl
  · rw [State.offerLink_plan, (State.duckBind_studioOnly _ l).plan]
    simp

@[simp] theorem State.bindingTuned_plan (b : Binding) (ok : Bool) (cause : Cause) : (s.bindingTuned b ok cause).plan = s.plan := by
  simp only [State.bindingTuned]
  cases b.stage with
  | seeking => rfl
  | tuneFar => rfl
  | tuneLocal => simp

@[simp] theorem State.bindingFailed_plan (slot l : Nat) (r : Result) (examined : Nat) (reason : Option Reason) :
    (s.bindingFailed slot l r examined reason).plan = s.plan := by
  simp [State.bindingFailed]

@[simp] theorem State.dropUnmute_plan (l : Nat) : (s.dropUnmute l).plan = s.plan := rfl

@[simp] theorem State.linkTxEnded_plan (l : Nat) (ok : Bool) (cause : Cause) : (s.linkTxEnded l ok cause).plan = s.plan := by
  simp only [State.linkTxEnded]
  split
  · exact s.bindingTuned_plan _ _ _
  · split <;> rfl

@[simp] theorem State.unmuteNotice_plan (a : Nat) : (s.unmuteNotice a).plan = s.plan :=
  State.foldl_plan _ (fun t l => by split <;> rfl) _ s

@[simp] theorem State.headNotice_plan (a : Nat) : (s.headNotice a).plan = s.plan :=
  State.foldl_plan _ (fun t l => by split <;> simp) _ s

@[simp] theorem State.goodNotice_plan (a : Nat) : (s.goodNotice a).plan = s.plan := by
  simp only [State.goodNotice]; split <;> simp

/-! ## Moves (chapter 6) -/

@[simp] theorem State.setRescue_plan (l : Nat) (t : RescueTimer) : (s.setRescue l t).plan = s.plan := rfl

@[simp] theorem State.setRetuned_plan (l : Nat) : (s.setRetuned l).plan = s.plan := by
  simp only [State.setRetuned]; split <;> rfl

@[simp] theorem State.enterTuneFar_plan (c : Nat) : (s.enterTuneFar c).plan = s.plan := by
  simp only [State.enterTuneFar]; split <;> simp

@[simp] theorem State.enterTuneLocal_plan (c : Nat) : (s.enterTuneLocal c).plan = s.plan := rfl
@[simp] theorem State.enterConfirm_plan (c : Nat) (p : Phase) : (s.enterConfirm c p).plan = s.plan := rfl
@[simp] theorem State.enterRevertFar_plan (c : Nat) (cause : Cause) : (s.enterRevertFar c cause).plan = s.plan := rfl
@[simp] theorem State.enterRevertLocal_plan (c : Nat) : (s.enterRevertLocal c).plan = s.plan := rfl
@[simp] theorem State.enterUnmuting_plan (c : Nat) (o : Outcome) : (s.enterUnmuting c o).plan = s.plan := rfl
@[simp] theorem State.queryAgain_plan (c : Nat) : (s.queryAgain c).plan = s.plan := rfl

@[simp] theorem State.requestAbort_plan (c : Nat) : (s.requestAbort c).plan = s.plan := by
  simp only [State.requestAbort]; split <;> rfl

@[simp] theorem State.leaveHeld_plan (c : Nat) : (s.leaveHeld c).plan = s.plan := by
  by_cases h : (s.link (s.ctx c).link).kind = .camera <;> simp [State.leaveHeld, h]

@[simp] theorem State.heldTest_plan (c : Nat) : (s.heldTest c).plan = s.plan := by
  simp only [State.heldTest]; split <;> simp

@[simp] theorem State.heldTestLink_plan (l : Nat) : (s.heldTestLink l).plan = s.plan := by
  simp only [State.heldTestLink]; split <;> simp

@[simp] theorem State.linkChange_plan (l : Nat) (f : LinkRec → LinkRec) : (s.linkChange l f).plan = s.plan := by
  simp only [State.linkChange]; split <;> simp

@[simp] theorem State.moveTally_plan (l : Nat) : (s.moveTally l).plan = s.plan := by
  have hretuned (c : Prop) [Decidable c] : (if c then s.setRetuned l else s).plan = s.plan := by split <;> simp
  simp only [State.moveTally]
  split
  · rfl
  · split
    case h_1 => exact s.heldTest_plan _
    case h_2 | h_3 | h_4 => exact hretuned _
    all_goals rfl

@[simp] theorem State.moveCommit_plan (c entry code examined : Nat) (reason : Option Reason) :
    (s.moveCommit c entry code examined reason).plan = s.plan := by
  simp [State.moveCommit]

/-! ## Frame events (chapter 8) -/

@[simp] theorem State.handTally_plan (l : Nat) (old : Tally) : (s.handTally l old).plan = s.plan := by
  have hlamps : (s.lampLevelChange l).plan = s.plan := (s.lampLevelChange_studioOnly l).plan
  simp only [State.handTally]
  split <;> split <;> simp [hlamps]

@[simp] theorem State.frameEvent_plan : s.frameEvent.plan = s.plan := by
  have hfold (t : State) (ht : t.plan = s.plan) :
      ((s.tallyChanges).foldl (fun t l => t.handTally l (s.link l).applied) (s.tallyChanges.foldl State.applyTally t)).plan = s.plan := by
    rw [State.foldl_plan _ (fun u l => u.handTally_plan l _), State.foldl_plan State.applyTally (fun _ _ => rfl), ht]
  simp only [State.frameEvent]
  split
  · exact hfold _ rfl
  · exact hfold _ rfl

@[simp] theorem State.referencePulse_plan : s.referencePulse.plan = s.plan := by
  simp only [State.referencePulse]; split <;> simp

@[simp] theorem State.refLost_plan : s.refLost.plan = s.plan := by simp [State.refLost]

@[simp] theorem State.syntheticFrame_plan : s.syntheticFrame.plan = s.plan := by simp [State.syntheticFrame]

/-! ## The links' timers and notices (chapter 5) -/

@[simp] theorem State.weakExpiry_plan (l : Nat) : (s.weakExpiry l).plan = s.plan := by
  simp only [State.weakExpiry]; split <;> simp

@[simp] theorem State.lossExpiry_plan (l : Nat) : (s.lossExpiry l).plan = s.plan := s.linkChange_plan l _

@[simp] theorem State.judgeReport_plan (l : Nat) (p : Report) : (s.judgeReport l p).plan = s.plan := by
  simp only [State.judgeReport]; split <;> simp

@[simp] theorem State.stateNotice_plan (a : Nat) : (s.stateNotice a).plan = s.plan :=
  State.foldl_plan _ (fun t l => by
    split
    case h_7 => rfl
    all_goals exact t.linkChange_plan l _) _ s

/-- A unit's update that leaves the plan leaves it with the notice of a change. -/
theorem State.withNotice_plan (a : Nat) (f : State → State) (hf : (f s).plan = s.plan) : (s.withNotice a f).plan = s.plan := by
  simp only [State.withNotice]; split <;> simp [hf]

/-! ## The receive lines (chapter 7) -/

@[simp] theorem State.goodFrame_plan (n : Nat) : (s.goodFrame n).plan = s.plan := by
  simp only [State.goodFrame]; split <;> rfl

@[simp] theorem State.handFrame_plan (n : Nat) (b1 b2 : Byte) : (s.handFrame n b1 b2).plan = s.plan := by
  simp only [State.handFrame]
  split
  · split
    · exact (s.keyEvent_studioOnly _ _ _).plan
    · rfl
  · split
    · rfl
    · exact s.writeSource_plan _ _ _

@[simp] theorem State.judgeFrame_plan (n : Nat) (b1 b2 check : Byte) : (s.judgeFrame n b1 b2 check).plan = s.plan := by
  simp only [State.judgeFrame]; split <;> simp

@[simp] theorem State.goodByte_plan (n : Nat) (b : Byte) : (s.goodByte n b).plan = s.plan := by
  simp only [State.goodByte]
  split
  · split <;> rfl
  · exact judgeFrame_plan _ _ _ _ _
  · rfl

@[simp] theorem State.lineByte_plan (n : Nat) (b : Byte) : (s.lineByte n b).plan = s.plan := by
  simp only [State.lineByte]; split <;> simp

@[simp] theorem State.lineBytes_plan (n : Nat) (bs : List Byte) : (s.lineBytes n bs).plan = s.plan :=
  State.foldl_plan _ (fun t b => t.lineByte_plan n b) bs s

@[simp] theorem State.frameBytes_plan (n : Nat) (b1 b2 check : Byte) : (s.frameBytes n b1 b2 check).plan = s.plan := by
  simp only [State.frameBytes]; split <;> simp

@[simp] theorem State.character_plan (n : Nat) (c : RxChar) : (s.character n c).plan = s.plan := by
  simp only [State.character]
  split
  · rfl
  · split
    · rfl
    · exact s.goodByte_plan n _

@[simp] theorem State.lineSamples_plan (n : Nat) (vs : List Bool) : (s.lineSamples n vs).plan = s.plan := by
  simp only [State.lineSamples]
  split
  · exact State.foldl_plan _ (fun t c => t.character_plan n c) _ _
  · rfl

@[simp] theorem State.lineStale_plan (n : Nat) : (s.lineStale n).plan = s.plan := by
  simp only [State.lineStale]
  split
  · exact (State.releaseNotice_studioOnly _).plan
  · rfl

@[simp] theorem State.lineCleared_plan (n : Nat) : (s.lineCleared n).plan = s.plan := by simp [State.lineCleared]

@[simp] theorem State.lineDisabled_plan (n : Nat) : (s.lineDisabled n).plan = s.plan := by
  simp only [State.lineDisabled]
  split
  · exact s.releaseNotice_studioOnly.plan
  · exact s.clearTable_plan n

/-! ## Host accesses and the intake (chapter 12) -/

@[simp] theorem State.hostRead_plan (a : Nat) : (s.hostRead a).plan = s.plan := by
  simp only [State.hostRead]; split <;> rfl

@[simp] theorem State.writeSlotState_plan (n : Nat) (v : Word) : (s.writeSlotState n v).plan = s.plan := by
  simp only [State.writeSlotState]
  split
  · split <;> rfl
  · split <;> rfl
  · rfl
  · split <;> rfl

@[simp] theorem State.hostWrite_plan (a : Nat) (v : Word) : (s.hostWrite a v).plan = s.plan := by
  simp only [State.hostWrite, State.checkedWrite]
  split
  · split
    · split
      · exact s.writeSlotState_plan _ v
      · split <;> rfl
    · rfl
  · rfl

@[simp] theorem State.attend_plan (v : Nat) : (s.attend v).plan = s.plan := by
  simp only [State.attend]; split <;> rfl

end Plan

end Sys2Proof.Machine
end

section
/-! SUPPORT. The requests that leave the plan (chapters 3 to 11). -/

namespace Sys2Proof.Machine

section Requests

variable (s : State) (n : Nat)

@[simp] theorem State.nameProbeUnit_plan (a : Nat) : (s.nameProbeUnit a).plan = s.plan := by
  simp only [State.nameProbeUnit]
  split
  · rfl
  · rw [State.setProbe_plan]
    split <;> split <;> simp

@[simp] theorem State.doSetProbe_plan : (s.doSetProbe n).plan = s.plan := by
  simp only [State.doSetProbe]
  split
  · simp
  · split
    · simp
    · split
      · simp
      · split <;> simp

@[simp] theorem State.doScan_plan : (s.doScan n).plan = s.plan := by
  simp only [State.doScan]
  split
  · simp
  · split
    · simp
    · split
      · simp
      · split <;> simp

@[simp] theorem State.doHoldScan_plan : (s.doHoldScan n).plan = s.plan := by
  have hhold : s.setHostHold.plan = s.plan := by
    simp only [State.setHostHold]; split <;> simp
  simp only [State.doHoldScan]
  split <;> simp [hhold]

@[simp] theorem State.doResumeScan_plan : (s.doResumeScan n).plan = s.plan := by
  have hrelease : s.clearHostHold.plan = s.plan := by
    simp only [State.clearHostHold]; split <;> simp
  simp only [State.doResumeScan]
  split <;> simp [hrelease]

@[simp] theorem State.doClearProbeFault_plan : (s.doClearProbeFault n).plan = s.plan := by
  rw [State.doClearProbeFault, State.complete_plan]
  split <;> rfl

@[simp] theorem State.doClearMap_plan : (s.doClearMap n).plan = s.plan := by
  have hmaps : s.clearMaps.plan = s.plan := by
    simp only [State.clearMaps]; split <;> rfl
  simp only [State.doClearMap]
  split <;> simp [hmaps]

@[simp] theorem State.writeOptions_plan (l : Nat) (o : Options) : (s.writeOptions l o).plan = s.plan := by
  simp only [State.writeOptions]
  split
  · rfl
  · split
    · rfl
    · split <;> simp

@[simp] theorem State.writeGap_plan (gap : Option Nat) : (s.writeGap gap).plan = s.plan := by
  cases gap <;> rfl

@[simp] theorem State.doSetLinkOptions_plan : (s.doSetLinkOptions n).plan = s.plan := by
  simp only [State.doSetLinkOptions]
  split
  · simp
  · split
    · simp
    · split
      · simp
      · split
        · simp
        · split
          · simp
          · split <;> simp

@[simp] theorem State.doGoMove_plan : (s.doGoMove n).plan = s.plan := by
  have hgo (c : Nat) : (s.goReceived c).plan = s.plan := by
    rw [State.goReceived, State.heldTest_plan]
    split <;> rfl
  simp only [State.doGoMove]
  split
  · simp
  · split
    · simp
    · split <;> simp [hgo]

@[simp] theorem State.doSetLine_plan : (s.doSetLine n).plan = s.plan := by
  have hline (l : Nat) (f : LineFields) : (s.configureLine l f).plan = s.plan := by
    simp only [State.configureLine]
    split <;> split <;> simp
  simp only [State.doSetLine]
  split <;> simp [hline]

@[simp] theorem State.writeSources_plan (l : Nat) (sources : List (Nat × Nat)) : (s.writeSources l sources).plan = s.plan := by
  rw [State.writeSources, State.recomputePending_plan]
  split <;> rfl

@[simp] theorem State.doSetTallySources_plan : (s.doSetTallySources n).plan = s.plan := by
  simp only [State.doSetTallySources]
  split
  · simp
  · split
    · simp
    · split <;> simp

@[simp] theorem State.doSetTallyOverride_plan : (s.doSetTallyOverride n).plan = s.plan := by
  simp only [State.doSetTallyOverride]
  split
  · simp
  · split
    · simp
    · split <;> simp

@[simp] theorem State.doSetLamp_plan : (s.doSetLamp n).plan = s.plan := by
  simp only [State.doSetLamp]
  split
  · simp
  · split <;> simp

@[simp] theorem State.doLampTest_plan : (s.doLampTest n).plan = s.plan := by
  have hon (ms : Nat) : (s.testOn ms).plan = s.plan := by
    simp only [State.testOn]
    split
    · rfl
    · exact s.startTest_studioOnly.plan
  have hstop : s.testStop.plan = s.plan := by
    simp only [State.testStop]
    split
    · exact s.endTest_studioOnly.plan
    · rfl
  simp only [State.doLampTest]
  split
  · simp
  · split <;> simp [hon, hstop]

@[simp] theorem State.doSetStation_plan : (s.doSetStation n).plan = s.plan := by
  have hstation (stations : Vector Nat 16) (window : Nat) : (s.writeStation stations window).plan = s.plan := by
    simp only [State.writeStation]
    split
    · rfl
    · exact (State.talkRewrites_studioOnly _ 1).plan
  simp only [State.doSetStation]
  split <;> simp [hstation]

@[simp] theorem State.doSetKey_plan : (s.doSetKey n).plan = s.plan := by
  have hkey (p : Nat) (mode : KeyMode) (target atten hang : Nat) : (s.writeKey p mode target atten hang).plan = s.plan := by
    simp only [State.writeKey]
    split
    · rfl
    · exact (State.talkRewrites_studioOnly _ 1).plan
  simp only [State.doSetKey]
  split
  · simp
  · split
    · simp
    · split <;> simp [hkey]

@[simp] theorem State.doTalkKey_plan : (s.doTalkKey n).plan = s.plan := by
  simp only [State.doTalkKey]
  split
  · simp
  · split
    · simp
    · simp [(s.keyEvent_studioOnly _ _ _).plan]

@[simp] theorem State.doCancelTalk_plan : (s.doCancelTalk n).plan = s.plan := by
  simp only [State.doCancelTalk]
  split <;> simp [(s.deactivateAll_studioOnly _).plan]

@[simp] theorem State.doSetDest_plan : (s.doSetDest n).plan = s.plan := by
  simp only [State.doSetDest]
  split
  · simp
  · split
    · simp
    · split
      · simp
      · simp [(s.writeSettings_studioOnly _ _ _ _ _).plan]

end Requests

end Sys2Proof.Machine
end

section
/-! SUPPORT on the conflict marks: the invariant, and the operations that keep it (R12, R26, R27). -/

namespace Sys2Proof.Machine

/-! ## What the invariant asks of each work of the engine -/

/-- Each in-use entry's mark is set exactly when it takes part in a violation (R26). -/
def Plan.MarksRight (p : Plan) : Prop :=
  ∀ n < 48, (look p.entries n).status ≠ .free →
    ((look p.entries n).mark = true ↔ ∃ i ∈ instances p.rules p.exclusions.toList (signalsOf p.entries), n ∈ i.members)

/-- The snapshot holds the carriers, exclusions and rules of the plan as it stands. -/
def PlanSnapshot.Present (x : PlanSnapshot) (p : Plan) : Prop :=
  signalsOf x.entries = signalsOf p.entries ∧ x.exclusions = p.exclusions ∧ x.rules = p.rules

/-- The plan on which a work recomputes the marks; none for a work that does not. -/
def Work.recompute : Work → Option PlanSnapshot
  | .idle => none
  | .refresh x => some x
  | .job r => match r.stage with
    | .testing => none
    | .closing _ x => some x
    | .auditing x => some x

/-- What R26 asks of the plan beside a recompute on a snapshot, or beside none. -/
def Plan.RightBeside (p : Plan) : Option PlanSnapshot → Prop
  | none => p.MarksRight
  | some x => x.Present p

theorem Plan.marksOk_iff (p : Plan) : p.marksOk ↔ (p.refreshPending = false → p.RightBeside p.work.recompute) := by
  simp only [Plan.marksOk]
  cases p.work with
  | idle => rfl
  | refresh x => rfl
  | job r =>
    simp only [Work.recompute]
    cases r.stage <;> rfl

theorem Plan.marksOk_of_pending {p : Plan} (h : p.refreshPending = true) : p.marksOk := by
  rw [Plan.marksOk_iff, h]
  exact nofun

/-! ## Entries as carriers -/

/-- A table read at a place after the record at one place was adjusted. -/
theorem look_adjust {α : Type} {m : Nat} [Inhabited α] (v : Vector α m) (i n : Nat) (f : α → α) (h : n < m) :
    look (adjust v i f) n = if i = n then f (look v n) else look v n := by
  split
  · next heq => rw [heq, look_adjust_same v n f h]
  · next hne => rw [look_adjust_ne v i n f hne]

/-- Two records of entry n are the same carrier: both FREE or not, and the same signal. -/
def PlanEntry.SameCarrier (n : Nat) (x y : PlanEntry) : Prop := x.status = y.status ∧ x.signal n = y.signal n

/-- Two tables that hold the same carriers hold the same signals. -/
theorem signalsOf_congr {v w : Vector PlanEntry 48} (h : ∀ n < 48, PlanEntry.SameCarrier n (look w n) (look v n)) :
    signalsOf w = signalsOf v :=
  List.filterMap_congr fun n hn => by
    obtain ⟨hstatus, hsignal⟩ := h n (List.mem_range.mp hn)
    rw [PlanEntry.inUse, PlanEntry.inUse, hstatus, hsignal]

/-- A refresh leaves what an entry is as a carrier (R26). -/
theorem PlanEntry.refreshed_sameCarrier (is : List Inst) (fresh : Option Nat) (n : Nat) (e : PlanEntry) :
    PlanEntry.SameCarrier n (PlanEntry.refreshed is fresh n e) e := by
  unfold PlanEntry.refreshed
  split <;> exact ⟨rfl, rfl⟩

/-- A refresh sets an in-use entry's mark by the instances it takes part in (R26). -/
theorem PlanEntry.refreshed_mark (is : List Inst) (fresh : Option Nat) (n : Nat) (e : PlanEntry) (h : e.inUse = true) :
    (PlanEntry.refreshed is fresh n e).mark = true ↔ ∃ i ∈ is, n ∈ i.members := by
  have hmark : (PlanEntry.refreshed is fresh n e).mark = (e.withMarks (instancesOf is n)).mark := by
    rw [PlanEntry.refreshed_of_inUse is fresh n e h]
  rw [hmark]
  simp [PlanEntry.withMarks, instancesOf]

theorem look_refreshEntries (x : PlanSnapshot) (fresh : Option Nat) (v : Vector PlanEntry 48) {n : Nat} (hn : n < 48) :
    look (refreshEntries x fresh v) n = PlanEntry.refreshed x.instances fresh n (look v n) := look_mapTable _ _ _ hn

/-- A refresh that ran on the plan as it stands sets the marks right (R26). -/
theorem Plan.marksRight_refreshed {p : Plan} {x : PlanSnapshot} (fresh : Option Nat) (h : x.Present p) :
    Plan.MarksRight { p with entries := refreshEntries x fresh p.entries } := by
  obtain ⟨hsignals, hexclusions, hrules⟩ := h
  have hsame : signalsOf (refreshEntries x fresh p.entries) = signalsOf p.entries := signalsOf_congr fun n hn => by
    rw [look_refreshEntries x fresh p.entries hn]
    exact PlanEntry.refreshed_sameCarrier _ _ _ _
  intro n hn
  simp only [look_refreshEntries x fresh p.entries hn, (PlanEntry.refreshed_sameCarrier _ _ _ _).1, hsame, ← hsignals, ← hexclusions, ← hrules]
  exact fun hstatus => PlanEntry.refreshed_mark _ _ _ _ (by simpa [PlanEntry.inUse] using hstatus)

/-- A change of entries that keeps every carrier and every mark keeps the plan right beside its work. -/
theorem Plan.RightBeside.withEntries {p : Plan} {w : Option PlanSnapshot} {v : Vector PlanEntry 48} (h : p.RightBeside w)
    (hv : ∀ n < 48, PlanEntry.SameCarrier n (look v n) (look p.entries n) ∧ (look v n).mark = (look p.entries n).mark) :
    Plan.RightBeside { p with entries := v } w := by
  have hsame : signalsOf v = signalsOf p.entries := signalsOf_congr fun n hn => (hv n hn).1
  cases w with
  | none =>
    intro n hn
    obtain ⟨⟨hstatus, -⟩, hmark⟩ := hv n hn
    simp only [hstatus, hmark, hsame]
    exact h n hn
  | some x =>
    obtain ⟨hsignals, hrest⟩ := h
    exact ⟨hsignals.trans hsame.symm, hrest⟩

/-! ## Operations on the plan -/

/-- The plan that a state holds meets the invariant. -/
structure State.MarksOk (s : State) : Prop where
  plan : s.plan.marksOk

section Marks

variable {s : State}

/-- What leaves the plan keeps the marks right. -/
theorem State.MarksOk.of_plan {t : State} (hs : s.MarksOk) (h : t.plan = s.plan) : t.MarksOk := ⟨h ▸ hs.plan⟩

/-- A request's completion keeps the marks right (R186). -/
theorem State.MarksOk.complete {n : Nat} {r : Result} {ws : List (Nat × Word)} (hs : s.MarksOk) : (s.complete n r ws).MarksOk :=
  hs.of_plan (s.complete_plan n r ws)

/-- Folding operations that keep the marks right keeps them right. -/
theorem State.foldl_marksOk {α : Type} {f : State → α → State} (hf : ∀ s a, s.MarksOk → (f s a).MarksOk) (l : List α)
    (hs : s.MarksOk) : (l.foldl f s).MarksOk :=
  List.foldlRecOn l f (motive := State.MarksOk) hs fun t ht a _ => hf t a ht

theorem State.forPlaces_marksOk {f : Nat → State → State} (hf : ∀ i s, s.MarksOk → (f i s).MarksOk) (m : Nat)
    (hs : s.MarksOk) : (forPlaces m f s).MarksOk := State.foldl_marksOk (fun t i => hf i t) _ hs

/-- One of two changes that both keep the marks right. -/
theorem State.ite_marksOk {c : Prop} [Decidable c] {t u : State} (ht : t.MarksOk) (hu : u.MarksOk) :
    (if c then t else u).MarksOk := by
  split <;> assumption

/-- The waiting list has no part in the marks. -/
theorem State.pushJob_marksOk (j : Job) (hs : s.MarksOk) : (s.pushJob j).MarksOk := ⟨hs.plan⟩

theorem State.withdrawJob_marksOk (src : JobSource) (hs : s.MarksOk) : (s.withdrawJob src).MarksOk := ⟨hs.plan⟩

/-- The removal path leaves a refresh pending (R17). -/
theorem State.freeEntry_marksOk (s : State) (n : Nat) : (s.freeEntry n).MarksOk := ⟨Plan.marksOk_of_pending rfl⟩

/-- So does the adoption of a target, which frees the origin (R15). -/
theorem State.adopt_marksOk (s : State) (origin target : Nat) : (s.adopt origin target).MarksOk := State.freeEntry_marksOk _ _

/-- A job marked aborted keeps its stage (R30). -/
theorem State.abortRunning_marksOk (hs : s.MarksOk) : s.abortRunning.MarksOk := by
  have hwork : s.abortRunning.plan.work.recompute = s.plan.work.recompute := by
    unfold State.abortRunning
    cases s.plan.work <;> rfl
  refine ⟨?_⟩
  rw [Plan.marksOk_iff, hwork]
  exact (Plan.marksOk_iff _).mp hs.plan

/-- A lock flag is no part of a carrier (R13). -/
theorem State.writeLock_marksOk (e : Nat) (lock : Bool) (hs : s.MarksOk) : (s.writeLock e lock).MarksOk := by
  refine State.ite_marksOk hs ⟨(Plan.marksOk_iff _).mpr fun hpending => ?_⟩
  refine ((Plan.marksOk_iff _).mp hs.plan hpending).withEntries fun n hn => ?_
  show PlanEntry.SameCarrier n (look (adjust s.plan.entries e _) n) _ ∧ (look (adjust s.plan.entries e _) n).mark = _
  rw [look_adjust _ _ _ _ hn]
  split <;> exact ⟨⟨rfl, rfl⟩, rfl⟩

/-- New rules leave a refresh pending (R9). -/
theorem State.writeRules_marksOk (r : Rules) (hs : s.MarksOk) : (s.writeRules r).MarksOk :=
  State.ite_marksOk hs (⟨Plan.marksOk_of_pending rfl⟩)

/-- A new exclusion leaves a refresh pending (R8). -/
theorem State.writeExclusion_marksOk (k : Nat) (present : Bool) (lo hi : Nat) (hs : s.MarksOk) :
    (s.writeExclusion k present lo hi).MarksOk :=
  State.ite_marksOk hs (⟨Plan.marksOk_of_pending rfl⟩)

/-! ## Moves and rescues -/

theorem State.openCtx_marksOk (c : Nat) (m : MoveReq) (hs : s.MarksOk) : (s.openCtx c m).MarksOk := ⟨hs.plan⟩

theorem State.attemptRescue_marksOk (l : Nat) (hs : s.MarksOk) : (s.attemptRescue l).MarksOk := by
  refine State.ite_marksOk (hs.of_plan rfl) (State.ite_marksOk (hs.of_plan rfl) (State.ite_marksOk (hs.of_plan rfl) ?_))
  split
  · exact hs.of_plan rfl
  · exact State.openCtx_marksOk _ _ (hs.of_plan rfl)

theorem State.serveRescues_marksOk (hs : s.MarksOk) : s.serveRescues.MarksOk := by
  unfold State.serveRescues
  exact State.forPlaces_marksOk (fun l t ht => State.ite_marksOk (State.attemptRescue_marksOk l ht) ht) 32 hs

theorem State.offerFreed_marksOk (hs : s.MarksOk) : s.offerFreed.MarksOk := by
  unfold State.offerFreed
  exact State.ite_marksOk hs (State.serveRescues_marksOk hs)

theorem State.endEntries_marksOk (x : Ctx) (o : Outcome) (hs : s.MarksOk) : (s.endEntries x o).MarksOk := by
  unfold State.endEntries
  split
  case h_1 => exact s.adopt_marksOk _ _
  case h_4 | h_5 | h_6 | h_7 | h_8 | h_9 | h_10 | h_11 => exact s.freeEntry_marksOk _
  all_goals exact hs

/-- The end of a move frees or adopts its target, and may open contexts for rescues (R89, R109). -/
theorem State.endMove_marksOk (c : Nat) (o : Outcome) (cause : Cause) (hs : s.MarksOk) : (s.endMove c o cause).MarksOk := by
  have hentries := State.endEntries_marksOk (s.ctx c) o hs
  have hrescue {t : State} (ht : t.plan = (s.endEntries (s.ctx c) o).plan) : (t.startRescue (s.ctx c).link).offerFreed.MarksOk :=
    State.offerFreed_marksOk (hentries.of_plan (by simp [ht]))
  simp only [State.endMove]
  cases (s.ctx c).slot with
  | none => exact hrescue (by simp)
  | some n => exact hrescue (by simp)

theorem State.moveFailed_marksOk (c : Nat) (o : Outcome) (examined : Nat) (reason : Option Reason) (hs : s.MarksOk) :
    (s.moveFailed c o examined reason).MarksOk := State.endMove_marksOk c o .none (hs.of_plan rfl)

theorem State.confirmed_marksOk (c : Nat) (o : Outcome) (hs : s.MarksOk) : (s.confirmed c o).MarksOk :=
  State.ite_marksOk (State.endMove_marksOk c o _ hs) (hs.of_plan rfl)

theorem State.goAdrift_marksOk (c : Nat) (cause : Cause) (hs : s.MarksOk) : (s.goAdrift c cause).MarksOk :=
  State.endMove_marksOk c .adrift _ (State.ite_marksOk hs (hs.of_plan rfl))

theorem State.ctxTxEnded_marksOk (c : Nat) (cmd : BusCmd) (ok : Bool) (cause : Cause) (hs : s.MarksOk) :
    (s.ctxTxEnded c cmd ok cause).MarksOk := by
  have hfar : (s.enterTuneFar c).MarksOk := hs.of_plan (s.enterTuneFar_plan c)
  have hend (o : Outcome) (cause : Cause) := State.endMove_marksOk c o cause hs
  have hadrift := State.goAdrift_marksOk c cause hs
  simp only [State.ctxTxEnded]
  cases (s.ctx c).phase with
  | free | seeking | held => exact hs
  | confirm | revertConfirm => exact hs.of_plan rfl
  | muting => exact State.ite_marksOk (State.ite_marksOk (hs.of_plan rfl) hfar) (State.ite_marksOk (hend _ _) (hend _ _))
  | tuneFar | tuneLocal => exact State.ite_marksOk (hs.of_plan rfl) (hs.of_plan rfl)
  | revertFar => exact State.ite_marksOk hs (State.ite_marksOk (hs.of_plan rfl) hadrift)
  | revertLocal => exact State.ite_marksOk (hs.of_plan rfl) hadrift
  | unmuting => exact State.ite_marksOk hs (State.ite_marksOk (hend _ _) (State.endMove_marksOk c _ _ (hs.of_plan rfl)))

theorem State.ctxReport_marksOk (c : Nat) (p : Report) (hs : s.MarksOk) : (s.ctxReport c p).MarksOk := by
  simp only [State.ctxReport]
  cases (s.ctx c).phase with
  | confirm | revertConfirm => exact State.ite_marksOk (State.confirmed_marksOk c _ hs) hs
  | free | seeking | held | muting | tuneFar | tuneLocal | revertFar | revertLocal | unmuting => exact hs

theorem State.confirmExpiry_marksOk (c : Nat) (hs : s.MarksOk) : (s.confirmExpiry c).MarksOk := by
  unfold State.confirmExpiry
  cases (s.ctx c).phase with
  | revertConfirm => exact State.goAdrift_marksOk c .none hs
  | confirm => exact hs.of_plan rfl
  | free | seeking | held | muting | tuneFar | tuneLocal | revertFar | revertLocal | unmuting => exact hs

theorem State.abortMove_marksOk (c : Nat) (hs : s.MarksOk) : (s.abortMove c).2.MarksOk := by
  have hrequest {t : State} (ht : t.MarksOk) : (t.requestAbort c).MarksOk := ht.of_plan (t.requestAbort_plan c)
  unfold State.abortMove
  cases (s.ctx c).phase with
  | free | revertFar | revertLocal | revertConfirm | unmuting => exact hs
  | confirm => exact hs.of_plan rfl
  | seeking =>
    dsimp only
    split
    · exact State.moveFailed_marksOk c .aborted 0 none (State.withdrawJob_marksOk _ hs)
    · exact hrequest (State.abortRunning_marksOk hs)
  | held => exact State.endMove_marksOk c .aborted .none hs
  | muting | tuneFar | tuneLocal => exact hrequest hs

/-! ## Links, and the ends of transactions -/

theorem State.settleOrigin_marksOk (l : Nat) (hs : s.MarksOk) : (s.settleOrigin l).MarksOk := by
  unfold State.settleOrigin
  split
  · exact hs
  · exact s.freeEntry_marksOk _

theorem State.settleTarget_marksOk (l : Nat) (hs : s.MarksOk) : (s.settleTarget l).MarksOk := by
  unfold State.settleTarget
  split
  · exact hs
  · exact s.adopt_marksOk _ _

theorem State.adriftReport_marksOk (l : Nat) (p : Report) (hs : s.MarksOk) : (s.adriftReport l p).MarksOk :=
  State.ite_marksOk ((State.settleOrigin_marksOk l hs).of_plan (by simp))
    (State.ite_marksOk ((State.settleTarget_marksOk l hs).of_plan (by simp)) (hs.of_plan rfl))

theorem State.evaluate_marksOk (l : Nat) (p : Report) (hs : s.MarksOk) : (s.evaluate l p).MarksOk := by
  unfold State.evaluate
  cases (s.link l).state with
  | vacant => exact hs
  | moving => exact hs.of_plan rfl
  | adrift => exact State.adriftReport_marksOk l p hs
  | bound | live | weak | lost | unitMissing | mistuned => exact hs.of_plan (s.judgeReport_plan l p)

theorem State.deliverStatus_marksOk (a : Nat) (payload : List Byte) (hs : s.MarksOk) : (s.deliverStatus a payload).MarksOk := by
  unfold State.deliverStatus
  exact State.forPlaces_marksOk (fun c t ht => State.ite_marksOk (State.ctxReport_marksOk c _ ht) ht) 4
    (State.foldl_marksOk (fun _ l ht => State.evaluate_marksOk l _ ht) _ hs)

theorem State.handResult_marksOk (tx : Tx) (ok : Bool) (cause : Cause) (hs : s.MarksOk) : (s.handResult tx ok cause).MarksOk := by
  refine State.ite_marksOk hs ?_
  cases tx.orig with
  | head l => exact hs.of_plan (s.headEnded_plan l _ ok)
  | ctx c => exact State.ctxTxEnded_marksOk c _ ok cause hs
  | link l => exact hs.of_plan (s.linkTxEnded_plan l ok cause)
  | probe => exact hs.of_plan (s.probeTuneEnded_plan ok _)
  | poller => exact hs.of_plan s.pollEnded_plan

theorem State.transactionGood_marksOk (tx : Tx) (k : ReplyKind) (payload : List Byte) (hs : s.MarksOk) :
    (s.transactionGood tx k payload).MarksOk := by
  have hreplied : (s.busFreed.withNotice tx.unit fun t => t.unitReplied tx.unit true).MarksOk :=
    hs.of_plan (State.withNotice_plan _ _ _ (by simp))
  have hhanded := State.handResult_marksOk tx true .none hreplied
  unfold State.transactionGood
  refine State.MarksOk.of_plan ?_ (State.goodNotice_plan _ _)
  cases k with
  | status => exact State.deliverStatus_marksOk tx.unit payload hhanded
  | ack | nak => exact hhanded

theorem State.attemptFailed_marksOk (tx : Tx) (cause : Cause) (hs : s.MarksOk) : (s.attemptFailed tx cause).MarksOk := by
  have hrefused : (if cause = .refused then s.withNotice tx.unit fun t => t.unitReplied tx.unit false else s).MarksOk :=
    State.ite_marksOk (hs.of_plan (State.withNotice_plan _ _ _ (by simp))) hs
  exact State.ite_marksOk (hrefused.of_plan rfl)
    (State.handResult_marksOk tx false cause (hrefused.of_plan (State.withNotice_plan _ _ _ (by simp))))

theorem State.busByte_marksOk (b : Byte) (framing : Bool) (hs : s.MarksOk) : (s.busByte b framing).MarksOk := by
  unfold State.busByte
  split
  · refine State.ite_marksOk (hs.of_plan rfl) ?_
    split
    · exact hs.of_plan rfl
    · exact hs.of_plan rfl
    · exact State.attemptFailed_marksOk _ .refused hs
    · exact State.transactionGood_marksOk _ .status _ hs
    · exact State.transactionGood_marksOk _ .ack _ hs
  · exact hs

theorem State.windowEnd_marksOk (hs : s.MarksOk) : s.windowEnd.MarksOk := by
  unfold State.windowEnd
  split
  · exact State.attemptFailed_marksOk _ _ hs
  · exact State.attemptFailed_marksOk _ _ hs
  · exact hs

end Marks

end Sys2Proof.Machine
end

section
/-! SUPPORT on the conflict marks, continued: the plan engine's steps and the requests (R12, R26 to R30). -/

namespace Sys2Proof.Machine

section Engine

variable {s : State}

/-! ## The engine's own steps (R26 to R30) -/

/-- The engine's work may change as long as what it recomputes on stays. -/
theorem State.setWork_marksOk {w : Work} (hw : w.recompute = s.plan.work.recompute) (hs : s.MarksOk) : (s.setWork w).MarksOk := by
  refine ⟨?_⟩
  rw [Plan.marksOk_iff, State.setWork_work, hw]
  exact (Plan.marksOk_iff _).mp hs.plan

theorem State.jobFailed_marksOk (j : Job) (f : JobFailure) (examined : Nat) (reason : Option Reason) (hs : s.MarksOk) :
    (s.jobFailed j f examined reason).MarksOk := by
  unfold State.jobFailed
  cases j.source with
  | place n | setCarrier n _ | audit n => exact hs.complete
  | bind n l => exact hs.of_plan (by simp)
  | move c => exact State.moveFailed_marksOk c _ examined reason hs

/-- A recompute that begins on the plan as it stands. -/
theorem State.begun_marksOk {w : Work} (h : w.recompute = some s.plan.snapshot) :
    State.MarksOk { s with plan := { s.plan with refreshPending := false, work := w } } := by
  refine ⟨(Plan.marksOk_iff _).mpr fun _ => ?_⟩
  show Plan.RightBeside _ w.recompute
  rw [h]
  exact ⟨rfl, rfl, rfl⟩

theorem State.startJob_marksOk (j : Job) (hw : s.plan.work = .idle) (hs : s.MarksOk) : (s.startJob j).MarksOk := by
  have hrun (cursor : Nat) : (s.runJob j cursor).MarksOk := State.setWork_marksOk (by rw [hw]; rfl) hs
  refine State.ite_marksOk (State.jobFailed_marksOk j .full 0 none hs)
    (State.ite_marksOk (State.jobFailed_marksOk j .notBound 0 none hs) ?_)
  cases j.work with
  | check code force => exact hrun code
  | search g => exact hrun g.first
  | audit => exact State.begun_marksOk rfl

theorem State.chooseWork_marksOk (fuel : Nat) (hs : s.MarksOk) : (State.chooseWork fuel s).MarksOk := by
  induction fuel generalizing s with
  | zero => exact hs
  | succ fuel ih =>
    unfold State.chooseWork
    split
    · exact hs
    · exact hs
    · next hw =>
      refine State.ite_marksOk (State.begun_marksOk rfl) ?_
      split
      · exact hs
      · exact ih (State.startJob_marksOk _ hw ⟨hs.plan⟩)

theorem State.settle_marksOk (hs : s.MarksOk) : s.settle.MarksOk :=
  (State.chooseWork_marksOk 64 hs).of_plan (State.arbitrate_plan _)

theorem State.closeJob_marksOk (s : State) (r : Running) (n code examined : Nat) (reason : Option Reason) :
    (s.closeJob r n code examined reason).MarksOk := by
  have hclosing : State.MarksOk { s.setEntry n (r.newEntry code) with plan := { (s.setEntry n (r.newEntry code)).plan with
      refreshPending := false
      work := .job { r with examined := examined, stage := .closing { entry := n, code := code, reason := reason } (s.setEntry n (r.newEntry code)).plan.snapshot } } } :=
    State.begun_marksOk rfl
  simp only [State.closeJob, State.committed]
  cases r.job.source with
  | bind n l => exact hclosing.of_plan (by simp)
  | move c => exact hclosing.of_plan (by simp)
  | setCarrier n e | place n | audit n => exact hclosing

/-- The job in a test of a candidate. -/
theorem State.commitJob_marksOk {r : Running} (hw : s.plan.work.recompute = none) (code examined : Nat) (reason : Option Reason)
    (hs : s.MarksOk) : (s.commitJob r code examined reason).MarksOk := by
  have hidle : (s.setWork .idle).MarksOk := State.setWork_marksOk hw.symm hs
  have hclose (n : Nat) := s.closeJob_marksOk r n code examined reason
  unfold State.commitJob
  split
  · exact State.jobFailed_marksOk _ _ _ _ hidle
  · split
    · exact State.ite_marksOk hidle.complete (hclose _)
    · exact hclose _
    · exact hclose _
    · exact hclose _
    · exact hs
    · exact hs

theorem State.testCandidate_marksOk {r : Running} (hw : s.plan.work = .job r) (hr : r.stage = .testing) (hs : s.MarksOk) :
    (s.testCandidate r).MarksOk := by
  have hnone : s.plan.work.recompute = none := by simp [hw, Work.recompute, hr]
  have hidle : (s.setWork .idle).MarksOk := State.setWork_marksOk hnone.symm hs
  have hfailed (f : JobFailure) (reason : Option Reason) := State.jobFailed_marksOk r.job f (r.examined + 1) reason hidle
  have hcommit (reason : Option Reason) := State.commitJob_marksOk hnone (r := r) r.cursor (r.examined + 1) reason hs
  unfold State.testCandidate
  dsimp only
  split
  · exact hs
  · exact State.ite_marksOk (hfailed _ _) (State.ite_marksOk (hcommit _) (hfailed _ _))
  · refine State.ite_marksOk (State.ite_marksOk (hfailed _ _) ?_) (State.ite_marksOk (hfailed _ _) (State.setWork_marksOk ?_ hs))
    · split
      · exact hidle.complete
      all_goals exact hcommit _
    · rw [hnone, Work.recompute, hr]

/-- The values of the running recompute are written, and the engine is IDLE (R26). -/
theorem State.writeMarks_marksOk {x : PlanSnapshot} (fresh : Option Nat) (hw : s.plan.work.recompute = some x) (hs : s.MarksOk) :
    ((s.writeMarks x fresh).setWork .idle).MarksOk := by
  refine ⟨(Plan.marksOk_iff _).mpr fun hpending => ?_⟩
  have hpresent := (Plan.marksOk_iff _).mp hs.plan hpending
  rw [hw] at hpresent
  exact Plan.marksRight_refreshed fresh hpresent

theorem State.writeRefresh_marksOk {x : PlanSnapshot} (hw : s.plan.work.recompute = some x) (hs : s.MarksOk) :
    ((s.writeRefresh x).setWork .idle).MarksOk := by
  have hwritten := State.writeMarks_marksOk none hw hs
  simp only [State.writeRefresh]
  split
  · exact hwritten
  · exact ⟨hwritten.plan⟩

theorem State.closingEnd_marksOk {r : Running} {cm : Commit} {x : PlanSnapshot} (hw : s.plan.work.recompute = some x) (hs : s.MarksOk) :
    (s.closingEnd r cm x).MarksOk := by
  have hwritten : ((s.writeMarks x (some cm.entry)).planRewrite.setWork .idle).MarksOk := ⟨(State.writeMarks_marksOk _ hw hs).plan⟩
  unfold State.closingEnd
  cases r.job.source with
  | setCarrier n e => exact hwritten.complete
  | bind _ _ | move _ | place _ | audit _ => exact hwritten

theorem State.auditEnd_marksOk {r : Running} {x : PlanSnapshot} (hw : s.plan.work.recompute = some x) (hs : s.MarksOk) :
    (s.auditEnd r x).MarksOk := by
  have hwritten := State.writeRefresh_marksOk hw hs
  unfold State.auditEnd
  cases r.job.source with
  | audit n => exact hwritten.complete
  | bind _ _ | move _ | place _ | setCarrier _ _ => exact hwritten

theorem State.engineTest_marksOk (hs : s.MarksOk) : s.engineTest.MarksOk := by
  unfold State.engineTest
  split
  · next r hw =>
    split
    · next hr => exact State.settle_marksOk (State.testCandidate_marksOk hw hr hs)
    · exact hs
    · exact hs
  · exact hs
  · exact hs

theorem State.engineRefresh_marksOk (hs : s.MarksOk) : s.engineRefresh.MarksOk := by
  unfold State.engineRefresh
  split
  · next r hw =>
    split
    · exact hs
    · next cm x hr => exact State.settle_marksOk (State.closingEnd_marksOk (by simp [hw, Work.recompute, hr]) hs)
    · next x hr => exact State.settle_marksOk (State.auditEnd_marksOk (by simp [hw, Work.recompute, hr]) hs)
  · exact hs
  · next x hw => exact State.settle_marksOk (State.writeRefresh_marksOk (by simp [hw, Work.recompute]) hs)

end Engine

/-! ## The requests -/

section Requests

variable {s : State} (n : Nat)

theorem State.doSetRules_marksOk (hs : s.MarksOk) : (s.doSetRules n).MarksOk :=
  (State.writeRules_marksOk _ hs).complete

theorem State.doSetExclusion_marksOk (hs : s.MarksOk) : (s.doSetExclusion n).MarksOk := by
  have hwritten (k lo hi : Nat) (present : Bool) (r : Result) : ((s.writeExclusion k present lo hi).complete n r).MarksOk :=
    (State.writeExclusion_marksOk k present lo hi hs).complete
  exact State.ite_marksOk hs.complete (State.ite_marksOk (hwritten _ _ _ _ _) (State.ite_marksOk hs.complete (hwritten _ _ _ _ _)))

theorem State.doPlace_marksOk (hs : s.MarksOk) : (s.doPlace n).MarksOk := by
  unfold State.doPlace
  dsimp only
  split
  · exact hs.complete
  · exact State.ite_marksOk hs.complete (State.ite_marksOk hs.complete (State.ite_marksOk hs.complete (State.pushJob_marksOk _ hs)))

theorem State.doSetCarrier_marksOk (hs : s.MarksOk) : (s.doSetCarrier n).MarksOk := by
  have haccepted (j : Job) (r : Result) (ws : List (Nat × Word)) : (if s.hostJobsFull then s.complete n r ws else s.pushJob j).MarksOk :=
    State.ite_marksOk hs.complete (State.pushJob_marksOk j hs)
  unfold State.doSetCarrier
  dsimp only
  split
  · exact haccepted _ _ _
  · exact State.ite_marksOk hs.complete (State.ite_marksOk hs.complete (State.ite_marksOk hs.complete
      (State.ite_marksOk hs.complete (State.ite_marksOk hs.complete (haccepted _ _ _)))))

theorem State.doClearCarrier_marksOk (hs : s.MarksOk) : (s.doClearCarrier n).MarksOk := by
  exact State.ite_marksOk hs.complete (State.ite_marksOk hs.complete (State.ite_marksOk hs.complete
    (State.ite_marksOk hs.complete (State.ite_marksOk hs.complete (s.freeEntry_marksOk _).complete))))

theorem State.doLockCarrier_marksOk (hs : s.MarksOk) : (s.doLockCarrier n).MarksOk := by
  refine State.ite_marksOk hs.complete ?_
  cases (s.entry (s.param n 4)).status with
  | free | reserved => exact hs.complete
  | active => exact (State.writeLock_marksOk _ _ hs).complete

theorem State.doAudit_marksOk (hs : s.MarksOk) : (s.doAudit n).MarksOk :=
  State.ite_marksOk hs.complete (State.pushJob_marksOk _ hs)

theorem State.doBindLink_marksOk (hs : s.MarksOk) : (s.doBindLink n).MarksOk := by
  unfold State.doBindLink
  dsimp only
  split
  · exact hs.complete
  · exact State.ite_marksOk hs.complete (State.ite_marksOk hs.complete (State.pushJob_marksOk _ (hs.of_plan rfl)))

/-- The unbinding frees the origin first (R80). -/
theorem State.unbind_marksOk (s : State) (l : Nat) : (s.unbind l).MarksOk := by
  have hsettled := State.settleOrigin_marksOk l (s.freeEntry_marksOk (s.link l).originEntry)
  have hreleased (t : State) (a : Nat) : (t.releaseUnit a).plan = t.plan := by
    simp only [State.releaseUnit]; split <;> simp
  refine hsettled.of_plan ?_
  rw [State.unbind, hreleased, (State.lampLevelChange_studioOnly _ l).plan, State.rewriteLink_plan, (State.duckUnbind_studioOnly _ l).plan,
    (State.talkUnbind_studioOnly _ l).plan]
  rfl

theorem State.doUnbindLink_marksOk (hs : s.MarksOk) : (s.doUnbindLink n).MarksOk := by
  exact State.ite_marksOk hs.complete (State.ite_marksOk hs.complete (State.ite_marksOk hs.complete
    (State.ite_marksOk hs.complete (State.ite_marksOk hs.complete (s.unbind_marksOk _).complete))))

theorem State.doResolveLink_marksOk (hs : s.MarksOk) : (s.doResolveLink n).MarksOk := by
  exact State.ite_marksOk hs.complete (State.ite_marksOk hs.complete (State.ite_marksOk hs.complete
    (State.ite_marksOk ((State.settleOrigin_marksOk _ hs).of_plan (State.linkChange_plan _ _ _)).complete
      ((State.settleTarget_marksOk _ hs).of_plan (State.linkChange_plan _ _ _)).complete)))

theorem State.doMoveLink_marksOk (hs : s.MarksOk) : (s.doMoveLink n).MarksOk := by
  refine State.ite_marksOk hs.complete (State.ite_marksOk hs.complete (State.ite_marksOk hs.complete (State.ite_marksOk hs.complete
    (State.ite_marksOk hs.complete (State.ite_marksOk hs.complete ?_)))))
  split
  · exact hs.complete
  · exact State.openCtx_marksOk _ _ hs

theorem State.abortHolder_marksOk (m : Nat) (hs : s.MarksOk) : (s.abortHolder m).2.MarksOk := by
  unfold State.abortHolder
  split
  · exact State.jobFailed_marksOk _ .aborted 0 none (State.withdrawJob_marksOk _ hs)
  · split
    · next r _ =>
      unfold State.abortRunningJob
      cases r.stage with
      | testing => exact State.abortRunning_marksOk hs
      | closing _ _ | auditing _ => exact hs
    · split
      · exact hs
      · split
        · exact State.abortMove_marksOk _ hs
        · split
          · exact hs.of_plan (by simp)
          · exact hs

theorem State.abortSlot_marksOk (m : Nat) (hs : s.MarksOk) : (s.abortSlot m).2.MarksOk := by
  unfold State.abortSlot
  cases s.slot m with
  | free | posted | done => exact hs
  | taken => exact State.abortHolder_marksOk m hs

theorem State.abortLink_marksOk (l : Nat) (hs : s.MarksOk) : (s.abortLink l).2.MarksOk := by
  unfold State.abortLink
  split
  · exact hs
  · exact State.abortMove_marksOk _ hs

theorem State.doAbort_marksOk (hs : s.MarksOk) : (s.doAbort n).MarksOk := by
  refine State.ite_marksOk hs.complete (State.MarksOk.complete ?_)
  split
  · exact State.abortSlot_marksOk _ hs
  · exact State.abortLink_marksOk _ hs

/-- Every request keeps the marks right in its take step (R185). -/
theorem handlerOf_marksOk {kind : Nat} {h : State → Nat → State} (hh : handlerOf kind = some h) (hs : s.MarksOk) : (h s n).MarksOk := by
  unfold handlerOf at hh
  split at hh
  case h_31 => cases hh
  all_goals cases hh
  case h_1 => exact State.doSetRules_marksOk n hs
  case h_2 => exact State.doSetExclusion_marksOk n hs
  case h_3 => exact State.doPlace_marksOk n hs
  case h_4 => exact State.doSetCarrier_marksOk n hs
  case h_5 => exact State.doClearCarrier_marksOk n hs
  case h_6 => exact State.doLockCarrier_marksOk n hs
  case h_7 => exact State.doAudit_marksOk n hs
  case h_14 => exact State.doBindLink_marksOk n hs
  case h_15 => exact State.doUnbindLink_marksOk n hs
  case h_17 => exact State.doResolveLink_marksOk n hs
  case h_18 => exact State.doMoveLink_marksOk n hs
  case h_30 => exact State.doAbort_marksOk n hs
  all_goals exact hs.of_plan (by simp)

theorem State.takeSlot_marksOk (hs : s.MarksOk) : (s.takeSlot n).MarksOk := by
  unfold State.takeSlot
  dsimp only
  split
  · unfold State.takePosted
    dsimp only
    split
    · next h hh => exact State.settle_marksOk (handlerOf_marksOk n hh (hs.of_plan rfl))
    · exact State.MarksOk.complete (hs.of_plan rfl)
  all_goals exact hs.of_plan rfl

end Requests

end Sys2Proof.Machine
end

section
/-! SUPPORT on the conflict marks, continued, and the proofs: every command, every step, and the reset (R12, R26, R27, R177, R184). -/

namespace Sys2Proof.Machine

/-! ## Every command -/

/-- The next state that a command answers, if any, meets the invariant. -/
structure Answer.MarksOk (a : Answer) : Prop where
  next : ∀ t, a = .next t → t.MarksOk

namespace Answer.MarksOk

variable {s t : State}

theorem of_next (ht : t.MarksOk) : Answer.MarksOk (.next t) := ⟨fun u hu => by cases hu; exact ht⟩

/-- A command that stops on an operand out of its range. -/
theorem guarded {c : Prop} [Decidable c] {f : Fault} (ht : t.MarksOk) : Answer.MarksOk (if c then .next t else .fault f) := by
  split
  · exact of_next ht
  · exact ⟨fun u hu => by simp at hu⟩

/-- A request command (R185). -/
theorem request (n : Nat) {kind : Nat} {h : State → Nat → State} (hh : handlerOf kind = some h) (hs : s.MarksOk) :
    Answer.MarksOk (s.request n kind h) :=
  guarded (State.ite_marksOk (State.settle_marksOk (handlerOf_marksOk n hh (hs.of_plan rfl))) hs)

end Answer.MarksOk

section Commands

variable {s t : State}

theorem State.onEvent_marksOk (hs : s.MarksOk) (ht : t.MarksOk) : (s.onEvent t).MarksOk := State.ite_marksOk ht hs

theorem State.onExpiry_marksOk (timer : Option Timer) (hs : s.MarksOk) (ht : t.MarksOk) : (s.onExpiry timer t).MarksOk :=
  State.onEvent_marksOk hs (State.ite_marksOk ht hs)

/-- A reset plan has no entry in use (R6). -/
theorem Plan.reset_marksOk : Plan.reset.marksOk := by
  refine (Plan.marksOk_iff _).mpr fun _ n hn hstatus => absurd ?_ hstatus
  simp [Plan.reset, look, hn, PlanEntry.free]

theorem State.rescueExpiry_marksOk (l : Nat) (hs : s.MarksOk) : (s.rescueExpiry l).MarksOk := by
  unfold State.rescueExpiry
  split
  · exact hs
  · exact State.onExpiry_marksOk _ hs (State.settle_marksOk (State.attemptRescue_marksOk l hs))
  · exact State.onEvent_marksOk hs (State.settle_marksOk (State.serveRescues_marksOk hs))

theorem State.busBytes_marksOk (bs : List Byte) (hs : s.MarksOk) : (bs.foldl (fun t b => t.busByte b false) s).MarksOk :=
  State.foldl_marksOk (fun _ b ht => State.busByte_marksOk b false ht) bs hs

/-- An event that leaves the plan, and the end of its step. -/
theorem State.onEvent_settle_marksOk (hs : s.MarksOk) (ht : t.plan = s.plan) : (s.onEvent t.settle).MarksOk :=
  State.onEvent_marksOk hs (State.settle_marksOk (hs.of_plan ht))

theorem State.onExpiry_settle_marksOk (timer : Option Timer) (hs : s.MarksOk) (ht : t.plan = s.plan) :
    (s.onExpiry timer t.settle).MarksOk := State.onExpiry_marksOk timer hs (State.settle_marksOk (hs.of_plan ht))

/-- Every command keeps the marks right. -/
theorem exec_marksOk (c : Instr) (hs : s.MarksOk) : Answer.MarksOk (exec c s) := by
  have hevent {t : State} (ht : t.plan = s.plan) : (s.onEvent t).MarksOk := State.onEvent_marksOk hs (hs.of_plan ht)
  have hexpiry {timer : Option Timer} {t : State} (ht : t.plan = s.plan) : (s.onExpiry timer t).MarksOk :=
    State.onExpiry_marksOk timer hs (hs.of_plan ht)
  cases c with
  | powerOnReset => exact .of_next ⟨Plan.reset_marksOk⟩
  | softReset => exact .of_next (State.ite_marksOk ⟨Plan.reset_marksOk⟩ hs)
  | initialisationEnd => exact .of_next (State.ite_marksOk hs (hs.of_plan rfl))
  | eventsWrite v | eventEnableWrite v => exact .of_next (State.ite_marksOk (hs.of_plan rfl) hs)
  | attentionWrite v => exact .of_next (State.ite_marksOk (hs.of_plan (s.attend_plan _)) hs)
  | registerWriteIgnored r v => exact .guarded hs
  | hostWordWrite a v | slotPost n | slotWithdraw n | slotHandBack n => exact .guarded (hs.of_plan (s.hostWrite_plan _ _))
  | latchLowRead a | latchHighRead a => exact .guarded (hs.of_plan (s.hostRead_plan a))
  | intakeTake =>
    refine .of_next ?_
    split
    · exact State.takeSlot_marksOk _ hs
    · exact hs
    · exact hs
  | setRules n | setExclusion n | place n | setCarrier n | clearCarrier n | lockCarrier n | audit n | setProbe n | scan n | holdScan n
  | resumeScan n | clearProbeFault n | clearMap n | bindLink n | unbindLink n | setLinkOptions n | resolveLink n | moveLink n | goMove n
  | setLine n | setTallySources n | setTallyOverride n | setLamp n | lampTest n | setStation n | setKey n | talkKey n | cancelTalk n
  | setDest n | abort n => exact .request n rfl hs
  | candidateTest => exact .of_next (State.onEvent_marksOk hs (State.engineTest_marksOk hs))
  | refreshEnd => exact .of_next (State.onEvent_marksOk hs (State.engineRefresh_marksOk hs))
  | settleExpiry => exact .of_next (hexpiry s.settleExpiry_plan)
  | probePulse tick => exact .of_next (State.onEvent_settle_marksOk hs (s.probePulse_plan tick))
  | referenceTimeout => exact .of_next (State.onEvent_settle_marksOk hs s.referenceTimeout_plan)
  | sampleWindowEnd => exact .of_next (State.onEvent_settle_marksOk hs s.sampleWindowEnd_plan)
  | requestFrameSent => exact .of_next (hevent s.frameSent_plan)
  | replyFrame bs => exact .of_next (State.onEvent_marksOk hs (State.settle_marksOk (State.busBytes_marksOk bs hs)))
  | replyWindowEnd => exact .of_next (State.onExpiry_marksOk _ hs (State.settle_marksOk (State.windowEnd_marksOk hs)))
  | pollGapExpiry => exact .of_next (State.onExpiry_settle_marksOk _ hs s.pollChoose_plan)
  | garbledReplyByte b framing => exact .of_next (State.onEvent_marksOk hs (State.settle_marksOk (State.busByte_marksOk b framing hs)))
  | weakTimerExpiry l => exact .guarded (State.onExpiry_settle_marksOk _ hs (s.weakExpiry_plan l))
  | lossTimerExpiry l => exact .guarded (State.onExpiry_settle_marksOk _ hs (s.lossExpiry_plan l))
  | rescueTimerExpiry l => exact .guarded (State.rescueExpiry_marksOk l hs)
  | holdTimerExpiry c => exact .guarded (State.onExpiry_marksOk _ hs (State.settle_marksOk (State.endMove_marksOk c .holdTimeout .none hs)))
  | confirmTimerExpiry c => exact .guarded (State.onExpiry_marksOk _ hs (State.settle_marksOk (State.confirmExpiry_marksOk c hs)))
  | queryTimerExpiry c => exact .guarded (State.onExpiry_settle_marksOk _ hs (s.queryAgain_plan c))
  | receiveByteError n vs => exact .guarded (hevent (s.lineSamples_plan n vs))
  | discardedByte n b | frameMarkerByte n => exact .guarded (hevent (s.lineByte_plan n _))
  | frameError n b1 b2 check | tallyFrame n b1 b2 => exact .guarded (hevent (s.frameBytes_plan n _ _ _))
  | panelFrame station key => exact .of_next (hevent (s.frameBytes_plan 2 _ _ _))
  | staleTimerExpiry n => exact .guarded (hexpiry (s.lineStale_plan n))
  | staleClearExpiry n => exact .guarded (hexpiry (s.lineCleared_plan n))
  | referencePulse => exact .of_next (State.onEvent_settle_marksOk hs s.referencePulse_plan)
  | refLossTimerExpiry => exact .of_next (State.onExpiry_settle_marksOk _ hs s.refLost_plan)
  | syntheticTimerExpiry => exact .of_next (State.onExpiry_settle_marksOk _ hs s.syntheticFrame_plan)
  | pwmPeriodStart => exact .of_next (hs.of_plan rfl)
  | pwmActiveEnd n => exact .guarded (hs.of_plan rfl)
  | fadeStepExpiry n => exact .guarded (hexpiry (s.lampEvent_studioOnly n _).plan)
  | blinkTimerExpiry n => exact .guarded (hexpiry (s.touchLamp_plan n _))
  | lampTestExpiry => exact .of_next (hexpiry s.endTest_studioOnly.plan)
  | hangTimerExpiry st k => exact .guarded (hexpiry (s.hangExpiry_studioOnly st k).plan)
  | latchWindowExpiry st k => exact .guarded (hexpiry (s.setKey_plan _ _))
  | rampTimerExpiry l => exact .guarded (hexpiry (s.rampExpiry_studioOnly l).plan)
  | matrixFrameSent | deviceTimeTick => exact .of_next (hevent rfl)

end Commands

/-- Settles O20: resets empty the plan; a refresh and an AUDIT write the marks of the plan they began on; what else changes a carrier, an exclusion or a rule leaves a refresh pending or begins a recompute with it. -/
theorem everyStepKeepsTheMarksRight : Obligations.EveryStepKeepsTheMarksRight := by
  intro s t hs hstep
  unfold step at hstep
  split at hstep
  · cases hstep
    exact hs
  · next c rest _ =>
    have hrest : State.MarksOk { s with pending := rest } := ⟨hs⟩
    exact ((exec_marksOk c hrest).next t hstep).plan

/-- Settles O60: no entry of the reset plan is in use, and the queue, the pending set and the tables are empty. -/
theorem resetMeetsTheInvariants : Obligations.ResetMeetsTheInvariants := by
  refine ⟨Plan.reset_marksOk, ?_, ⟨.nil, nofun⟩, rfl, rfl, rfl, rfl, rfl⟩
  exact
    { bounded := Nat.zero_le _
      once := .nil
      current := nofun
      marksRising := .nil
      apart := nofun
      covered := fun p h => absurd rfl h }

end Sys2Proof.Machine
end

section
/-! SUPPORT and the proof on search parameters and the course of a search (R34, R35). -/

namespace Sys2Proof.Machine

/-! ## Search parameters (R34) -/

/-- A value clamped to a range that is not empty, with the note. -/
theorem clampTo_eq {lo hi : Nat} (h : lo ≤ hi) (v : Nat) :
    clampTo lo hi v = { value := max lo (min hi v), was := decide (v < lo ∨ hi < v) } := by
  rw [clampTo, decide_eq_decide.mpr (clamp_ne_iff h v), clamp_eq_max_min h]

/-- A field for which 0 and absence stand for the default d, and which is clamped to 1..hi otherwise. -/
theorem clampOpt_optNonzero {hi : Nat} (hhi : 1 ≤ hi) (d v : Nat) :
    clampOpt 1 hi d (optNonzero v) =
      if v = 0 ∨ v = 0xFFFF then { value := d, was := false } else { value := min hi v, was := decide (hi < v) } := by
  unfold optNonzero
  split
  · rfl
  · next h =>
    have hmax : max 1 (min hi v) = min hi v := by omega
    have hpos : ¬v < 1 := by omega
    simp only [clampOpt, clampTo_eq hhi, hmax, hpos, false_or]

/-- A field that may take its default is noted as clamped when it does not and lies out of range. -/
theorem default_was (c w : Prop) [Decidable c] [Decidable w] (d v : Nat) :
    (if c then Clamped.mk d false else Clamped.mk v (decide w)).was = true ↔ ¬c ∧ w := by
  split <;> simp [*]

/-- The step of a search: 1 by default, at most 64 (R34). -/
theorem stepField_eq (v : Nat) :
    stepField v = if v = 0 ∨ v = 0xFFFF then { value := 1, was := false } else { value := min 64 v, was := decide (64 < v) } :=
  clampOpt_optNonzero (by omega) 1 v

/-- The limit of a search: 12,800 by default and at most (R34). -/
theorem limitField_eq (v : Nat) :
    limitField v = if v = 0 ∨ v = 0xFFFF then { value := 12800, was := false } else { value := min 12800 v, was := decide (12800 < v) } :=
  clampOpt_optNonzero (by omega) 12800 v

/-- The start of a search over a range that is not empty: lo by default, and within the range (R34). -/
theorem startField_eq {lo hi : Nat} (h : lo ≤ hi) (v : Nat) :
    startField lo hi v =
      if v = 0xFFFF then { value := lo, was := false } else { value := max lo (min hi v), was := decide (v < lo ∨ hi < v) } := by
  unfold startField optWord
  split
  · rfl
  · simp only [clampOpt, clampTo_eq h]

/-- The fields of a search as its words give them (R34). -/
theorem gridField_eq (lo hi step start limit : Nat) :
    gridField lo hi step start limit =
      { grid := { lo := min 12799 lo, hi := min 12799 hi, step := (stepField step).value,
                  start := (startField (min 12799 lo) (min 12799 hi) start).value, limit := (limitField limit).value }
        was := decide (12799 < lo) || decide (12799 < hi) || (stepField step).was ||
          (startField (min 12799 lo) (min 12799 hi) start).was || (limitField limit).was
        bad := decide (min 12799 hi < min 12799 lo) } := by
  simp only [gridField, clampTo_code]

/-! ## The course of a search over its grid (R34, R35) -/

namespace Grid

variable (g : Grid)

/-- Grid code i, counted from lo. -/
def code (i : Nat) : Nat := g.lo + i * g.step

/-- The grid codes, rising. -/
def codes : List Nat := (List.range g.size).map g.code

/-- The place of the first grid code not below the start, were the grid endless. -/
def startIndex : Nat := (g.start - g.lo) ⌈/⌉ g.step

/-- The place of the first candidate among the grid codes. -/
def firstIndex : Nat := if g.startIndex < g.size then g.startIndex else 0

variable {g}

theorem code_le_last_iff (hstep : 0 < g.step) {i : Nat} : g.code i ≤ g.last ↔ i < g.size := by
  rw [code, last, size, Nat.add_le_add_iff_left, Nat.mul_le_mul_right_iff hstep, Nat.lt_succ_iff]

theorem code_le_hi_iff (hrange : g.lo ≤ g.hi) (hstep : 0 < g.step) {i : Nat} : g.code i ≤ g.hi ↔ i < g.size := by
  rw [code, size, Nat.lt_succ_iff, Nat.le_div_iff_mul_le hstep]
  omega

theorem code_injective (hstep : 0 < g.step) : Function.Injective g.code := fun i j h => by
  simpa [code, hstep.ne'] using h

theorem mem_codes {x : Nat} : x ∈ g.codes ↔ ∃ i < g.size, g.code i = x := by
  simp [codes]

theorem firstIndex_lt_size : g.firstIndex < g.size := by
  unfold firstIndex
  split
  · assumption
  · exact Nat.succ_pos _

theorem first_eq_code (hstep : 0 < g.step) : g.first = g.code g.firstIndex := by
  have hindex : (g.start - g.lo + g.step - 1) / g.step = g.startIndex := (Nat.ceilDiv_eq_add_pred_div _ _).symm
  have hfirst : g.first = if g.code g.startIndex ≤ g.last then g.code g.startIndex else g.lo := by
    rw [first, hindex, code]
  have hlo : g.code 0 = g.lo := by rw [code, Nat.zero_mul, Nat.add_zero]
  simp only [hfirst, firstIndex, apply_ite g.code, code_le_last_iff hstep, hlo]

/-- The search steps to the grid code above, and from the largest to lo (R35). -/
theorem next_code (hstep : 0 < g.step) {i : Nat} (hi : i < g.size) : g.next (g.code i) = g.code ((i + 1) % g.size) := by
  have hsucc : g.code i + g.step = g.code (i + 1) := by rw [code, code, Nat.add_mul, Nat.one_mul, Nat.add_assoc]
  rw [next, hsucc]
  by_cases h : i + 1 < g.size
  · rw [if_pos ((code_le_last_iff hstep).mpr h), Nat.mod_eq_of_lt h]
  · have hend : i + 1 = g.size := by omega
    rw [if_neg (mt (code_le_last_iff hstep).mp h), hend, Nat.mod_self, code, Nat.zero_mul, Nat.add_zero]

theorem iterate_next_code (hstep : 0 < g.step) {i : Nat} (hi : i < g.size) (k : Nat) :
    Nat.iterate g.next k (g.code i) = g.code ((k + i) % g.size) := by
  induction k with
  | zero => rw [Nat.zero_add, Nat.mod_eq_of_lt hi]; rfl
  | succ k ih =>
    rw [Function.iterate_succ_apply', ih, next_code hstep (Nat.mod_lt _ (Nat.zero_lt_of_lt hi)), Nat.mod_add_mod, Nat.add_right_comm]

/-- A search visits the grid codes in their order, beginning with its first candidate and going round (R35). -/
theorem visited_eq_rotate (hstep : 0 < g.step) :
    ((List.range g.size).map fun k => Nat.iterate g.next k g.first) = g.codes.rotate g.firstIndex := by
  refine List.ext_getElem (by simp [codes]) fun k hk _ => ?_
  simp [List.getElem_rotate, codes, first_eq_code hstep, iterate_next_code hstep firstIndex_lt_size]

/-- Grid code i is not below the start exactly from the start's place on. -/
theorem start_le_code_iff (hstep : 0 < g.step) {i : Nat} : g.start ≤ g.code i ↔ g.startIndex ≤ i := by
  rw [startIndex, ceilDiv_le_iff_le_mul hstep, code, Nat.mul_comm]
  omega

end Grid

/-- Settles O13: each field is clamped on its own; a search goes round the grid codes, which is a rotation of their list. -/
theorem searchesCoverTheirClampedGrid : Obligations.SearchesCoverTheirClampedGrid := by
  refine ⟨?_, ?_⟩
  · intro lo hi step start limit f absent
    have hf : f = _ := gridField_eq lo hi step start limit
    simp only [hf, stepField_eq, limitField_eq]
    refine ⟨trivial, trivial, fun h => by rw [if_pos h], fun h => by rw [if_neg h], fun h => by rw [if_pos h], fun h => by rw [if_neg h],
      fun h => ?_, fun h hle => ?_, decide_eq_true_iff, fun hbad => ?_⟩
    · simp [startField, optWord, h, clampOpt]
    · rw [startField_eq hle, if_neg h]
    · have hle : min 12799 lo ≤ min 12799 hi := not_lt.mp (of_decide_eq_false hbad)
      rw [startField_eq hle]
      simp only [Bool.or_eq_true, default_was, decide_eq_true_eq]
      tauto
  · intro g hrange hstep hlo hhi visited
    have hvisited : visited = g.codes.rotate g.firstIndex := Grid.visited_eq_rotate hstep
    have hmem (x : Nat) : x ∈ visited ↔ ∃ i < g.size, g.code i = x := by rw [hvisited, List.mem_rotate, Grid.mem_codes]
    refine ⟨?_, ?_, fun x => ?_, ?_, ?_⟩
    · rw [hvisited, List.nodup_rotate]
      exact List.nodup_range.map (Grid.code_injective hstep)
    · simp [visited, Grid.size]
    · rw [hmem]
      constructor
      · rintro ⟨i, hi, rfl⟩
        exact ⟨i, rfl, (Grid.code_le_hi_iff hrange hstep).mpr hi⟩
      · rintro ⟨i, rfl, hi⟩
        exact ⟨i, (Grid.code_le_hi_iff hrange hstep).mp hi, rfl⟩
    · rintro ⟨x, hx, hstart⟩
      obtain ⟨i, hi, rfl⟩ := (hmem x).mp hx
      have hindex : g.firstIndex = g.startIndex := if_pos (((Grid.start_le_code_iff hstep).mp hstart).trans_lt hi)
      rw [Grid.first_eq_code hstep, hindex]
      refine ⟨(Grid.start_le_code_iff hstep).mpr le_rfl, fun y hy hystart => ?_⟩
      obtain ⟨j, -, rfl⟩ := (hmem y).mp hy
      exact Nat.add_le_add_left (Nat.mul_le_mul_right _ ((Grid.start_le_code_iff hstep).mp hystart)) _
    · intro hbelow
      have hindex : g.firstIndex = 0 := if_neg fun hlt =>
        absurd ((Grid.start_le_code_iff hstep).mpr le_rfl) (Nat.not_le.mpr (hbelow _ ((hmem _).mpr ⟨_, hlt, rfl⟩)))
      rw [Grid.first_eq_code hstep, hindex, Grid.code, Nat.zero_mul, Nat.add_zero]

end Sys2Proof.Machine
end

section
/-! SUPPORT and the proofs on the requests that raise plan jobs (R28, R38 to R40). -/

namespace Sys2Proof.Machine

/-! ## PLACE, SET_CARRIER and AUDIT at their take (R38 to R40) -/

section Taken

variable (s : State) (n : Nat)

/-- Taking a slot leaves the link records. -/
@[simp] theorem State.taken_link (l : Nat) : (s.dropAttention.setSlot n .taken).link l = s.link l := rfl

/-- Taking a slot leaves the room in the waiting list. -/
@[simp] theorem State.taken_hostJobsFull : (s.dropAttention.setSlot n .taken).hostJobsFull = s.hostJobsFull := rfl

/-- A job that joins the list at the take leaves its slot TAKEN (R28, R185). -/
theorem State.pushJob_taken (j : Job) : (s.dropAttention.setSlot n .taken).pushJob j =
    { s with board := s.board.holding n, plan := { s.plan with waiting := s.plan.waiting ++ [j] } } := rfl

end Taken

/-- The list holds 8 host jobs (R28). -/
theorem State.hostJobsFull_iff (s : State) :
    s.hostJobsFull = true ↔ 8 ≤ (s.plan.waiting.filter fun j => !j.source.isMove).length :=
  decide_eq_true_iff

/-- The link kinds by number (R192). -/
theorem linkKindOf_eq (v : Nat) :
    linkKindOf v = if 2 < v then none else some (if v = 0 then .camera else if v = 1 then .mic else .iem) := by
  match v with
  | 0 | 1 | 2 => rfl
  | v + 3 => simp [linkKindOf]

/-- A half-width that may be left to the default (R38). -/
theorem widthField_eq (v : Nat) :
    widthField v = if v = 0 ∨ v = 0xFFFF then { value := 0, was := false } else { value := min 320 v, was := decide (320 < v) } :=
  clampOpt_optNonzero (by decide) 0 v

/-- A half-width is noted as clamped when it is given and too large. -/
theorem widthField_was (v : Nat) : (widthField v).was = decide (v ≠ 0xFFFF ∧ 320 < v) := by
  rw [widthField_eq]
  split
  · exact (decide_eq_false (by omega)).symm
  · exact decide_eq_decide.mpr (by omega)

/-- PLACE in a slot just taken: its checks, and the SEARCH it raises (R38). -/
theorem State.doPlace_taken (s : State) (n : Nat) :
    let g := gridField (s.param n 7) (s.param n 8) (s.param n 9) (s.param n 10) (s.param n 11)
    let w := s.param n 5
    let l := s.param n 6
    let refuse (r : Result) : State := s.answered n r [(12, 0xFFFF#16), (13, 0#16)]
    (s.dropAttention.setSlot n .taken).doPlace n =
      if 2 < s.param n 4 then refuse .badField
      else if (l ≠ 0xFFFF ∧ 31 < l) ∨ g.bad = true then refuse .badField
      else if l ≠ 0xFFFF ∧ (s.link l).state = .vacant then refuse .notBound
      else if 8 ≤ (s.plan.waiting.filter fun j => !j.source.isMove).length then refuse .busy
      else { s with
        board := s.board.holding n
        plan := { s.plan with waiting := s.plan.waiting ++
          [{ source := .place n, work := .search g.grid, kind := .link, width := if w = 0 ∨ w = 0xFFFF then 0 else min 320 w,
             linkKind := if s.param n 4 = 0 then .camera else if s.param n 4 = 1 then .mic else .iem,
             link := if l ≠ 0xFFFF then some l else none, clamped := decide (w ≠ 0xFFFF ∧ 320 < w) || g.was }] } } := by
  have hwords : placeWords none 0 = [(12, 0xFFFF#16), (13, 0#16)] := rfl
  have hwidth (v : Nat) : (widthField v).value = if v = 0 ∨ v = 0xFFFF then 0 else min 320 v := by
    rw [widthField_eq, apply_ite Clamped.value]
  simp only [State.doPlace, State.taken_param, State.taken_link, State.taken_hostJobsFull, State.complete_taken, State.pushJob_taken,
    State.hostJobsFull_iff, hwords, widthField_was, hwidth, linkKindOf_eq]
  by_cases hkind : 2 < s.param n 4
  · simp only [hkind, if_true]
  · by_cases hlink : s.param n 6 = 0xFFFF
    · simp [hkind, hlink, optWord]
    · simp [hkind, hlink, optWord]

/-- Settles O14: PLACE at its take. -/
theorem placeRaisesASearch : Obligations.PlaceRaisesASearch := by
  intro n s hn ht g w l given refuse
  have hgiven : given = true ↔ l ≠ 0xFFFF := decide_eq_true_iff
  calc exec (.place n) s
      = .next ((s.dropAttention.setSlot n .taken).doPlace n).settle := State.request_taken s n 3 _ hn ht
    _ = _ := by simp only [hgiven]; rw [State.doPlace_taken]

/-- SET_CARRIER in a slot just taken: its checks, and the CHECK it raises (R39). -/
theorem State.doSetCarrier_taken (s : State) (n : Nat) :
    let code := s.param n 4
    let width := s.param n 5
    let e := s.param n 6
    let flags := s.param n 7
    let refuse (r : Result) : State := s.answered n r [(8, 0xFFFF#16), (9, 0xFFFF#16)]
    let accept : State :=
      if 8 ≤ (s.plan.waiting.filter fun j => !j.source.isMove).length then refuse .busy
      else { s with
        board := s.board.holding n
        plan := { s.plan with waiting := s.plan.waiting ++
          [{ source := .setCarrier n (if e = 0xFFFF then none else some e), work := .check (min 12799 code) (flags.testBit 0), kind := .foreign,
             width := max 1 (min 320 width), linkKind := .camera, link := none,
             clamped := decide (12799 < code ∨ width = 0 ∨ 320 < width) }] } }
    (s.dropAttention.setSlot n .taken).doSetCarrier n =
      if e = 0xFFFF then accept
      else if 47 < e then refuse .badField
      else if (s.entry e).status = .free then refuse .notFound
      else if (s.entry e).kind = .link then refuse .inUse
      else if s.carrierNamed e then refuse .busy
      else if s.lockRefuses e (flagOverride flags) then refuse .locked
      else accept := by
  have hwords : carrierWords none none = [(8, 0xFFFF#16), (9, 0xFFFF#16)] := rfl
  have hwidth (v : Nat) : clampTo 1 Config.maxWidth v = { value := max 1 (min 320 v), was := decide (v = 0 ∨ 320 < v) } := by
    rw [clampTo_eq (by decide)]
    simp only [Nat.lt_one_iff]
    rfl
  simp only [State.doSetCarrier, State.taken_param, State.taken_entry, State.taken_carrierNamed, State.taken_lockRefuses,
    State.taken_hostJobsFull, State.complete_taken, State.pushJob_taken, State.hostJobsFull_iff, hwords, PlanEntry.not_inUse_iff,
    clampTo_code, hwidth, ← Bool.decide_or, optWord]
  by_cases hentry : s.param n 6 = 0xFFFF
  · simp only [hentry, if_true]
    rfl
  · simp only [hentry, if_false]
    rfl

/-- AUDIT in a slot just taken (R28, R40). -/
theorem State.doAudit_taken (s : State) (n : Nat) :
    (s.dropAttention.setSlot n .taken).doAudit n =
      if 8 ≤ (s.plan.waiting.filter fun j => !j.source.isMove).length
      then s.answered n .busy ((List.range 14).map fun k => (4 + k, 0#16))
      else { s with
        board := s.board.holding n
        plan := { s.plan with waiting := s.plan.waiting ++
          [{ source := .audit n, work := .audit, kind := .link, width := 0, linkKind := .camera, link := none, clamped := false }] } } := by
  have hwords : auditWords 0 0 [] = (List.range 14).map fun k => (4 + k, 0#16) := rfl
  simp only [State.doAudit, State.taken_hostJobsFull, State.complete_taken, State.pushJob_taken, State.hostJobsFull_iff, hwords]

/-- Settles O15: the two requests at their takes. -/
theorem setCarrierAndAuditJoinTheList : Obligations.SetCarrierAndAuditJoinTheList := by
  refine ⟨?_, ?_⟩
  · intro n s hn ht code width e flags x override refuse accept
    calc exec (.setCarrier n) s
        = .next ((s.dropAttention.setSlot n .taken).doSetCarrier n).settle := State.request_taken s n 4 _ hn ht
      _ = _ := by rw [State.doSetCarrier_taken]; rfl
  · intro n s hn ht
    calc exec (.audit n) s
        = .next ((s.dropAttention.setSlot n .taken).doAudit n).settle := State.request_taken s n 7 _ hn ht
      _ = _ := by rw [State.doAudit_taken]

end Sys2Proof.Machine
end

section
/-! SUPPORT and the proof on the reason of a candidate (R31 to R33). -/

namespace Sys2Proof.Machine

/-- A record of a table satisfies p: by its place. -/
theorem exists_mem_toList_iff {α : Type} {m : Nat} [Inhabited α] (v : Vector α m) (p : α → Prop) :
    (∃ x ∈ v.toList, p x) ↔ ∃ k < m, p (look v k) := by
  constructor
  · rintro ⟨x, hx, hp⟩
    obtain ⟨k, hk, rfl⟩ := List.getElem_of_mem hx
    have hkm : k < m := by simpa using hk
    exact ⟨k, hkm, by simpa [look, hkm] using hp⟩
  · rintro ⟨k, hk, hp⟩
    exact ⟨_, look_mem_toList v k hk, hp⟩

/-- The signals of a plan are those of its in-use entries (R3). -/
theorem mem_signalsOf {entries : Vector PlanEntry 48} {a : Signal} :
    a ∈ signalsOf entries ↔ ∃ n < 48, (look entries n).status ≠ .free ∧ (look entries n).signal n = a := by
  simp only [signalsOf, List.mem_filterMap, List.mem_range, Option.ite_none_right_eq_some, Option.some.injEq, PlanEntry.inUse,
    decide_eq_true_eq]

/-- Some violation has entry n among its members (R25). -/
theorem instancesOf_isEmpty_iff (is : List Inst) (n : Nat) : (!(instancesOf is n).isEmpty) = true ↔ ∃ i ∈ is, n ∈ i.members := by
  simp [instancesOf]

namespace Candidate

variable (c : Candidate)

/-- The span lies inside the band (R31). -/
theorem inBand_iff : c.inBand = true ↔ c.width ≤ c.code ∧ c.code + c.width ≤ 12799 := decide_eq_true_iff

/-- The candidate is a LINK carrier over a present exclusion place (R7, R31). -/
theorem not_clearOfExclusions_iff (p : Plan) :
    (c.kind = .link ∧ (!c.clearOfExclusions p.exclusions.toList) = true) ↔
      c.kind = .link ∧ ∃ k < 8, (look p.exclusions k).present = true ∧
        c.code - c.width ≤ (look p.exclusions k).hi ∧ (look p.exclusions k).lo ≤ c.code + c.width := by
  refine and_congr_right fun hkind => ?_
  simp only [clearOfExclusions, Bool.not_not, List.any_eq_true, exists_mem_toList_iff, exclMeets, signal, hkind, decide_true, Bool.and_true,
    Bool.and_eq_true, spanMeets_natCast, Nat.sub_le_iff_le_add]

/-- Bin b is under an in-use LINK entry other than the one left out (R32). -/
theorem binCovered_iff (entries : Vector PlanEntry 48) (leftOut : Option Nat) (b : Nat) :
    binCovered entries leftOut b = true ↔ ∃ n < 48, (look entries n).status ≠ .free ∧ (look entries n).kind = .link ∧ leftOut ≠ some n ∧
      (look entries n).code ≤ 8 * b + 7 + (look entries n).width ∧ 8 * b ≤ (look entries n).code + (look entries n).width := by
  simp only [binCovered, List.any_eq_true, mem_signalsOf]
  constructor
  · rintro ⟨_, ⟨n, hn, huse, rfl⟩, h⟩
    simp only [PlanEntry.signal, Bool.and_eq_true, decide_eq_true_eq, spanMeets_natCast] at h
    obtain ⟨⟨hkind, hleft⟩, hspan⟩ := h
    exact ⟨n, hn, huse, hkind, of_decide_eq_true hleft, hspan⟩
  · rintro ⟨n, hn, huse, hkind, hleft, hspan⟩
    refine ⟨_, ⟨n, hn, huse, rfl⟩, ?_⟩
    simp only [PlanEntry.signal, Bool.and_eq_true, decide_eq_true_eq, spanMeets_natCast]
    exact ⟨⟨hkind, decide_eq_true hleft⟩, hspan⟩

/-- Bin b is occupied: it shows a level at or above the threshold and is not an own-marked bin that no entry covers (R32). -/
theorem not_binClear_iff (entries : Vector PlanEntry 48) (pr : Probe) (threshold : Nat) (leftOut : Option Nat) (b : Nat) :
    binClear entries pr threshold leftOut b = false ↔
      pr.levels.get 0 b ≠ 0 ∧ threshold ≤ pr.levels.get 0 b ∧ ¬(pr.ownMarks.get false b = true ∧ ¬binCovered entries leftOut b = true) := by
  simp [binClear, and_assoc]

/-- Some bin under the span is not clear (R31). -/
theorem not_binsClear_iff (p : Plan) (pr : Probe) :
    (!c.binsClear p.entries pr p.rules.threshold) = true ↔ ∃ b, (c.code - c.width) / 8 ≤ b ∧ b ≤ (c.code + c.width) / 8 ∧
      binClear p.entries pr p.rules.threshold c.leftOut b = false := by
  simp only [binsClear, Bool.not_eq_true', List.all_eq_false, List.mem_range, Bool.not_eq_true]
  constructor
  · rintro ⟨k, hk, hclear⟩
    exact ⟨_, Nat.le_add_right _ k, by omega, hclear⟩
  · rintro ⟨b, hfirst, hlast, hclear⟩
    exact ⟨b - (c.code - c.width) / 8, by omega, by rwa [Nat.add_sub_cancel' hfirst]⟩

end Candidate

/-- With the IM5 enable 0 there is no IM5 violation (R24). -/
theorem im5Instances_of_disabled {r : Rules} (h : r.im5 = false) (l : List Signal) : im5Instances r l = [] := by
  simp [im5Instances, h]

/-- Settles O16: the tests stand in the order of R31, and each is put as the manual gives it. -/
theorem candidateReasonIsTheFirstFailingTest : Obligations.CandidateReasonIsTheFirstFailingTest := by
  classical
  intro c p pr band excluded overlapped occupied busy l partOf
  have hband : (!c.inBand) = true ↔ ¬band := by rw [Bool.not_eq_true', ← Bool.not_eq_true, c.inBand_iff]
  have hexcluded : (c.kind = .link ∧ (!c.clearOfExclusions p.exclusions.toList) = true) ↔ excluded := c.not_clearOfExclusions_iff p
  have hoccupied (b : Nat) : binClear p.entries pr p.rules.threshold c.leftOut b = false ↔ occupied b := by
    rw [Candidate.not_binClear_iff, Candidate.binCovered_iff]
  have hbusy : (c.kind = .link ∧ (!c.binsClear p.entries pr p.rules.threshold) = true) ↔ busy := by
    simp only [Candidate.not_binsClear_iff, hoccupied, busy]
  have hpart (is : List Inst) : (!(instancesOf is candidateId).isEmpty) = true ↔ partOf is := instancesOf_isEmpty_iff is candidateId
  have him5 : partOf (im5Instances p.rules l) → p.rules.im5 = true := by
    rintro ⟨i, hi, -⟩
    by_contra hdisabled
    rw [im5Instances_of_disabled (by simpa using hdisabled)] at hi
    cases hi
  have hreason : c.reason p pr = if ¬band then .band else if excluded then .excl else if busy then .occupied
      else if partOf (adjInstances p.rules l) then .adj else if partOf (im32Instances p.rules l) then .im32
      else if partOf (im33Instances p.rules l) then .im33 else if partOf (im5Instances p.rules l) then .im5 else .none :=
    if_congr hband rfl (if_congr hexcluded rfl (if_congr hbusy rfl
      (if_congr (hpart _) rfl (if_congr (hpart _) rfl (if_congr (hpart _) rfl (if_congr (hpart _) rfl rfl))))))
  rw [hreason]
  by_cases hin : band
  case neg => simp [hin]
  by_cases hexcl : excluded
  case pos => simp [hin, hexcl]
  by_cases hocc : busy
  case pos => simp [hin, hexcl, hocc]
  by_cases hadj : partOf (adjInstances p.rules l)
  case pos => simp [hin, hexcl, hocc, hadj]
  by_cases him32 : partOf (im32Instances p.rules l)
  case pos => simp [hin, hexcl, hocc, hadj, him32]
  by_cases him33 : partOf (im33Instances p.rules l)
  case pos => simp [hin, hexcl, hocc, hadj, him32, him33]
  by_cases hfive : partOf (im5Instances p.rules l)
  case pos => simp [hin, hexcl, hocc, hadj, him32, him33, hfive, him5]
  simp [hin, hexcl, hocc, hadj, him32, him33, hfive]

end Sys2Proof.Machine
end

section
/-! SUPPORT and the proof on the instances of a plan, counted by type (R20 to R25). -/

namespace Sys2Proof.Machine

/-! ## Sums over lists and tables -/

/-- A sum over the records of a table. -/
theorem sum_toList {α : Type} {m : Nat} (v : Vector α m) (f : α → Nat) : (v.toList.map f).sum = ∑ k : Fin m, f v[k] := by
  obtain ⟨⟨l⟩, rfl⟩ := v
  exact (Fin.sum_univ_fun_getElem l f).symm

/-- Elements that satisfy p, counted. -/
theorem length_filter_eq_sum {α : Type} (p : α → Bool) (l : List α) : (l.filter p).length = (l.map fun a => if p a then 1 else 0).sum := by
  induction l with
  | nil => rfl
  | cons a l ih => by_cases h : p a <;> simp [h, ih, Nat.add_comm]

/-- Elements to which f gives a value, counted. -/
theorem length_filterMap_eq_sum {α β : Type} (f : α → Option β) (l : List α) :
    (l.filterMap f).length = (l.map fun a => if (f a).isSome then 1 else 0).sum := by
  induction l with
  | nil => rfl
  | cons a l ih => cases h : f a <;> simp [h, ih, Nat.add_comm]

/-- A sum over the elements that satisfy p. -/
theorem sum_map_filter {α : Type} (p : α → Bool) (g : α → Nat) (l : List α) :
    ((l.filter p).map g).sum = (l.map fun a => if p a then g a else 0).sum := by
  induction l with
  | nil => rfl
  | cons a l ih => by_cases h : p a <;> simp [h, ih]

/-- A sum over the places below m. -/
theorem sum_range_eq_sum_fin (m : Nat) (f : Nat → Nat) : ((List.range m).map f).sum = ∑ n : Fin m, f n := by
  rw [Fin.sum_univ_def, ← List.map_coe_finRange_eq_range, List.map_map]
  rfl

/-- A condition on a sum is one on each of its terms. -/
theorem ite_sum {ι : Type} [Fintype ι] (c : Prop) [Decidable c] (f : ι → Nat) : (if c then ∑ i, f i else 0) = ∑ i, if c then f i else 0 := by
  split <;> simp

/-- The record at a place of a table. -/
theorem look_fin {α : Type} {m : Nat} [Inhabited α] (v : Vector α m) (n : Fin m) : look v n = v[n] := by
  simp [look]

/-! ## Sums over the signals of a plan -/

section Signals

variable (es : Vector PlanEntry 48)

/-- A sum over the signals is one over the in-use entries (R3). -/
theorem sum_signals (g : Signal → Nat) :
    ((signalsOf es).map g).sum = ∑ n : Fin 48, if es[n].inUse then g (es[n].signal n) else 0 := by
  have hlist (l : List Nat) : ((l.filterMap fun n => if (look es n).inUse then some ((look es n).signal n) else none).map g).sum =
      (l.map fun n => if (look es n).inUse then g ((look es n).signal n) else 0).sum := by
    induction l with
    | nil => rfl
    | cons n l ih => by_cases h : (look es n).inUse <;> simp [h, ih]
  rw [signalsOf, hlist, sum_range_eq_sum_fin]
  simp only [look_fin]

/-- A sum over the signals that are sources is one over the in-use LINK entries. -/
theorem sum_sources (g : Signal → Nat) :
    (((signalsOf es).filter (·.source)).map g).sum = ∑ n : Fin 48, if es[n].isLink then g (es[n].signal n) else 0 := by
  rw [sum_map_filter, sum_signals]
  refine Finset.sum_congr rfl fun n _ => ?_
  simp only [PlanEntry.isLink, PlanEntry.signal, Bool.and_eq_true, ite_and]
  rfl

end Signals

/-! ## The instances of each type, counted -/

/-- A condition under which a list is a value, counted. -/
theorem isSome_ite {α : Type} (c : Prop) [Decidable c] (x : α) : (if c then some x else none).isSome = true ↔ c := by
  split <;> simp [*]

theorem length_ite_nil {α : Type} (c : Prop) [Decidable c] (l : List α) : (if c then l else []).length = if c then l.length else 0 := by
  split <;> rfl

theorem length_nil_ite {α : Type} (c : Prop) [Decidable c] (l : List α) : (if c then [] else l).length = if ¬c then l.length else 0 := by
  split <;> simp [*]

/-- A product strikes an entry by R20, the band limit on the product included (R22). -/
theorem strikes_iff (p s g : Int) (v : Signal) : strikes p s g v = true ↔ 0 ≤ p ∧ p ≤ 12799 ∧ |p - v.f| < s + v.w + g := by
  rw [Int.abs_eq_natAbs]
  exact decide_eq_true_iff

section Counts

variable (es : Vector PlanEntry 48)

theorem length_exclInstances (xs : Vector Exclusion 8) : (exclInstances xs.toList (signalsOf es)).length =
    ∑ n : Fin 48, ∑ k : Fin 8, if es[n].inUse = true ∧ exclMeets xs[k] (es[n].signal n) = true then 1 else 0 := by
  simp only [exclInstances, List.length_flatMap, List.length_map, length_filter_eq_sum, sum_toList, sum_signals, ite_sum, ← ite_and]

theorem length_adjInstances (r : Rules) : (adjInstances r (signalsOf es)).length =
    ∑ a : Fin 48, ∑ b : Fin 48, if es[a].inUse = true ∧ es[b].inUse = true ∧ a < b ∧
      distance es[a].code es[b].code < es[a].width + es[b].width + r.gAdj then 1 else 0 := by
  simp only [adjInstances, List.length_flatMap, length_filterMap_eq_sum, sum_signals, ite_sum, ← ite_and, isSome_ite]
  rfl

/-- The victims of one product (R20). -/
theorem length_struckBy (t : Violation) (p s g : Int) (sources : List Nat) : (struckBy t p s g sources (signalsOf es)).length =
    ∑ v : Fin 48, if es[v].inUse = true ∧ ↑v ∉ sources ∧ strikes p s g (es[v].signal v) = true then 1 else 0 := by
  simp only [struckBy, length_filterMap_eq_sum, sum_signals, ← ite_and, isSome_ite]
  rfl

theorem length_im32Instances (r : Rules) : (im32Instances r (signalsOf es)).length =
    ∑ a : Fin 48, ∑ b : Fin 48, ∑ v : Fin 48, if es[a].isLink = true ∧ es[b].isLink = true ∧ (a : Nat) ≠ b ∧
      es[v].inUse = true ∧ (v : Nat) ∉ [(a : Nat), (b : Nat)] ∧
      strikes (2 * es[a].code - es[b].code) (2 * es[a].width + es[b].width) r.g3 (es[v].signal v) = true then 1 else 0 := by
  simp only [im32Instances, List.length_flatMap, sum_sources, length_nil_ite, length_struckBy, ite_sum, ← ite_and]
  rfl

theorem length_im33Instances (r : Rules) : (im33Instances r (signalsOf es)).length =
    ∑ a : Fin 48, ∑ b : Fin 48, ∑ c : Fin 48, ∑ v : Fin 48,
      if es[a].isLink = true ∧ es[b].isLink = true ∧ es[c].isLink = true ∧ ((a : Nat) < b ∧ (c : Nat) ≠ a ∧ (c : Nat) ≠ b) ∧
        es[v].inUse = true ∧ (v : Nat) ∉ [(a : Nat), (b : Nat), (c : Nat)] ∧
        strikes (es[a].code + es[b].code - es[c].code) (es[a].width + es[b].width + es[c].width) r.g3 (es[v].signal v) = true then 1 else 0 := by
  simp only [im33Instances, List.length_flatMap, sum_sources, length_ite_nil, length_struckBy, ite_sum, ← ite_and]
  rfl

theorem length_im5Instances (r : Rules) : (im5Instances r (signalsOf es)).length =
    ∑ a : Fin 48, ∑ b : Fin 48, ∑ v : Fin 48, if r.im5 = true ∧ es[a].isLink = true ∧ es[b].isLink = true ∧ (a : Nat) ≠ b ∧
      es[v].inUse = true ∧ (v : Nat) ∉ [(a : Nat), (b : Nat)] ∧
      strikes (3 * es[a].code - 2 * es[b].code) (3 * es[a].width + 2 * es[b].width) r.g5 (es[v].signal v) = true then 1 else 0 := by
  simp only [im5Instances, length_ite_nil, List.length_flatMap, sum_sources, length_nil_ite, length_struckBy, ite_sum, ← ite_and]
  rfl

end Counts

/-! ## The instances of one type among all -/

theorem type_of_mem_adjInstances {r : Rules} {l : List Signal} {i : Inst} (h : i ∈ adjInstances r l) : i.type = .adj := by
  obtain ⟨a, -, hi⟩ := List.mem_flatMap.mp h
  obtain ⟨b, -, hi⟩ := List.mem_filterMap.mp hi
  obtain ⟨-, hi⟩ := Option.ite_none_right_eq_some.mp hi
  cases hi
  rfl

theorem type_of_mem_struckBy {t : Violation} {p s g : Int} {sources : List Nat} {l : List Signal} {i : Inst}
    (h : i ∈ struckBy t p s g sources l) : i.type = t := by
  obtain ⟨v, -, hi⟩ := List.mem_filterMap.mp h
  obtain ⟨-, hi⟩ := Option.ite_none_right_eq_some.mp hi
  cases hi
  rfl

theorem type_of_mem_im32Instances {r : Rules} {l : List Signal} {i : Inst} (h : i ∈ im32Instances r l) : i.type = .im32 := by
  obtain ⟨a, -, hi⟩ := List.mem_flatMap.mp h
  obtain ⟨b, -, hi⟩ := List.mem_flatMap.mp hi
  split at hi
  · cases hi
  · exact type_of_mem_struckBy hi

theorem type_of_mem_im33Instances {r : Rules} {l : List Signal} {i : Inst} (h : i ∈ im33Instances r l) : i.type = .im33 := by
  obtain ⟨a, -, hi⟩ := List.mem_flatMap.mp h
  obtain ⟨b, -, hi⟩ := List.mem_flatMap.mp hi
  obtain ⟨c, -, hi⟩ := List.mem_flatMap.mp hi
  split at hi
  · exact type_of_mem_struckBy hi
  · cases hi

theorem type_of_mem_im5Instances {r : Rules} {l : List Signal} {i : Inst} (h : i ∈ im5Instances r l) : i.type = .im5 := by
  simp only [im5Instances] at h
  split at h
  · obtain ⟨a, -, hi⟩ := List.mem_flatMap.mp h
    obtain ⟨b, -, hi⟩ := List.mem_flatMap.mp hi
    split at hi
    · cases hi
    · exact type_of_mem_struckBy hi
  · cases h

/-- Among instances of one type, those of a type are all or none. -/
theorem filter_type {is : List Inst} {u : Violation} (h : ∀ i ∈ is, i.type = u) (t : Violation) :
    (is.filter fun i => decide (i.type = t)) = if u = t then is else [] := by
  split
  · next heq => exact List.filter_eq_self.mpr fun i hi => decide_eq_true ((h i hi).trans heq)
  · next hne => exact List.filter_eq_nil_iff.mpr fun i hi => by simpa [h i hi] using hne

/-- The instances of one type among all those of a plan. -/
theorem filter_type_instances (r : Rules) (xs : List Exclusion) (l : List Signal) (t : Violation) :
    ((instances r xs l).filter fun i => decide (i.type = t)) = match t with
      | .none => []
      | .excl => exclInstances xs l
      | .adj => adjInstances r l
      | .im32 => im32Instances r l
      | .im33 => im33Instances r l
      | .im5 => im5Instances r l := by
  simp only [instances, List.filter_append, filter_type (fun _ => type_of_mem_exclInstances), filter_type (fun _ => type_of_mem_adjInstances),
    filter_type (fun _ => type_of_mem_im32Instances), filter_type (fun _ => type_of_mem_im33Instances),
    filter_type (fun _ => type_of_mem_im5Instances)]
  cases t <;> simp

/-- Settles O17: each type's instances are counted entry by entry, and the conditions are those of R20 to R25. -/
theorem instancesAreCountedByType : Obligations.InstancesAreCountedByType := by
  intro r xs es e f w used src struck total
  have hsrc (n : Fin 48) : es[n].isLink = true ↔ src n = true := Iff.rfl
  have hused (n : Fin 48) : es[n].inUse = true ↔ used n = true := Iff.rfl
  have hstruck (p s g : Int) (v : Fin 48) : strikes p s g (es[v].signal v) = true ↔ struck p s g v := strikes_iff p s g _
  simp only [total, filter_type_instances, length_exclInstances, length_adjInstances, length_im32Instances, length_im33Instances,
    length_im5Instances, Finset.card_filter, Fintype.sum_prod_type, hsrc, hused, hstruck]
  refine ⟨Fintype.sum_congr _ _ fun a => Fintype.sum_congr _ _ fun k => if_congr ?_ rfl rfl,
    Fintype.sum_congr _ _ fun a => Fintype.sum_congr _ _ fun b => if_congr ?_ rfl rfl,
    Fintype.sum_congr _ _ fun a => Fintype.sum_congr _ _ fun b => Fintype.sum_congr _ _ fun v => if_congr ?_ rfl rfl,
    Fintype.sum_congr _ _ fun a => Fintype.sum_congr _ _ fun b => Fintype.sum_congr _ _ fun c => Fintype.sum_congr _ _ fun v => if_congr ?_ rfl rfl,
    Fintype.sum_congr _ _ fun a => Fintype.sum_congr _ _ fun b => Fintype.sum_congr _ _ fun v => if_congr ?_ rfl rfl⟩
  · have hmeets : exclMeets xs[k] (es[a].signal a) = true ↔ xs[k].present = true ∧ (e a).kind = .link ∧
        f a - w a ≤ xs[k].hi ∧ (xs[k].lo : Int) ≤ f a + w a := by
      simp [exclMeets, spanMeets, PlanEntry.signal, and_assoc, e, f, w]
    simp only [hmeets, src, Bool.and_eq_true, decide_eq_true_eq]
    tauto
  · rw [distance, ← Int.abs_eq_natAbs]
    tauto
  · simp only [List.mem_cons, List.not_mem_nil, or_false, not_or, Fin.val_inj, ne_eq, and_assoc]
    exact Iff.rfl
  · simp only [List.mem_cons, List.not_mem_nil, or_false, not_or, Fin.val_inj, Fin.val_fin_lt, ne_eq, and_assoc]
    exact Iff.rfl
  · simp only [List.mem_cons, List.not_mem_nil, or_false, not_or, Fin.val_inj, ne_eq, and_assoc]
    exact Iff.rfl

end Sys2Proof.Machine
end

section
/-! SUPPORT and the proof on the end of a refresh (R5, R11, R25, R26, R29, R40). -/

namespace Sys2Proof.Machine

/-! ## The worst type -/

/-- The instances of a plan stand in the order of their types (R25). -/
theorem instances_ordered (r : Rules) (xs : List Exclusion) (l : List Signal) :
    (instances r xs l).Pairwise fun i j => i.type.ctorIdx ≤ j.type.ctorIdx := by
  have hsame {is : List Inst} {t : Violation} (h : ∀ i ∈ is, i.type = t) : is.Pairwise fun i j => i.type.ctorIdx ≤ j.type.ctorIdx :=
    List.pairwise_of_forall_mem_list fun i hi j hj => by rw [h i hi, h j hj]
  have hexcl : ∀ i ∈ exclInstances xs l, i.type = .excl := fun _ => type_of_mem_exclInstances
  have hadj : ∀ i ∈ adjInstances r l, i.type = .adj := fun _ => type_of_mem_adjInstances
  have him32 : ∀ i ∈ im32Instances r l, i.type = .im32 := fun _ => type_of_mem_im32Instances
  have him33 : ∀ i ∈ im33Instances r l, i.type = .im33 := fun _ => type_of_mem_im33Instances
  have him5 : ∀ i ∈ im5Instances r l, i.type = .im5 := fun _ => type_of_mem_im5Instances
  simp only [instances, List.pairwise_append, hsame hexcl, hsame hadj, hsame him32, hsame him33, hsame him5, true_and, List.mem_append]
  refine ⟨⟨⟨?_, ?_⟩, ?_⟩, ?_⟩
  · intro i hi j hj
    rw [hexcl i hi, hadj j hj]
    decide
  · rintro i (hi | hi) j hj
    · rw [hexcl i hi, him32 j hj]
      decide
    · rw [hadj i hi, him32 j hj]
      decide
  · rintro i ((hi | hi) | hi) j hj
    · rw [hexcl i hi, him33 j hj]
      decide
    · rw [hadj i hi, him33 j hj]
      decide
    · rw [him32 i hi, him33 j hj]
      decide
  · intro i _ j hj
    rw [him5 j hj]
    cases i.type <;> decide

/-- No violation has the type NONE. -/
theorem type_ne_none_of_mem_instances {r : Rules} {xs : List Exclusion} {l : List Signal} {i : Inst} (h : i ∈ instances r xs l) :
    i.type ≠ .none := by
  intro hnone
  have hfound : i ∈ (instances r xs l).filter fun j => decide (j.type = .none) := List.mem_filter.mpr ⟨h, decide_eq_true hnone⟩
  rw [filter_type_instances] at hfound
  cases hfound

/-- The worst type is the first of the types that some violation has (R25). -/
theorem worstOf_of_ordered {is : List Inst} (hordered : is.Pairwise fun i j => i.type.ctorIdx ≤ j.type.ctorIdx)
    (hnone : ∀ i ∈ is, i.type ≠ .none) :
    worstOf is = if is.any (fun i => decide (i.type = .excl)) then .excl else if is.any (fun i => decide (i.type = .adj)) then .adj
      else if is.any (fun i => decide (i.type = .im32)) then .im32 else if is.any (fun i => decide (i.type = .im33)) then .im33
      else if is.any (fun i => decide (i.type = .im5)) then .im5 else .none := by
  cases is with
  | nil => rfl
  | cons i is =>
    obtain ⟨hfirst, -⟩ := List.pairwise_cons.mp hordered
    have habsent (t : Violation) (ht : t.ctorIdx < i.type.ctorIdx) : (i :: is).any (fun j => decide (j.type = t)) = false := by
      rw [List.any_eq_false]
      intro j hj heq
      have hle : i.type.ctorIdx ≤ j.type.ctorIdx := by
        rcases List.mem_cons.mp hj with rfl | hj
        · exact le_rfl
        · exact hfirst j hj
      rw [of_decide_eq_true heq] at hle
      omega
    have hpresent (t : Violation) (ht : i.type = t) : (i :: is).any (fun j => decide (j.type = t)) = true := by
      simp [ht]
    have hi := hnone i List.mem_cons_self
    show i.type = _
    cases ht : i.type with
    | none => exact absurd ht hi
    | excl => rw [hpresent .excl ht, if_pos rfl]
    | adj => rw [habsent .excl (by rw [ht]; decide), hpresent .adj ht]; rfl
    | im32 => rw [habsent .excl (by rw [ht]; decide), habsent .adj (by rw [ht]; decide), hpresent .im32 ht]; rfl
    | im33 =>
      rw [habsent .excl (by rw [ht]; decide), habsent .adj (by rw [ht]; decide), habsent .im32 (by rw [ht]; decide), hpresent .im33 ht]
      rfl
    | im5 =>
      rw [habsent .excl (by rw [ht]; decide), habsent .adj (by rw [ht]; decide), habsent .im32 (by rw [ht]; decide),
        habsent .im33 (by rw [ht]; decide), hpresent .im5 ht]
      rfl

/-! ## What a refresh writes -/

/-- The three values of an entry are those its instances give it exactly when writing them changes nothing. -/
theorem PlanEntry.withMarks_eq_self_iff (e : PlanEntry) (is : List Inst) : e.withMarks is = e ↔
    (e.withMarks is).count = e.count ∧ (e.withMarks is).mark = e.mark ∧ (e.withMarks is).worst = e.worst := by
  refine ⟨fun h => by rw [h]; exact ⟨rfl, rfl, rfl⟩, ?_⟩
  cases e
  rintro ⟨hcount, hmark, hworst⟩
  simp only [PlanEntry.withMarks] at hcount hmark hworst ⊢
  rw [hcount, hmark, hworst]

/-- A refresh leaves an entry that is not in use alone (R26). -/
theorem PlanEntry.refreshed_of_free {e : PlanEntry} (is : List Inst) (fresh : Option Nat) (n : Nat) (h : e.status = .free) :
    PlanEntry.refreshed is fresh n e = e := by
  simp [PlanEntry.refreshed, PlanEntry.inUse, h]

/-- The edition of an in-use entry counts a change of its three values, except where the commit counted it (R5, R11). -/
theorem PlanEntry.refreshed_edition {e : PlanEntry} (is : List Inst) (fresh : Option Nat) (n : Nat) (h : e.inUse = true) :
    (PlanEntry.refreshed is fresh n e).edition =
      if e.withMarks (instancesOf is n) = e ∨ fresh = some n then e.edition else e.edition + 1 := by
  unfold PlanEntry.refreshed
  by_cases hsame : e.withMarks (instancesOf is n) = e
  · simp [hsame]
  · simp [h, hsame]

/-- A 32-bit count as two words, low word first (R192). -/
theorem result32_ofNat (k v : Nat) :
    result32 k (BitVec.ofNat 32 v) = [(k, BitVec.ofNat 16 v), (k + 1, BitVec.ofNat 16 (v / 65536))] := by
  have hlow : lowWord (BitVec.ofNat 32 v) = BitVec.ofNat 16 v := by
    apply BitVec.eq_of_toNat_eq
    simp only [lowWord, BitVec.toNat_setWidth, BitVec.toNat_ofNat]
    omega
  have hhigh : highWord (BitVec.ofNat 32 v) = BitVec.ofNat 16 (v / 65536) := by
    apply BitVec.eq_of_toNat_eq
    simp only [highWord, BitVec.toNat_setWidth, BitVec.toNat_ushiftRight, BitVec.toNat_ofNat, Nat.shiftRight_eq_div_pow]
    omega
  rw [result32, hlow, hhigh]

/-- The end of a closing refresh is its one rewrite of the plan (R29). -/
theorem exec_refreshEnd_of_closing {s : State} {r : Running} {cm : Commit} {x : PlanSnapshot} (hready : s.board.ready = true)
    (hwork : s.plan.work = .job r) (hstage : r.stage = .closing cm x) : exec .refreshEnd s = .next (s.closingEnd r cm x).settle := by
  show Host.Outcome.next (s.onEvent s.engineRefresh) = _
  simp only [State.onEvent, hready, if_true, State.engineRefresh, hwork, hstage]

/-- The end of an AUDIT's recompute (R40). -/
theorem exec_refreshEnd_of_auditing {s : State} {r : Running} {x : PlanSnapshot} (hready : s.board.ready = true)
    (hwork : s.plan.work = .job r) (hstage : r.stage = .auditing x) : exec .refreshEnd s = .next (s.auditEnd r x).settle := by
  show Host.Outcome.next (s.onEvent s.engineRefresh) = _
  simp only [State.onEvent, hready, if_true, State.engineRefresh, hwork, hstage]

/-- The write of a refresh, with the plan edition and EVENTS.PLAN where an entry changed (R5). -/
theorem State.writeRefresh_setWork (s : State) (x : PlanSnapshot) (w : Work) : (s.writeRefresh x).setWork w =
    if refreshEntries x none s.plan.entries = s.plan.entries then { s with plan := { s.plan with work := w } }
    else { s with plan := { s.plan with entries := refreshEntries x none s.plan.entries, edition := s.plan.edition + 1, work := w }
                  board := s.board.note [.plan] } := by
  rw [State.writeRefresh, apply_ite (State.setWork · w)]
  refine if_ctx_congr Iff.rfl (fun hsame => ?_) fun _ => rfl
  simp only [State.writeMarks, State.setWork, hsame]

/-- Settles O19: entry by entry a refresh writes the three values and the edition; the rest is how each kind of refresh ends. -/
theorem refreshWritesCountMarkAndWorstType : Obligations.RefreshWritesCountMarkAndWorstType := by
  intro s x hready all refreshed rewritten left
  have hrefreshed (fresh : Option Nat) : refreshed fresh (refreshEntries x fresh s.plan.entries) := by
    refine ⟨fun n hn hfree => ?_, fun n hn huse => ?_⟩
    · rw [look_refreshEntries x fresh _ hn]
      exact PlanEntry.refreshed_of_free _ _ _ hfree
    · intro is old new
      have hold : old.inUse = true := decide_eq_true huse
      have hlook : new = PlanEntry.refreshed x.instances fresh n old := look_refreshEntries x fresh _ hn
      clear_value new
      have hnew : new = { old.withMarks is with edition := new.edition } := by
        rw [hlook]
        exact PlanEntry.refreshed_of_inUse _ _ _ _ hold
      have hcount : new.count = (old.withMarks is).count := by rw [hnew]
      have hmark : new.mark = (old.withMarks is).mark := by rw [hnew]
      have hworst : new.worst = (old.withMarks is).worst := by rw [hnew]
      have hordered : is.Pairwise fun i j => i.type.ctorIdx ≤ j.type.ctorIdx := (instances_ordered _ _ _).filter _
      refine ⟨hcount, ?_, ?_, ?_, ?_⟩
      · rw [hmark]
        simp [PlanEntry.withMarks]
      · rw [hworst]
        exact worstOf_of_ordered hordered fun i hi => type_ne_none_of_mem_instances (List.mem_filter.mp hi).1
      · rw [hcount, hmark, hworst, hlook, PlanEntry.refreshed_edition _ _ _ hold]
        exact if_congr (or_congr_left (PlanEntry.withMarks_eq_self_iff old is)) rfl rfl
      · rw [hcount, hmark, hworst]
        exact hnew
  refine ⟨fun hwork => ⟨_, hrefreshed none, ?_⟩, fun r cm hwork hstage => ⟨_, hrefreshed (some cm.entry), ?_⟩,
    fun r n hwork hstage hsource => ?_⟩
  · rw [exec_refreshEnd_of_refresh hready hwork, State.writeRefresh_setWork]
  · rw [exec_refreshEnd_of_closing hready hwork hstage, State.closingEnd]
    cases r.job.source with
    | setCarrier n e =>
      obtain ⟨entry, code, reason⟩ := cm
      cases reason <;> rfl
    | place n => rfl
    | audit n => rfl
    | bind n l => rfl
    | move c => rfl
  · intro used marked double total
    have hmarked : (x.inUse.filter fun n => !(instancesOf x.instances n).isEmpty) = marked := by
      refine List.filter_congr fun e _ => ?_
      rw [Bool.eq_iff_iff, instancesOf_isEmpty_iff]
      simp [all, PlanSnapshot.instances]
    have haudit : x.audit = [(4, BitVec.ofNat 16 used.length), (5, BitVec.ofNat 16 marked.length)] ++ double 6 all.length ++
        double 8 (total .excl) ++ double 10 (total .adj) ++ double 12 (total .im32) ++ double 14 (total .im33) ++ double 16 (total .im5) := by
      rw [PlanSnapshot.audit, hmarked, auditWords]
      simp only [result32_ofNat]
      rfl
    refine ⟨_, hrefreshed none, ?_⟩
    rw [exec_refreshEnd_of_auditing hready hwork hstage]
    simp only [State.auditEnd, hsource, State.writeRefresh_setWork, haudit]
    rfl

end Sys2Proof.Machine
end

section
/-! SUPPORT and the proof on how the plan engine chooses its work (R27, R29). -/

namespace Sys2Proof.Machine

/-! ## The lowest FREE entry (R4) -/

/-- The table is full: no entry is FREE (R4). -/
theorem lowestFree_isNone_iff (entries : Vector PlanEntry 48) :
    (lowestFree entries).isNone = true ↔ ∀ m < 48, (look entries m).status ≠ .free := by
  simp [lowestFree, placesWhere, PlanEntry.inUse]

/-- The lowest FREE entry (R4). -/
theorem lowestFree_eq_some {entries : Vector PlanEntry 48} {e : Nat} (he : e < 48) (hfree : (look entries e).status = .free)
    (hbelow : ∀ m < e, (look entries m).status ≠ .free) : lowestFree entries = some e := by
  rw [lowestFree, placesWhere, List.head?_filter, List.find?_range_eq_some]
  simpa [PlanEntry.inUse, hfree, he] using hbelow

/-! ## Choosing (R27) -/

/-- With the bus at work the end of a step is the engine's choice. -/
theorem State.arbitrate_of_busy {s : State} (h : s.bus.state ≠ .idle) : s.arbitrate = s := if_neg h

/-- The engine at work stays with it. -/
theorem State.chooseWork_of_working {s : State} (fuel : Nat) (h : s.plan.work ≠ .idle) : s.chooseWork fuel = s := by
  cases fuel with
  | zero => rfl
  | succ fuel =>
    simp only [State.chooseWork]
    split
    · rfl
    · rfl
    · next hidle => exact absurd hidle h

/-- An IDLE engine with the flag clear and nothing waiting stays IDLE. -/
theorem State.chooseWork_of_nothing {s : State} (fuel : Nat) (hwork : s.plan.work = .idle) (hflag : s.plan.refreshPending = false)
    (hwaiting : s.plan.waiting = []) : s.chooseWork fuel = s := by
  cases fuel with
  | zero => rfl
  | succ fuel => simp [State.chooseWork, hwork, hflag, hwaiting]

/-- An IDLE engine runs a pending refresh first. -/
theorem State.chooseWork_refresh {s : State} (fuel : Nat) (hwork : s.plan.work = .idle) (hflag : s.plan.refreshPending = true) :
    s.chooseWork (fuel + 1) = s.beginRefresh := by
  simp [State.chooseWork, hwork, hflag]

/-- An IDLE engine with the flag clear takes the head job. -/
theorem State.chooseWork_job {s : State} {j : Job} {js : List Job} (fuel : Nat) (hwork : s.plan.work = .idle)
    (hflag : s.plan.refreshPending = false) (hwaiting : s.plan.waiting = j :: js) :
    s.chooseWork (fuel + 1) = State.chooseWork fuel ({ s with plan := { s.plan with waiting := js } }.startJob j) := by
  simp [State.chooseWork, hwork, hflag, hwaiting]

/-- A job that stands at work ends the choice. -/
theorem State.settle_job {s : State} {j : Job} {js : List Job} (hbus : s.bus.state ≠ .idle) (hwork : s.plan.work = .idle)
    (hflag : s.plan.refreshPending = false) (hwaiting : s.plan.waiting = j :: js) {u : State}
    (hstart : { s with plan := { s.plan with waiting := js } }.startJob j = u) (hu : u.plan.work ≠ .idle) (hubus : u.bus = s.bus) :
    s.settle = u := by
  rw [State.settle, State.chooseWork_job 63 hwork hflag hwaiting, hstart, State.chooseWork_of_working _ hu]
  exact State.arbitrate_of_busy (hubus ▸ hbus)

/-! ## Starting a job (R4, R29, R38, R40) -/

/-- A job that would add an entry to a full table ends FULL (R4). -/
theorem State.startJob_full {s : State} {j : Job} (hadds : j.adds = true) (hfull : ∀ m < 48, (s.entry m).status ≠ .free) :
    s.startJob j = s.jobFailed j .full 0 none :=
  if_pos ⟨hadds, (lowestFree_isNone_iff _).mpr hfull⟩

/-- A SET_CARRIER without an entry ends FULL on a full table, its words absent (R4, R186). -/
theorem State.startJob_full_setCarrier {s : State} {j : Job} {n : Nat} (hsource : j.source = .setCarrier n none)
    (hfull : ∀ m < 48, (s.entry m).status ≠ .free) : s.startJob j = s.complete n .full [(8, 0xFFFF#16), (9, 0xFFFF#16)] := by
  rw [State.startJob_full (by simp [Job.adds, hsource]) hfull]
  simp only [State.jobFailed, hsource]
  rfl

/-- A PLACE for a VACANT link ends NOT_BOUND (R38). -/
theorem State.startJob_unbound {s : State} {j : Job} (hadds : j.adds = false) (hunbound : s.placeUnbound j = true) :
    s.startJob j = s.jobFailed j .notBound 0 none := by
  rw [State.startJob, if_neg (by simp [hadds]), if_pos hunbound]

section Starts

variable {s : State} {j : Job} (hroom : j.adds = true → ¬∀ m < 48, (s.entry m).status ≠ .free) (hbound : s.placeUnbound j = false)

include hroom

/-- The full-table test passes (R4). -/
theorem State.not_full_of_room : ¬(j.adds = true ∧ (lowestFree s.plan.entries).isNone = true) :=
  fun ⟨hadds, hfull⟩ => hroom hadds ((lowestFree_isNone_iff _).mp hfull)

include hbound

/-- A CHECK that meets neither test stands at its code (R29). -/
theorem State.startJob_check {code : Nat} {force : Bool} (hwork : j.work = .check code force) : s.startJob j = s.runJob j code := by
  simp only [State.startJob, if_neg (State.not_full_of_room hroom), hbound, hwork, Bool.false_eq_true, if_false]

/-- A SEARCH that meets neither test stands at its first candidate (R29, R35). -/
theorem State.startJob_search {g : Grid} (hwork : j.work = .search g) : s.startJob j = s.runJob j g.first := by
  simp only [State.startJob, if_neg (State.not_full_of_room hroom), hbound, hwork, Bool.false_eq_true, if_false]

/-- An AUDIT begins its recompute on the plan as it stands (R40). -/
theorem State.startJob_audit (hwork : j.work = .audit) : s.startJob j = { s with plan := { s.plan with
    refreshPending := false
    work := .job { job := j, width := 0, leftOut := none, cursor := 0, examined := 0, aborted := false, stage := .auditing s.plan.snapshot } } } := by
  simp only [State.startJob, if_neg (State.not_full_of_room hroom), hbound, hwork, Bool.false_eq_true, if_false]

end Starts

/-- Settles O21: the choice goes by the engine's state, the flag and the list; each job's start goes by the two tests it meets. -/
theorem engineChoosesRefreshThenHeadJob : Obligations.EngineChoosesRefreshThenHeadJob := by
  refine ⟨fun s hbus => ⟨?_, fun hwork hflag => ?_, fun j n hwork hflag hwaiting hsource hfull => ?_⟩,
    ?_⟩
  · rintro (hwork | ⟨hflag, hwaiting⟩)
    · rw [State.settle, State.chooseWork_of_working _ hwork, State.arbitrate_of_busy hbus]
    · by_cases hwork : s.plan.work = .idle
      · rw [State.settle, State.chooseWork_of_nothing _ hwork hflag hwaiting, State.arbitrate_of_busy hbus]
      · rw [State.settle, State.chooseWork_of_working _ hwork, State.arbitrate_of_busy hbus]
  · rw [State.settle, State.chooseWork_refresh 63 hwork hflag]
    exact State.arbitrate_of_busy hbus
  · have hended : { s with plan := { s.plan with waiting := [] } }.startJob j =
        State.complete { s with plan := { s.plan with waiting := [] } } n .full [(8, 0xFFFF#16), (9, 0xFFFF#16)] :=
      State.startJob_full_setCarrier hsource hfull
    rw [State.settle, State.chooseWork_job 63 hwork hflag hwaiting, hended, State.chooseWork_of_nothing, State.arbitrate_of_busy]
    · rw [State.complete_eq]
      exact hbus
    · rw [State.complete_plan]
      exact hwork
    · rw [State.complete_plan]
      exact hflag
    · rw [State.complete_plan]
  · intro s j js hwork hflag hwaiting rest full adds unbound width leftOut begins ends
    have hwidth : rest.jobWidth j = width := rfl
    have hleftOut : rest.jobLeftOut j = leftOut := rfl
    have hunbound : rest.placeUnbound j = unbound := by
      simp only [State.placeUnbound, unbound]
      cases j.source <;> cases j.link <;> rfl
    have hends {u : State} (hstart : rest.startJob j = u) : ends u := fun k => by
      rw [State.chooseWork_job k hwork hflag hwaiting, hstart]
    refine ⟨fun hroom hbound => ?_, fun n hfull hsource => ?_, fun n l hfull hsource => ?_, fun c hfull hsource => ?_,
      fun n hbound hsource => ?_⟩
    · have hbegins (cursor : Nat) (hstart : rest.startJob j = rest.runJob j cursor) : begins cursor := fun hbus => by
        refine State.settle_job hbus hwork hflag hwaiting hstart Work.noConfusion rfl |>.trans ?_
        rw [State.runJob, hwidth, hleftOut, State.setWork]
      have hunbound := hunbound.trans hbound
      exact ⟨fun code force hjob => hbegins code (State.startJob_check (s := rest) hroom hunbound hjob),
        fun g hjob => hbegins g.first (State.startJob_search (s := rest) hroom hunbound hjob),
        fun hjob hbus => State.settle_job hbus hwork hflag hwaiting (State.startJob_audit (s := rest) hroom hunbound hjob)
          Work.noConfusion rfl⟩
    · exact hends (State.startJob_full_setCarrier hsource hfull)
    · refine hends ((State.startJob_full (s := rest) (by simp [Job.adds, hsource]) hfull).trans ?_)
      simp only [State.jobFailed, hsource]
      rfl
    · refine hends ((State.startJob_full (s := rest) (by simp [Job.adds, hsource]) hfull).trans ?_)
      simp only [State.jobFailed, hsource]
      rfl
    · refine hends ?_
      rw [State.startJob_unbound (by simp [Job.adds, hsource]) (hunbound.trans hbound)]
      simp only [State.jobFailed, hsource]
      rfl

end Sys2Proof.Machine
end

section
/-! SUPPORT on the outcome of a candidate test (R29, R33 to R35, R39): what a failed, a passed and an intermediate test of a running job do. -/

namespace Sys2Proof.Machine

/-! ## The verdict on a candidate -/

namespace Running

variable (r : Running) (reason : Reason)

/-- The candidate passes, or is forced inside the band (R33, R39). -/
def passes : Bool :=
  match r.job.work with
  | .check _ force => decide (reason = .none) || (force && decide (reason ≠ .band))
  | .search _ => decide (reason = .none)
  | .audit => false

/-- The test is the job's last (R34, R35). -/
def last : Bool :=
  r.passes reason || match r.job.work with
    | .check _ _ => true
    | .search g => decide (min g.size g.limit ≤ r.examined + 1)
    | .audit => false

/-- The reason a job hands on with its end: that of a CHECK. -/
def given : Option Reason :=
  match r.job.work with
  | .check _ _ => some reason
  | .search _ => none
  | .audit => none

/-- How a job whose last test failed ends (R29, R30). -/
def failure : JobFailure :=
  if r.aborted then .aborted
  else match r.job.work with
    | .check _ _ => .conflict
    | .search _ => .noChannel
    | .audit => .noChannel

end Running

section Verdict

variable {s : State} {r : Running} {reason : Reason}

/-- A test that is not the last moves the search on (R35). -/
theorem State.testCandidate_moves_on {g : Grid} (hreason : r.candidate.reason s.plan s.probe = reason) (hwork : r.job.work = .search g)
    (hlast : r.last reason = false) :
    s.testCandidate r = s.setWork (.job { r with cursor := g.next r.cursor, examined := r.examined + 1 }) := by
  simp only [Running.last, Running.passes, hwork, Bool.or_eq_false_iff] at hlast
  obtain ⟨hfails, hmore⟩ := hlast
  simp only [State.testCandidate, hwork, hreason, if_neg (of_decide_eq_false hfails), if_neg (of_decide_eq_false hmore)]

/-- A last test that fails, or that an ABORT overtook, ends the job (R29, R30). -/
theorem State.testCandidate_fails (hreason : r.candidate.reason s.plan s.probe = reason) (hlast : r.last reason = true)
    (hfails : r.passes reason = false ∨ r.aborted = true) :
    s.testCandidate r = (s.setWork .idle).jobFailed r.job r.failure (r.examined + 1) (r.given reason) := by
  simp only [Running.last, Running.passes, Running.failure, Running.given] at hlast hfails ⊢
  simp only [State.testCandidate, hreason]
  cases hwork : r.job.work with
  | audit => simp [hwork] at hlast
  | check code force =>
    by_cases haborted : r.aborted = true
    · simp [haborted]
    · simp only [hwork, haborted, Bool.false_eq_true, or_false, Bool.or_eq_false_iff, Bool.and_eq_false_iff, decide_eq_false_iff_not] at hfails
      obtain ⟨hnone, hunforced⟩ := hfails
      have hnot : ¬(reason = .none ∨ (force = true ∧ reason ≠ .band)) := by
        rintro (h | ⟨hforce, hband⟩)
        · exact hnone h
        · exact hunforced.elim (by simp [hforce]) (absurd hband)
      simp [haborted, hnot]
  | search g =>
    by_cases hnone : reason = .none
    · simp only [hwork, hnone, decide_true, Bool.true_eq_false, false_or] at hfails
      simp [hnone, hfails]
    · simp only [hwork, hnone, decide_false, Bool.false_or, decide_eq_true_eq] at hlast
      simp only [hnone, if_false, if_pos hlast]

/-- A PLACE whose candidate passes completes with the code (R38). -/
theorem State.testCandidate_places {n : Nat} {g : Grid} (hreason : r.candidate.reason s.plan s.probe = reason)
    (hpasses : r.passes reason = true) (haborted : r.aborted = false) (hwork : r.job.work = .search g) (hsource : r.job.source = .place n) :
    s.testCandidate r =
      (s.setWork .idle).complete n (okOrClamped r.job.clamped) (placeWords (some r.cursor) (r.examined + 1)) := by
  simp only [Running.passes, hwork] at hpasses
  simp [State.testCandidate, hreason, hwork, hsource, of_decide_eq_true hpasses, haborted]

/-- A job that adds or moves a carrier commits the candidate that passes (R29). -/
theorem State.testCandidate_commits (hreason : r.candidate.reason s.plan s.probe = reason) (hpasses : r.passes reason = true)
    (haborted : r.aborted = false) (hsource : ∀ n, r.job.source ≠ .place n) :
    s.testCandidate r = s.commitJob r r.cursor (r.examined + 1) (r.given reason) := by
  simp only [Running.passes] at hpasses
  simp only [State.testCandidate, hreason, Running.given]
  cases hwork : r.job.work with
  | audit => simp [hwork] at hpasses
  | check code force =>
    have hpass : reason = .none ∨ (force = true ∧ reason ≠ .band) := by simpa [hwork] using hpasses
    simp [haborted, hpass]
  | search g =>
    simp only [hwork] at hpasses
    simp only [of_decide_eq_true hpasses, haborted, if_true]
    cases hsrc : r.job.source with
    | place n => exact absurd hsrc (hsource n)
    | setCarrier _ _ => rfl
    | bind _ _ => rfl
    | move _ => rfl
    | audit _ => rfl

end Verdict

/-! ## The commit of a carrier (R4, R29) -/

/-- The plan as the commit of a running job writes it: the new entry, refresh-pending clear, and the closing refresh begun on it (R29). -/
def Plan.committed (p : Plan) (r : Running) (e : Nat) (new : PlanEntry) (reason : Option Reason) : Plan :=
  { p with
    entries := put p.entries e new, refreshPending := false
    work := .job { r with
      examined := r.examined + 1
      stage := .closing { entry := e, code := r.cursor, reason := reason } { p with entries := put p.entries e new }.snapshot } }

section Commit

variable {s : State} {r : Running} {e : Nat}

theorem State.closeJob_eq (s : State) (r : Running) (e : Nat) (reason : Option Reason) :
    s.closeJob r e r.cursor (r.examined + 1) reason =
      State.committed { s with plan := s.plan.committed r e (r.newEntry r.cursor (s.entry e)) reason } r.job e r.cursor (r.examined + 1)
        reason := rfl

/-- A SET_CARRIER that names no entry writes the lowest FREE one (R4, R39). -/
theorem State.commitJob_newCarrier {n : Nat} (reason : Option Reason) (hsource : r.job.source = .setCarrier n none)
    (hlowest : lowestFree s.plan.entries = some e) : s.commitJob r r.cursor (r.examined + 1) reason =
      { s with plan := s.plan.committed r e (r.newEntry r.cursor (s.entry e)) reason } := by
  simp only [State.commitJob, State.commitEntry, hsource, hlowest, State.closeJob_eq, State.committed]

/-- A SET_CARRIER that names an entry rewrites it, or completes at once where nothing changes (R39). -/
theorem State.commitJob_namedCarrier {n : Nat} (reason : Option Reason) (hsource : r.job.source = .setCarrier n (some e)) :
    s.commitJob r r.cursor (r.examined + 1) reason =
      if (s.entry e).code = r.cursor ∧ (s.entry e).width = r.width then
        (s.setWork .idle).complete n (okOrClamped r.job.clamped) (carrierWords (some e) reason)
      else { s with plan := s.plan.committed r e (r.newEntry r.cursor (s.entry e)) reason } := by
  simp only [State.commitJob, State.commitEntry, hsource, State.closeJob_eq, State.committed]

/-- A BIND_LINK's entry is handed to its binding (R78). -/
theorem State.commitJob_bind {n l : Nat} (reason : Option Reason) (hsource : r.job.source = .bind n l)
    (hlowest : lowestFree s.plan.entries = some e) : s.commitJob r r.cursor (r.examined + 1) reason =
      State.bindingCommit { s with plan := s.plan.committed r e (r.newEntry r.cursor (s.entry e)) reason } l e r.cursor (r.examined + 1)
        reason := by
  simp only [State.commitJob, State.commitEntry, hsource, hlowest, State.closeJob_eq, State.committed]

/-- A move's entry is handed to its context (R97). -/
theorem State.commitJob_move {c : Nat} (reason : Option Reason) (hsource : r.job.source = .move c)
    (hlowest : lowestFree s.plan.entries = some e) : s.commitJob r r.cursor (r.examined + 1) reason =
      State.moveCommit { s with plan := s.plan.committed r e (r.newEntry r.cursor (s.entry e)) reason } c e r.cursor (r.examined + 1)
        reason := by
  simp only [State.commitJob, State.commitEntry, hsource, hlowest, State.closeJob_eq, State.committed]

end Commit

end Sys2Proof.Machine
end

section
/-! SUPPORT on a move that leaves HELD (R98, R101, R102): what it does to its link, its context and the probe, and what it leaves. -/

namespace Sys2Proof.Machine

/-! ## The probe's automatic hold (R52) -/

@[simp] theorem Probe.beginPhase_autoHold (p : Probe) (k : PhaseKind) : (p.beginPhase k).autoHold = p.autoHold := by
  cases k <;> rfl

section Hold

variable (s : State)

@[simp] theorem State.holdEffect_autoHold : s.holdEffect.probe.autoHold = s.probe.autoHold := by
  unfold State.holdEffect
  split <;> rfl

@[simp] theorem State.holdEffect_links : s.holdEffect.links = s.links := by
  unfold State.holdEffect
  split <;> rfl

@[simp] theorem State.holdEffect_moves : s.holdEffect.moves = s.moves := by
  unfold State.holdEffect
  split <;> rfl

@[simp] theorem State.releaseEffect_autoHold : s.releaseEffect.probe.autoHold = s.probe.autoHold := by
  unfold State.releaseEffect
  split
  · exact Probe.beginPhase_autoHold _ _
  · rfl

@[simp] theorem State.releaseEffect_links : s.releaseEffect.links = s.links := by
  unfold State.releaseEffect
  split <;> rfl

@[simp] theorem State.releaseEffect_moves : s.releaseEffect.moves = s.moves := by
  unfold State.releaseEffect
  split <;> rfl

/-- The automatic hold stands as the contexts have it (R52). -/
theorem State.updateAutoHold_autoHold : s.updateAutoHold.probe.autoHold = s.retuning := by
  unfold State.updateAutoHold
  split
  · next heq => exact heq.symm
  · dsimp only
    split
    · exact State.holdEffect_autoHold _
    · exact State.releaseEffect_autoHold _

@[simp] theorem State.updateAutoHold_links : s.updateAutoHold.links = s.links := by
  unfold State.updateAutoHold
  split
  · rfl
  · dsimp only
    split
    · exact State.holdEffect_links _
    · exact State.releaseEffect_links _

@[simp] theorem State.updateAutoHold_moves : s.updateAutoHold.moves = s.moves := by
  unfold State.updateAutoHold
  split
  · rfl
  · dsimp only
    split
    · exact State.holdEffect_moves _
    · exact State.releaseEffect_moves _

/-- A context in a retuning phase makes the unit retune (R52). -/
theorem State.retuning_of_ctx {c : Nat} (hc : c < 4) (h : (s.ctx c).phase.retuning = true) : s.retuning = true :=
  List.any_eq_true.mpr ⟨c, List.mem_range.mpr hc, h⟩

end Hold

/-! ## A change of a link's supervision state (R90) -/

section Links

variable {s : State} {l m : Nat} (f : LinkRec → LinkRec)

theorem State.rewriteLink_link_same (hl : l < 32) : (s.rewriteLink l f).link l = { f (s.link l) with edition := (s.link l).edition + 1 } :=
  look_adjust_same _ _ _ hl

theorem State.rewriteLink_link_ne (h : l ≠ m) : (s.rewriteLink l f).link m = s.link m := look_adjust_ne _ _ _ _ h

theorem State.touchLink_link_same (hl : l < 32) : (s.touchLink l f).link l = f (s.link l) := look_adjust_same _ _ _ hl

theorem State.touchLink_link_ne (h : l ≠ m) : (s.touchLink l f).link m = s.link m := look_adjust_ne _ _ _ _ h

/-- What a change of supervision state is handed to leaves the links and the contexts alone. -/
theorem State.linkCore_links_moves :
    (s.linkCore l f).links = (s.rewriteLink l fun r => (f r).trimTimers).links ∧ (s.linkCore l f).moves = s.moves := by
  unfold State.linkCore
  dsimp only
  split
  · exact ⟨rfl, rfl⟩
  · have hstudio := (State.talkLinkChange_studioOnly (s.rewriteLink l fun r => (f r).trimTimers) l).trans
      (State.lampStateChange_studioOnly _ l)
    exact ⟨hstudio.links, hstudio.moves⟩

theorem State.linkCore_link_same (hl : l < 32) :
    (s.linkCore l f).link l = { (f (s.link l)).trimTimers with edition := (s.link l).edition + 1 } := by
  rw [State.link, (State.linkCore_links_moves f).1]
  exact State.rewriteLink_link_same _ hl

theorem State.linkCore_link_ne (h : l ≠ m) : (s.linkCore l f).link m = s.link m := by
  rw [State.link, (State.linkCore_links_moves f).1]
  exact State.rewriteLink_link_ne _ h

@[simp] theorem LinkRec.trimTimers_state (r : LinkRec) : r.trimTimers.state = r.state := by
  simp only [LinkRec.trimTimers, apply_ite LinkRec.state, ite_self]

@[simp] theorem LinkRec.trimTimers_targetEntry (r : LinkRec) : r.trimTimers.targetEntry = r.targetEntry := by
  simp only [LinkRec.trimTimers, apply_ite LinkRec.targetEntry, ite_self]

@[simp] theorem LinkRec.trimTimers_channel (r : LinkRec) : r.trimTimers.channel = r.channel := by
  simp only [LinkRec.trimTimers, apply_ite LinkRec.channel, ite_self]

end Links

/-! ## Entering TUNE_FAR (R102, R110) -/

/-- An adjustment that keeps a field of the record it adjusts keeps it at every place. -/
theorem look_adjust_field {α β : Type} {n : Nat} [Inhabited α] (g : α → β) (v : Vector α n) (i j : Nat) {f : α → α}
    (h : ∀ a, g (f a) = g a) : g (look (adjust v i f) j) = g (look v j) := by
  by_cases hij : i = j
  · subst hij
    by_cases hi : i < n
    · rw [look_adjust_same v i f hi, h]
    · simp [look, adjust, put, hi]
  · rw [look_adjust_ne v i j f hij]

section TuneFar

variable {s : State} {c d l m : Nat}

@[simp] theorem State.setRetuned_moves : (s.setRetuned l).moves = s.moves := by
  unfold State.setRetuned
  split <;> rfl

theorem State.setRetuned_link_state : ((s.setRetuned l).link m).state = (s.link m).state := by
  unfold State.setRetuned
  split
  · rfl
  · exact look_adjust_field LinkRec.state _ _ _ fun _ => rfl

theorem State.setRetuned_link_targetEntry : ((s.setRetuned l).link m).targetEntry = (s.link m).targetEntry := by
  unfold State.setRetuned
  split
  · rfl
  · exact look_adjust_field LinkRec.targetEntry _ _ _ fun _ => rfl

theorem State.setRetuned_link_ne (h : l ≠ m) : (s.setRetuned l).link m = s.link m := by
  unfold State.setRetuned
  split
  · rfl
  · exact State.rewriteLink_link_ne _ h

theorem State.enterTuneFar_moves : (s.enterTuneFar c).moves =
    (s.rewriteCtx c fun x => { x with phase := .tuneFar, offer := some (.tuneFar (s.ctxChannel c) x.targetCodeD) }).moves := by
  unfold State.enterTuneFar
  dsimp only
  split
  · exact State.setRetuned_moves
  · rfl

theorem State.enterTuneFar_ctx_same (hc : c < 4) : (s.enterTuneFar c).ctx c = { s.ctx c with
    phase := .tuneFar, offer := some (.tuneFar (s.ctxChannel c) (s.ctx c).targetCodeD), edition := (s.ctx c).edition + 1 } := by
  rw [State.ctx, State.enterTuneFar_moves]
  exact look_adjust_same _ _ _ hc

theorem State.enterTuneFar_ctx_ne (h : c ≠ d) : (s.enterTuneFar c).ctx d = s.ctx d := by
  rw [State.ctx, State.enterTuneFar_moves]
  exact look_adjust_ne _ _ _ _ h

theorem State.enterTuneFar_link_state : ((s.enterTuneFar c).link m).state = (s.link m).state := by
  unfold State.enterTuneFar
  dsimp only
  split
  · exact State.setRetuned_link_state
  · rfl

theorem State.enterTuneFar_link_targetEntry : ((s.enterTuneFar c).link m).targetEntry = (s.link m).targetEntry := by
  unfold State.enterTuneFar
  dsimp only
  split
  · exact State.setRetuned_link_targetEntry
  · rfl

theorem State.enterTuneFar_link_ne (h : (s.ctx c).link ≠ m) : (s.enterTuneFar c).link m = s.link m := by
  have hlink : ((s.rewriteCtx c fun x =>
      { x with phase := .tuneFar, offer := some (.tuneFar (s.ctxChannel c) x.targetCodeD) }).ctx c).link = (s.ctx c).link :=
    look_adjust_field Ctx.link _ _ _ fun _ => rfl
  unfold State.enterTuneFar
  dsimp only
  rw [hlink]
  split
  · exact State.setRetuned_link_ne h
  · rfl

end TuneFar

/-! ## Leaving HELD (R98, R101, R102) -/

/-- What a move that leaves HELD for phase p with the transaction o does to its link l and its context c, and what it leaves. -/
structure State.LeftHeld (s u : State) (c l : Nat) (p : Phase) (o : BusCmd) : Prop where
  state : (u.link l).state = .moving
  target : (u.link l).targetEntry = (s.link l).targetEntry
  ctx : u.ctx c = { s.ctx c with phase := p, holdTimer := none, offer := some o, edition := (s.ctx c).edition + 1 }
  links : ∀ m, l ≠ m → u.link m = s.link m
  ctxs : ∀ d, c ≠ d → u.ctx d = s.ctx d
  hold : u.probe.autoHold = true

section LeaveHeld

variable {s : State} {c : Nat}

/-- A CAMERA move that leaves HELD enters TUNE_FAR. -/
theorem State.leaveHeld_camera (hkind : (s.link (s.ctx c).link).kind = .camera) : s.leaveHeld c =
    (((s.linkCore (s.ctx c).link fun r => { r with state := .moving, retunedOnAir := false }).touchCtx c
      fun x => { x with holdTimer := none }).enterTuneFar c).updateAutoHold := by
  simp only [State.leaveHeld, hkind, decide_true, if_true]

/-- A MIC or IEM move that leaves HELD enters MUTING, an unmute under MUTE_PENDING dropped. -/
theorem State.leaveHeld_other (hkind : (s.link (s.ctx c).link).kind ≠ .camera) : s.leaveHeld c =
    let t := (s.dropUnmute (s.ctx c).link).linkCore (s.ctx c).link fun r =>
      { r with state := .moving, retunedOnAir := false, mutePending := false }
    (t.rewriteCtx c fun x =>
      { x with phase := .muting, holdTimer := none, offer := some (.muteLocal (t.ctxChannel c) true) }).updateAutoHold := by
  simp only [State.leaveHeld, decide_eq_false hkind, Bool.false_eq_true, if_false]

/-- The move controller's notice to the probe holds its sweep and leaves the rest (R52). -/
theorem State.LeftHeld.of_retuning {t : State} {l : Nat} {p : Phase} {o : BusCmd} (hc : c < 4) (hp : p.retuning = true)
    (hstate : (t.link l).state = .moving) (htarget : (t.link l).targetEntry = (s.link l).targetEntry)
    (hctx : t.ctx c = { s.ctx c with phase := p, holdTimer := none, offer := some o, edition := (s.ctx c).edition + 1 })
    (hlinks : ∀ m, l ≠ m → t.link m = s.link m) (hctxs : ∀ d, c ≠ d → t.ctx d = s.ctx d) :
    State.LeftHeld s t.updateAutoHold c l p o := by
  have hlink (m : Nat) : t.updateAutoHold.link m = t.link m := by rw [State.link, State.updateAutoHold_links, State.link]
  have hmoves (d : Nat) : t.updateAutoHold.ctx d = t.ctx d := by rw [State.ctx, State.updateAutoHold_moves, State.ctx]
  refine ⟨?_, ?_, ?_, ?_, ?_, ?_⟩
  · rw [hlink, hstate]
  · rw [hlink, htarget]
  · rw [hmoves, hctx]
  · intro m hm
    rw [hlink, hlinks m hm]
  · intro d hd
    rw [hmoves, hctxs d hd]
  · rw [State.updateAutoHold_autoHold]
    refine State.retuning_of_ctx t hc ?_
    rw [hctx]
    exact hp

theorem State.leaveHeld_leftHeld_camera (hc : c < 4) (hl : (s.ctx c).link < 32) (hkind : (s.link (s.ctx c).link).kind = .camera) :
    State.LeftHeld s (s.leaveHeld c) c (s.ctx c).link .tuneFar
      (.tuneFar (s.link (s.ctx c).link).channel (s.ctx c).targetCodeD) := by
  set l := (s.ctx c).link with hlink
  set t := s.linkCore l fun r => { r with state := .moving, retunedOnAir := false } with ht
  set t' := t.touchCtx c fun x => { x with holdTimer := none } with ht'
  have hsame : t.link l = _ := State.linkCore_link_same _ hl
  have hmoves : t.moves = s.moves := (State.linkCore_links_moves _).2
  have hctx : t'.ctx c = { s.ctx c with holdTimer := none } := by
    rw [State.ctx, ht', State.touchCtx, hmoves]
    exact look_adjust_same _ _ _ hc
  have hother (d : Nat) (hd : c ≠ d) : t'.ctx d = s.ctx d := by
    rw [State.ctx, ht', State.touchCtx, hmoves]
    exact look_adjust_ne _ _ _ _ hd
  have hchannel : t'.ctxChannel c = (s.link l).channel := by
    rw [State.ctxChannel, hctx]
    show (t.link l).channel = _
    rw [hsame]
    exact LinkRec.trimTimers_channel _
  rw [State.leaveHeld_camera hkind]
  refine .of_retuning hc rfl ?_ ?_ ?_ ?_ ?_
  · rw [State.enterTuneFar_link_state]
    show (t.link l).state = _
    rw [hsame]
    exact LinkRec.trimTimers_state _
  · rw [State.enterTuneFar_link_targetEntry]
    show (t.link l).targetEntry = _
    rw [hsame]
    exact LinkRec.trimTimers_targetEntry _
  · rw [State.enterTuneFar_ctx_same hc, hchannel, hctx]
    rfl
  · intro m hm
    rw [State.enterTuneFar_link_ne (by rwa [hctx])]
    exact State.linkCore_link_ne _ hm
  · intro d hd
    exact (State.enterTuneFar_ctx_ne hd).trans (hother d hd)

theorem State.leaveHeld_leftHeld_other (hc : c < 4) (hl : (s.ctx c).link < 32) (hkind : (s.link (s.ctx c).link).kind ≠ .camera) :
    State.LeftHeld s (s.leaveHeld c) c (s.ctx c).link .muting (.muteLocal (s.link (s.ctx c).link).channel true) := by
  set l := (s.ctx c).link with hlink
  have hdropped : (s.dropUnmute l).link l = { s.link l with offer := none } := State.touchLink_link_same _ hl
  rw [State.leaveHeld_other hkind]
  dsimp only
  set t := (s.dropUnmute l).linkCore l fun r => { r with state := .moving, retunedOnAir := false, mutePending := false } with ht
  have hsame : t.link l = _ := State.linkCore_link_same _ hl
  rw [hdropped] at hsame
  have hmoves : t.moves = s.moves := (State.linkCore_links_moves _).2
  have hctx : t.ctx c = s.ctx c := by rw [State.ctx, hmoves, State.ctx]
  have hchannel : t.ctxChannel c = (s.link l).channel := by
    rw [State.ctxChannel, hctx, ← hlink, hsame]
    exact LinkRec.trimTimers_channel _
  refine .of_retuning hc rfl ?_ ?_ ?_ ?_ ?_
  · show (t.link l).state = _
    rw [hsame]
    exact LinkRec.trimTimers_state _
  · show (t.link l).targetEntry = _
    rw [hsame]
    exact LinkRec.trimTimers_targetEntry _
  · rw [hchannel, State.ctx, State.rewriteCtx, hmoves]
    exact look_adjust_same _ _ _ hc
  · intro m hm
    show t.link m = _
    rw [ht, State.linkCore_link_ne _ hm]
    exact State.touchLink_link_ne _ hm
  · intro d hd
    rw [State.ctx, State.rewriteCtx, hmoves]
    exact look_adjust_ne _ _ _ _ hd

/-- A move leaves HELD for TUNE_FAR where its link is a CAMERA link, and for MUTING otherwise (R98, R101, R102). -/
theorem State.leaveHeld_leftHeld (hc : c < 4) (hl : (s.ctx c).link < 32) :
    ∃ p o, State.LeftHeld s (s.leaveHeld c) c (s.ctx c).link p o ∧
      ((s.link (s.ctx c).link).kind ≠ .camera → p = .muting ∧ o = .muteLocal (s.link (s.ctx c).link).channel true) ∧
      ((s.link (s.ctx c).link).kind = .camera →
        p = .tuneFar ∧ o = .tuneFar (s.link (s.ctx c).link).channel (s.ctx c).targetCodeD) := by
  by_cases hkind : (s.link (s.ctx c).link).kind = .camera
  · exact ⟨_, _, State.leaveHeld_leftHeld_camera hc hl hkind, fun h => absurd hkind h, fun _ => ⟨rfl, rfl⟩⟩
  · exact ⟨_, _, State.leaveHeld_leftHeld_other hc hl hkind, fun _ => ⟨rfl, rfl⟩, fun h => absurd h hkind⟩

end LeaveHeld

end Sys2Proof.Machine
end

section
/-! The proof on candidate tests (R29 to R35, R38, R39, R78, R97, R98). -/

namespace Sys2Proof.Machine

/-! ## A move's commit (R97 to R99) -/

/-- An event set twice is set. -/
theorem State.raise_raise (s : State) (e : Event) : (s.raise e).raise e = s.raise e := by
  simp only [State.raise, BitVec.or_assoc, BitVec.or_self]

/-- The state with context c's move in HELD on entry e: its link names the target and its hold timer runs (R97). -/
def State.inHeld (s : State) (c e code examined : Nat) (reason : Option Reason) : State :=
  { s with
    board := s.board.note [.link]
    links := { s.links with
      recs := put s.links.recs (s.ctx c).link
        { s.link (s.ctx c).link with targetEntry := some e, edition := (s.link (s.ctx c).link).edition + 1 }
      edition := s.links.edition + 1 }
    moves := { s.moves with
      ctxs := put s.moves.ctxs c { s.ctx c with
        phase := .held, targetEntry := some e, targetCode := some code, examined := examined, reason := reason.getD .none
        holdTimer := some { start := s.board.time, len := (s.link (s.ctx c).link).options.hold }, edition := (s.ctx c).edition + 1 }
      edition := s.moves.edition + 1 } }

section Held

variable {s : State} {c : Nat} (e code examined : Nat) (reason : Option Reason)

/-- A move's commit is its entry to HELD and the test of R98 there. -/
theorem State.moveCommit_eq : s.moveCommit c e code examined reason = (s.inHeld c e code examined reason).heldTest c := by
  have hraise : s.moveCommit c e code examined reason = State.heldTest (((s.inHeld c e code examined reason).raise .link)) c := rfl
  rw [hraise]
  congr 1
  exact State.raise_raise { s.inHeld c e code examined reason with board := s.board } .link

theorem State.inHeld_ctx_same (hc : c < 4) : (s.inHeld c e code examined reason).ctx c = { s.ctx c with
    phase := .held, targetEntry := some e, targetCode := some code, examined := examined, reason := reason.getD .none
    holdTimer := some { start := s.board.time, len := (s.link (s.ctx c).link).options.hold }, edition := (s.ctx c).edition + 1 } :=
  look_put_same _ _ _ hc

theorem State.inHeld_ctx_ne {d : Nat} (h : c ≠ d) : (s.inHeld c e code examined reason).ctx d = s.ctx d := look_put_ne _ _ _ _ h

theorem State.inHeld_link_same (hl : (s.ctx c).link < 32) : (s.inHeld c e code examined reason).link (s.ctx c).link =
    { s.link (s.ctx c).link with targetEntry := some e, edition := (s.link (s.ctx c).link).edition + 1 } :=
  look_put_same _ _ _ hl

theorem State.inHeld_link_ne {m : Nat} (h : (s.ctx c).link ≠ m) : (s.inHeld c e code examined reason).link m = s.link m :=
  look_put_ne _ _ _ _ h

/-- The conditions of R98 as the move finds them when it enters HELD. -/
theorem State.inHeld_releasable_iff (hc : c < 4) (hl : (s.ctx c).link < 32) :
    (s.inHeld c e code examined reason).releasable c = true ↔
      ((s.link (s.ctx c).link).applied ≠ .program ∨ (s.ctx c).urgent = true) ∧
      ((s.link (s.ctx c).link).state = .live ∨ (s.link (s.ctx c).link).state = .weak ∨ (s.link (s.ctx c).link).state = .mistuned) ∧
      ((s.ctx c).manualGo = true → (s.ctx c).go = true) := by
  simp only [State.releasable, State.inHeld_ctx_same e code examined reason hc, State.inHeld_link_same e code examined reason hl,
    true_and, decide_eq_true_iff]

end Held

/-- Settles O18: each test of the running job by its verdict, and what a failed and a passed last test hand to each kind of job. -/
theorem candidateTestsSettleSearchesAndChecks : Obligations.CandidateTestsSettleSearchesAndChecks := by
  intro s r hready hwork hstage reason count w tests passes last commits fails failure given givenWord done answers written fresh lowest
  have hreason : r.candidate.reason s.plan s.probe = reason := rfl
  have hgivenWord : resultOpt (given.map (·.ctorIdx)) = givenWord := by
    simp only [givenWord]
    cases given <;> rfl
  have hfailure : r.failure.result = failure := by
    simp only [Running.failure, failure, apply_ite JobFailure.result]
    cases r.job.work <;> rfl
  have hanswers {u : State} (h : s.testCandidate r = u) : answers u := by
    subst h
    exact exec_candidateTest_of_testing hready hwork hstage
  have hfailed (h : fails) : s.testCandidate r = done.jobFailed r.job r.failure count given := by
    obtain ⟨hend, hbad⟩ := h
    exact State.testCandidate_fails hreason hend hbad
  have hcommitted (h : commits) (hsource : ∀ n, r.job.source ≠ .place n) : s.testCandidate r = s.commitJob r r.cursor count given := by
    obtain ⟨hgood, haborted⟩ := h
    exact State.testCandidate_commits hreason hgood haborted hsource
  have hlowest {e : Nat} (h : lowest e) : lowestFree s.plan.entries = some e := by
    obtain ⟨he, hfree, hbelow⟩ := h
    exact lowestFree_eq_some he hfree hbelow
  refine ⟨fun g hsearch hmore => ?_, fun n g hsource hsearch => ⟨fun hgood => ?_, fun hbad => ?_⟩,
    fun n named e hsource => ⟨fun hbad => ?_, fun hgood hnamed hlow => ?_, fun hgood hnamed he => ?_⟩,
    fun n l e hsource => ⟨fun hbad => ?_, fun hgood hlow => ?_⟩, ?_⟩
  · exact hanswers (State.testCandidate_moves_on hreason hsearch hmore)
  · obtain ⟨hgood, haborted⟩ := hgood
    exact hanswers (State.testCandidate_places hreason hgood haborted hsearch hsource)
  · refine hanswers ((hfailed hbad).trans ?_)
    simp only [State.jobFailed, hsource, hfailure]
    rfl
  · refine hanswers ((hfailed hbad).trans ?_)
    simp only [State.jobFailed, hsource, hfailure, carrierWords, hgivenWord]
    rfl
  · subst hnamed
    refine hanswers ((hcommitted hgood (by simp [hsource])).trans ((State.commitJob_newCarrier given hsource (hlowest hlow)).trans ?_))
    simp only [Running.newEntry, hsource]
    rfl
  · subst hnamed
    refine hanswers ((hcommitted hgood (by simp [hsource])).trans ((State.commitJob_namedCarrier given hsource).trans ?_))
    simp only [Running.newEntry, hsource, carrierWords, hgivenWord]
    rfl
  · refine hanswers ((hfailed hbad).trans ?_)
    simp only [State.jobFailed, hsource, hfailure, State.bindingFailed, bindWords, hgivenWord]
    rfl
  · refine hanswers ((hcommitted hgood (by simp [hsource])).trans ((State.commitJob_bind given hsource (hlowest hlow)).trans ?_))
    simp only [Running.newEntry, hsource]
    rfl
  · intro c e hsource hc hl x k held may
    let base : State := { s with plan := written e (fresh e .reserved .link r.job.link) }
    have hheld : held = base.inHeld c e r.cursor count given := rfl
    have hctx : held.ctx c = _ := base.inHeld_ctx_same e r.cursor count given hc
    have hlink : held.link x.link = _ := base.inHeld_link_same e r.cursor count given hl
    have hreleasable : held.releasable c = true ↔ may := base.inHeld_releasable_iff e r.cursor count given hc hl
    have hentered (hgood : commits) (hlow : lowest e) : s.testCandidate r = held.heldTest c := by
      refine (hcommitted hgood (by simp [hsource])).trans ((State.commitJob_move given hsource (hlowest hlow)).trans ?_)
      rw [State.moveCommit_eq]
      simp only [Running.newEntry, hsource]
      rfl
    refine ⟨fun hbad => ?_, fun hgood hlow hstays => ?_, fun hgood hlow hmay => ?_⟩
    · refine hanswers ((hfailed hbad).trans ?_)
      have houtcome : r.failure.outcome = (if r.aborted then .aborted else match r.job.work with
          | .check _ _ => .conflict
          | .search _ => .noChannel
          | .audit => .noChannel) := by
        simp only [Running.failure, apply_ite JobFailure.outcome]
        cases r.job.work <;> rfl
      simp only [State.jobFailed, hsource, houtcome]
      rfl
    · exact hanswers ((hentered hgood hlow).trans (if_neg fun h => hstays (hreleasable.mp h)))
    · have hown : (held.ctx c).link = x.link := (congrArg Ctx.link hctx).trans rfl
      have hkind : (held.link x.link).kind = k.kind := (congrArg LinkRec.kind hlink).trans rfl
      have hchannel : (held.link x.link).channel = k.channel := (congrArg LinkRec.channel hlink).trans rfl
      have hcode : (held.ctx c).targetCodeD = r.cursor := by rw [hctx]; rfl
      obtain ⟨p, o, hleft, hother, hcamera⟩ := held.leaveHeld_leftHeld hc (hown ▸ hl)
      rw [hown] at hleft hother hcamera
      rw [hkind, hchannel] at hother
      rw [hkind, hchannel, hcode] at hcamera
      refine ⟨held.leaveHeld c, hanswers ((hentered hgood hlow).trans (if_pos (hreleasable.mpr hmay))), held.leaveHeld_plan c,
        hleft.state, ?_, ?_, ?_, ?_, ?_, hleft.hold, fun h => ?_, fun h => ?_, fun m _ hm => ?_, fun d _ hd => ?_⟩
      · rw [hleft.target, hlink]
      · rw [hleft.ctx, hctx]
      · rw [hleft.ctx, hctx]
      · rw [hleft.ctx, hctx]
      · rw [hleft.ctx]
      · obtain ⟨rfl, rfl⟩ := hother h
        rw [hleft.ctx]
        exact ⟨rfl, rfl⟩
      · obtain ⟨rfl, rfl⟩ := hcamera h
        rw [hleft.ctx]
        exact ⟨rfl, rfl⟩
      · rw [hleft.links m hm.symm]
        exact base.inHeld_link_ne e r.cursor count given hm.symm
      · rw [hleft.ctxs d hd.symm]
        exact base.inHeld_ctx_ne e r.cursor count given hd.symm

end Sys2Proof.Machine
end

section
/-! SUPPORT and the proof on SET_PROBE (R42, R67, R69). -/

namespace Sys2Proof.Machine

/-! ## Events noted one after another (R188) -/

theorem Board.note_note (b : Board) (es fs : List Event) : (b.note es).note fs = b.note (es ++ fs) := by
  simp only [Board.note, List.foldl_append]

/-- An event noted twice is set. -/
theorem Board.note_twice (b : Board) (e : Event) : (b.note [e]).note [e] = b.note [e] := by
  simp only [Board.note, List.foldl_cons, List.foldl_nil, BitVec.or_assoc, BitVec.or_self]

/-! ## The unit table (R67, R69) -/

/-- The event that a change of a unit's state sets: by the role it held (R67). -/
def UnitRec.event (u : UnitRec) : Event :=
  match u.role with
  | .link => .link
  | .probe => .probe

/-- The unit table rewritten and the events of its changes set (R67). -/
def State.changeUnits (s : State) (units : Vector UnitRec 16) (es : List Event) : State :=
  { s with bus := { s.bus with units := units }, board := s.board.note es }

/-- Changes of the unit table one after another are one change. -/
theorem State.changeUnits_changeUnits (s : State) (u v : Vector UnitRec 16) (es fs : List Event) :
    (s.changeUnits u es).changeUnits v fs = s.changeUnits v (es ++ fs) := by
  simp only [State.changeUnits, Board.note_note]

/-- A unit's record written: its event is set where its state changes (R67). -/
theorem State.setUnit_eq (s : State) (a : Nat) (u : UnitRec) :
    s.setUnit a u = s.changeUnits (put s.bus.units (a - 1) u) (if (s.unit a).state ≠ u.state then [(s.unit a).event] else []) := by
  by_cases h : u.state = (s.unit a).state
  · rw [if_neg (not_not_intro h.symm)]
    exact if_pos h
  · rw [if_pos (Ne.symm h)]
    exact if_neg h

/-- A unit that is named becomes UNKNOWN with its role if it is UNUSED, and stays as it is otherwise (R69). -/
theorem State.unitReferred_eq (s : State) (a : Nat) (role : Role) : s.unitReferred a role =
    if (s.unit a).state = .unused then
      s.changeUnits (put s.bus.units (a - 1) { UnitRec.unused with state := .unknown, role := role }) [(s.unit a).event]
    else s := by
  unfold State.unitReferred
  refine if_ctx_congr Iff.rfl (fun h => ?_) fun _ => rfl
  rw [State.setUnit_eq, if_pos (by rw [h]; exact UnitState.noConfusion)]

/-- A unit is claimed by a bound link or by a binding in progress (R42). -/
theorem State.unitClaimed_iff (s : State) (a : Nat) : s.unitClaimed a = true ↔
    (∃ l < 32, (s.link l).state ≠ .vacant ∧ (s.link l).unit = a) ∨ ∃ b ∈ s.links.bindings, b.unit = a := by
  simp [State.unitClaimed, State.linksOfUnit, placesWhere]

/-! ## SET_PROBE (R42, R69) -/

/-- The unit at address old, where there is one, becomes UNUSED; its event is set if it was not (R67, R69). -/
theorem State.released_eq (s : State) (old : Nat) : (if old = 0 then s else s.unitReleased old) =
    s.changeUnits (if old ≠ 0 then put s.bus.units (old - 1) UnitRec.unused else s.bus.units)
      (if old ≠ 0 ∧ (s.unit old).state ≠ .unused then [(s.unit old).event] else []) := by
  by_cases hold : old = 0
  · rw [if_pos hold, if_neg (not_not_intro hold), if_neg fun h => h.1 hold]
    rfl
  · rw [if_neg hold, if_pos hold, State.unitReleased, State.setUnit_eq]
    simp only [ne_eq, hold, not_false_eq_true, true_and]
    rfl

/-- The unit at address a, where there is one, is referred to after a change of the unit table (R69). -/
theorem State.referred_eq (s : State) (units : Vector UnitRec 16) (es : List Event) (a : Nat) (role : Role) :
    let u := look units (a - 1)
    let enters := decide (a ≠ 0 ∧ u.state = .unused)
    (if a = 0 then s.changeUnits units es else (s.changeUnits units es).unitReferred a role) =
      s.changeUnits (if enters then put units (a - 1) { UnitRec.unused with state := .unknown, role := role } else units)
        (es ++ if enters then [u.event] else []) := by
  intro u enters
  have hunit : (s.changeUnits units es).unit a = u := rfl
  by_cases h : a ≠ 0 ∧ u.state = .unused
  · have henters : enters = true := decide_eq_true h
    rw [if_neg h.1, State.unitReferred_eq, hunit, if_pos h.2, State.changeUnits_changeUnits, henters]
    rfl
  · have henters : enters = false := decide_eq_false h
    have hstays : (if a = 0 then s.changeUnits units es else (s.changeUnits units es).unitReferred a role) = s.changeUnits units es := by
      rw [State.unitReferred_eq, hunit]
      by_cases hzero : a = 0
      · exact if_pos hzero
      · rw [if_neg hzero, if_neg fun hunused => h ⟨hzero, hunused⟩]
    rw [hstays, henters]
    simp only [Bool.false_eq_true, if_false, List.append_nil]

/-- Naming unit a as the probe's: where the address changes, the old unit is released and the new one referred to (R69). -/
theorem State.nameProbeUnit_eq (s : State) (a : Nat) :
    let old := s.probe.unit
    let oldUnit := look s.bus.units (old - 1)
    let leaves := decide (a ≠ old ∧ old ≠ 0)
    let units1 := if leaves then put s.bus.units (old - 1) UnitRec.unused else s.bus.units
    let newUnit := look units1 (a - 1)
    let enters := decide (a ≠ old ∧ a ≠ 0 ∧ newUnit.state = .unused)
    s.nameProbeUnit a = State.setProbe
      (s.changeUnits (if enters then put units1 (a - 1) { UnitRec.unused with state := .unknown, role := .probe } else units1)
        ((if leaves ∧ oldUnit.state ≠ .unused then [oldUnit.event] else []) ++ if enters then [newUnit.event] else []))
      fun p => { p with unit := a } := by
  intro old
  by_cases hsame : a = old
  · simp only [State.nameProbeUnit]
    rw [if_pos hsame]
    simp only [hsame, ne_eq, not_true_eq_false, false_and, decide_false, Bool.false_eq_true, if_false, List.append_nil]
    rfl
  · simp only [State.nameProbeUnit]
    rw [if_neg hsame, State.released_eq, State.referred_eq]
    simp only [ne_eq, hsame, not_false_eq_true, true_and, decide_eq_true_eq]
    rfl

/-- The probe's unit and settings written, its event set if one of them changed (R42). -/
def State.writeProbeSettings (s : State) (a settle nref recal : Nat) : State :=
  let s1 := (s.nameProbeUnit a).setProbe fun p => { p with settle := settle, nref := nref, recal := recal }
  if s1.probe = s.probe then s1 else s1.raise .probe

/-- A write of the probe's settings keeps the take of the slot. -/
theorem State.writeProbeSettings_taken (s : State) (n a settle nref recal : Nat) :
    (s.dropAttention.setSlot n .taken).writeProbeSettings a settle nref recal =
      (s.writeProbeSettings a settle nref recal).dropAttention.setSlot n .taken := by
  have hname : (s.dropAttention.setSlot n .taken).nameProbeUnit a = (s.nameProbeUnit a).dropAttention.setSlot n .taken := by
    rw [State.nameProbeUnit_eq, State.nameProbeUnit_eq]
    rfl
  rw [State.writeProbeSettings, State.writeProbeSettings, hname, apply_ite fun t : State => t.dropAttention.setSlot n .taken]
  rfl

/-- SET_PROBE in a slot just taken: its checks, and the write of the clamped settings (R42). -/
theorem State.doSetProbe_taken (s : State) (n : Nat) :
    let a := s.param n 4
    (s.dropAttention.setSlot n .taken).doSetProbe n =
      if s.probe.state ≠ .idle then s.answered n .busy []
      else if 16 < a then s.answered n .badField []
      else if s.unitClaimed a then s.answered n .inUse []
      else (s.writeProbeSettings a (min 50 (s.param n 5)) (max 256 (min 65535 (s.param n 6))) (max 1 (min 1600 (s.param n 7)))).answered n
        (if 50 < s.param n 5 ∨ s.param n 6 < 256 ∨ s.param n 7 = 0 ∨ 1600 < s.param n 7 then .clamped else .ok) [] := by
  have hwritten (r : Result) : ((s.dropAttention.setSlot n .taken).writeProbeSettings (s.param n 4) (clampTo 0 50 (s.param n 5)).value
      (clampTo 256 65535 (s.param n 6)).value (clampTo 1 1600 (s.param n 7)).value).complete n r =
      (s.writeProbeSettings (s.param n 4) (min 50 (s.param n 5)) (max 256 (min 65535 (s.param n 6)))
        (max 1 (min 1600 (s.param n 7)))).answered n r [] := by
    simp (disch := decide) only [State.writeProbeSettings_taken, State.complete_taken, clampTo_eq, Nat.zero_max]
  have hresult : okOrClamped ((clampTo 0 50 (s.param n 5)).was || (clampTo 256 65535 (s.param n 6)).was || (clampTo 1 1600 (s.param n 7)).was) =
      if 50 < s.param n 5 ∨ s.param n 6 < 256 ∨ s.param n 7 = 0 ∨ 1600 < s.param n 7 then .clamped else .ok := by
    have hword : s.param n 6 < 65536 := (s.slotWord n 6).isLt
    simp (disch := decide) only [clampTo_eq, okOrClamped, Bool.or_eq_true, decide_eq_true_eq]
    exact if_congr (by omega) rfl rfl
  intro a
  rw [← hresult, ← hwritten]
  simp only [← State.complete_taken]
  exact if_congr decide_eq_true_iff rfl rfl

/-- Settles O22: the events of the unit table come first, and EVENTS.PROBE follows where the probe's record changed. -/
theorem setProbeNamesTheUnitAndItsSettings : Obligations.SetProbeNamesTheUnitAndItsSettings := by
  intro n s hn ht a old settings eventOf oldUnit leaves units1 newUnit enters units2 events
  have hwritten : s.writeProbeSettings a settings.settle settings.nref settings.recal =
      { s with probe := settings, bus := { s.bus with units := units2 }, board := s.board.note events } := by
    rw [State.writeProbeSettings, State.nameProbeUnit_eq]
    by_cases h : settings = s.probe
    · simp only [events, if_pos h, List.append_nil]
      exact if_pos h
    · simp only [events, if_neg h]
      rw [← Board.note_note]
      exact if_neg h
  refine ⟨s.unitClaimed_iff a, ?_⟩
  calc exec (.setProbe n) s
      = .next ((s.dropAttention.setSlot n .taken).doSetProbe n).settle := State.request_taken s n 8 _ hn ht
    _ = _ := by rw [State.doSetProbe_taken, ← hwritten]

end Sys2Proof.Machine
end

section
/-! The proofs on the requests that create, hold, resume and clear (R50, R53, R54, R56, R57). -/

namespace Sys2Proof.Machine

/-! ## SCAN (R50, R54) -/

/-- A value clamped to the bins. -/
theorem clampTo_bin (v : Nat) : clampTo 0 (Config.bins - 1) v = { value := min 1599 v, was := decide (1599 < v) } := by
  simp [clampTo_eq, Config.bins]

/-- A sweep begins HELD under the automatic hold, and otherwise in its first reference phase (R50, R54). -/
theorem Probe.startSweep_eq (p : Probe) (slot lo hi : Nat) (clamped : Bool) : p.startSweep slot lo hi clamped =
    { p with
      lo := lo, hi := hi, cur := lo, measured := 0, sinceRef := 0, hostHold := false, slot := some slot, lastBin := none, clamped := clamped
      phase := .reference, settleTimer := none, window := none, state := if p.autoHold then .held else .calibrating
      offer := if p.autoHold then none else some (.reference, 0) } := by
  cases h : p.autoHold with
  | false => simp only [Probe.startSweep, h]; rfl
  | true => simp only [Probe.startSweep, h]; rfl

/-- SCAN in a slot just taken (R50). -/
theorem State.doScan_taken (s : State) (n : Nat) :
    let refuse (r : Result) : State := s.answered n r [(6, 0#16), (7, 0xFFFF#16), (8, 0xFFFF#16), (9, 0xFFFF#16)]
    (s.dropAttention.setSlot n .taken).doScan n =
      if s.probe.fault then refuse .faulted
      else if s.probe.state ≠ .idle then refuse .busy
      else if s.probe.unit = 0 then refuse .notFound
      else if min 1599 (s.param n 5) < min 1599 (s.param n 4) then refuse .badField
      else { s with
        board := (s.board.holding n).note [.probe]
        probe := s.probe.startSweep n (min 1599 (s.param n 4)) (min 1599 (s.param n 5))
          (decide (1599 < s.param n 4 ∨ 1599 < s.param n 5)) } := by
  simp only [State.doScan, State.complete_taken, State.taken_param, clampTo_bin, Probe.sweeping, decide_eq_true_eq, Bool.decide_or]
  rfl

/-! ## HOLD_SCAN and RESUME_SCAN (R53, R54) -/

section Taken

variable (s : State) (n : Nat)

/-- The host hold keeps the take of the slot. -/
theorem State.setHostHold_taken :
    (s.dropAttention.setSlot n .taken).setHostHold = s.setHostHold.dropAttention.setSlot n .taken := by
  have heffect (t : State) : (t.dropAttention.setSlot n .taken).holdEffect = t.holdEffect.dropAttention.setSlot n .taken := by
    rw [State.holdEffect, State.holdEffect, apply_ite fun t : State => t.dropAttention.setSlot n .taken]
    rfl
  rw [State.setHostHold, State.setHostHold, apply_ite fun t : State => t.dropAttention.setSlot n .taken, ← heffect]
  rfl

/-- The release of the host hold keeps the take of the slot. -/
theorem State.clearHostHold_taken :
    (s.dropAttention.setSlot n .taken).clearHostHold = s.clearHostHold.dropAttention.setSlot n .taken := by
  have heffect (t : State) : (t.dropAttention.setSlot n .taken).releaseEffect = t.releaseEffect.dropAttention.setSlot n .taken := by
    rw [State.releaseEffect, State.releaseEffect, apply_ite fun t : State => t.dropAttention.setSlot n .taken]
    rfl
  rw [State.clearHostHold, State.clearHostHold, apply_ite fun t : State => t.dropAttention.setSlot n .taken, ← heffect]
  rfl

/-- HOLD_SCAN in a slot just taken (R53). -/
theorem State.doHoldScan_taken : (s.dropAttention.setSlot n .taken).doHoldScan n =
    if s.probe.state = .idle then s.answered n .notFound [] else s.setHostHold.answered n .ok [] := by
  simp only [State.doHoldScan, State.setHostHold_taken, State.complete_taken, Probe.sweeping, decide_eq_true_eq, ne_eq, ite_not]
  rfl

/-- RESUME_SCAN in a slot just taken (R53). -/
theorem State.doResumeScan_taken : (s.dropAttention.setSlot n .taken).doResumeScan n =
    if s.probe.state = .idle then s.answered n .notFound [] else s.clearHostHold.answered n .ok [] := by
  simp only [State.doResumeScan, State.clearHostHold_taken, State.complete_taken, Probe.sweeping, decide_eq_true_eq, ne_eq, ite_not]
  rfl

end Taken

/-- The host hold set while a sweep exists: its phase is discarded where it is not HELD already (R54). -/
theorem State.setHostHold_eq {s : State} (hsweep : s.probe.state ≠ .idle) : s.setHostHold =
    if s.probe.hostHold then s
    else if s.probe.state = .held then { s with probe := { s.probe with hostHold := true }, board := s.board.note [.probe] }
    else { s with
      probe := { s.probe with hostHold := true, state := .held, settleTimer := none, window := none, pulses := 0, ticks := 0, offer := none }
      bus := { s.bus with inFlight := s.bus.inFlight.map fun (t : Tx) => if t.orig = Originator.probe then { t with discarded := true } else t }
      board := s.board.note [.probe] } := by
  refine if_congr Iff.rfl rfl ?_
  by_cases hheld : s.probe.state = .held
  · rw [if_pos hheld]
    exact if_neg fun h => h.2 hheld
  · rw [if_neg hheld]
    exact if_pos ⟨decide_eq_true hsweep, hheld⟩

/-- A phase begins with no window and no timer, in the state and with the PROBE_TUNE of its kind (R45, R46). -/
theorem Probe.beginPhase_eq (p : Probe) (k : PhaseKind) : p.beginPhase k =
    { p with
      phase := k, settleTimer := none, window := none
      state := if k = .reference then .calibrating else .tuning
      offer := if k = .reference then some (.reference, 0) else some (.antenna, 8 * p.cur + 4) } := by
  cases k <;> rfl

/-- With a hold left, or in no HELD sweep, the release of a hold has no effect; otherwise the phase begins again (R54). -/
theorem State.releaseEffect_eq (s : State) : s.releaseEffect =
    if s.probe.state ≠ .held ∨ s.probe.holding = true then s else { s with probe := s.probe.beginPhase s.probe.phase } := by
  rw [State.releaseEffect, ← ite_not]
  exact if_congr (by simp [imp_iff_not_or]) rfl rfl

/-- The host hold cleared: a HELD sweep with no other hold begins its phase again (R54). -/
theorem State.clearHostHold_eq (s : State) : s.clearHostHold =
    if s.probe.hostHold = false then s
    else if s.probe.state ≠ .held ∨ s.probe.autoHold then
      { s with probe := { s.probe with hostHold := false }, board := s.board.note [.probe] }
    else { s with
      probe := { s.probe with
        hostHold := false, settleTimer := none, window := none
        state := if s.probe.phase = .reference then .calibrating else .tuning
        offer := if s.probe.phase = .reference then some (.reference, 0) else some (.antenna, 8 * s.probe.cur + 4) }
      board := s.board.note [.probe] } := by
  cases hhold : s.probe.hostHold with
  | false => exact if_neg (by rw [hhold]; decide)
  | true =>
    rw [State.clearHostHold, if_pos hhold, if_neg (by decide), State.releaseEffect_eq, Probe.beginPhase_eq]
    rfl

/-- Settles O23: each request by what it does in a slot just taken. -/
theorem scansAreCreatedHeldAndResumed : Obligations.ScansAreCreatedHeldAndResumed := by
  refine ⟨fun n s hn ht => ?_, fun n s hn => ⟨fun ht => ?_, fun ht => ?_⟩⟩
  · intro lo hi refuse
    calc exec (.scan n) s
        = .next ((s.dropAttention.setSlot n .taken).doScan n).settle := State.request_taken s n 9 _ hn ht
      _ = _ := by rw [State.doScan_taken, Probe.startSweep_eq]
  · calc exec (.holdScan n) s
        = .next ((s.dropAttention.setSlot n .taken).doHoldScan n).settle := State.request_taken s n 10 _ hn ht
      _ = _ := by
        rw [State.doHoldScan_taken]
        refine congrArg (Host.Outcome.next ∘ State.settle) (if_ctx_congr Iff.rfl (fun _ => rfl) fun hsweep => ?_)
        rw [State.setHostHold_eq hsweep, apply_ite (State.answered · n .ok []), apply_ite (State.answered · n .ok [])]
  · calc exec (.resumeScan n) s
        = .next ((s.dropAttention.setSlot n .taken).doResumeScan n).settle := State.request_taken s n 11 _ hn ht
      _ = _ := by
        rw [State.doResumeScan_taken, State.clearHostHold_eq, apply_ite (State.answered · n .ok []), apply_ite (State.answered · n .ok [])]

/-! ## CLEAR_PROBE_FAULT and CLEAR_MAP (R56, R57) -/

/-- CLEAR_PROBE_FAULT in a slot just taken (R56). -/
theorem State.doClearProbeFault_taken (s : State) (n : Nat) : (s.dropAttention.setSlot n .taken).doClearProbeFault n =
    if s.probe.fault then { s with probe := { s.probe with fault := false }, board := s.board.note [.probe] }.answered n .ok []
    else s.answered n .ok [] := by
  rw [State.doClearProbeFault, apply_ite (State.complete · n .ok)]
  exact if_congr Iff.rfl (State.complete_taken { s with probe := { s.probe with fault := false }, board := s.board.note [.probe] } n .ok [])
    (State.complete_taken s n .ok [])

/-- Both maps emptied: a rewrite of the occupancy region unless they are empty already (R57). -/
theorem State.clearMaps_eq (s : State) : s.clearMaps =
    if s.probe.levels = [] ∧ s.probe.ownMarks = [] then s
    else { s with probe := { s.probe with levels := [], ownMarks := [], edition := s.probe.edition + 1 }, board := s.board.note [.probe] } :=
  rfl

/-- CLEAR_MAP in a slot just taken (R57). -/
theorem State.doClearMap_taken (s : State) (n : Nat) : (s.dropAttention.setSlot n .taken).doClearMap n =
    if s.probe.state ≠ .idle then s.answered n .busy [] else s.clearMaps.answered n .ok [] := by
  have hmaps : (s.dropAttention.setSlot n .taken).clearMaps = s.clearMaps.dropAttention.setSlot n .taken := by
    rw [State.clearMaps, State.clearMaps, apply_ite fun t : State => t.dropAttention.setSlot n .taken]
    rfl
  rw [State.doClearMap, hmaps, State.complete_taken, State.complete_taken]
  exact if_congr decide_eq_true_iff rfl rfl

/-- A canonical table in which every key reads as unlisted is empty. -/
theorem Cells.eq_nil_of_get {α : Type} [DecidableEq α] {d : α} {m : Cells α} (hwf : Cells.wf d m = true) (h : ∀ k, Cells.get d m k = d) :
    m = [] := by
  cases m with
  | nil => rfl
  | cons e m =>
    obtain ⟨a, v⟩ := e
    obtain ⟨hlisted, -⟩ : v ≠ d ∧ Cells.wfFrom d (some a) m = true := by simpa [Cells.wf, Cells.wfFrom] using hwf
    exact absurd (by simpa [Cells.get] using h a) hlisted

/-- Settles O24: the maps are empty already exactly when every level and mark of them reads zero, their tables being canonical. -/
theorem clearProbeFaultAndClearMap : Obligations.ClearProbeFaultAndClearMap := by
  refine ⟨fun n s hn ht => ?_, fun n s hn ht htables => ?_⟩
  · calc exec (.clearProbeFault n) s
        = .next ((s.dropAttention.setSlot n .taken).doClearProbeFault n).settle := State.request_taken s n 12 _ hn ht
      _ = _ := by rw [State.doClearProbeFault_taken]
  · have hexec : exec (.clearMap n) s = .next ((s.dropAttention.setSlot n .taken).doClearMap n).settle := State.request_taken s n 13 _ hn ht
    obtain ⟨-, hlevels, hmarks, -⟩ := htables
    rw [hexec, State.doClearMap_taken]
    refine ⟨fun hsweep => by rw [if_pos hsweep], fun hidle => ?_⟩
    rw [if_neg (not_not_intro hidle), State.clearMaps_eq]
    by_cases hempty : s.probe.levels = [] ∧ s.probe.ownMarks = []
    · obtain ⟨hlevels, hmarks⟩ := hempty
      refine ⟨s.probe, ?_, fun b => ?_, rfl, ?_, fun _ => rfl⟩
      · rw [if_pos ⟨hlevels, hmarks⟩, if_pos rfl]
        rfl
      · rw [hlevels, hmarks]
        exact ⟨rfl, rfl⟩
      · rintro ⟨b, h⟩
        rw [hlevels, hmarks] at h
        exact absurd h (by simp [Cells.get])
    · refine ⟨{ s.probe with levels := [], ownMarks := [], edition := s.probe.edition + 1 }, ?_, fun _ => ⟨rfl, rfl⟩, rfl, fun _ => rfl,
        fun hzero => absurd ⟨?_, ?_⟩ hempty⟩
      · rw [if_neg hempty, if_neg (by simp)]
      · exact Cells.eq_nil_of_get hlevels fun b => (hzero b).1
      · exact Cells.eq_nil_of_get hmarks fun b => (hzero b).2

end Sys2Proof.Machine
end

section
/-! SUPPORT and the proofs on counting windows, calibration and samples (R43 to R48, R51, R55). -/

namespace Sys2Proof.Machine

/-! ## The events of a counting window (R43, R45, R46) -/

section Windows

variable {s : State} {w : Window} {tick : Nat}

/-- A pulse is taken once the part is initialised (R43, R189). -/
theorem exec_probePulse (hready : s.board.ready = true) : exec (.probePulse tick) s = .next (s.probePulse tick).settle :=
  congrArg Host.Outcome.next (if_pos hready)

/-- The end of the tick counter in a reference phase is taken once the part is initialised (R45, R189). -/
theorem exec_referenceTimeout (hready : s.board.ready = true) : exec .referenceTimeout s = .next s.referenceTimeout.settle :=
  congrArg Host.Outcome.next (if_pos hready)

/-- The end of a sample window is taken once the part is initialised (R46, R189). -/
theorem exec_sampleWindowEnd (hready : s.board.ready = true) : exec .sampleWindowEnd s = .next s.sampleWindowEnd.settle :=
  congrArg Host.Outcome.next (if_pos hready)

/-- The settle timer's expiry that is due opens a window (R45, R46). -/
theorem exec_settleExpiry {tm : Timer} (hready : s.board.ready = true) (htimer : s.probe.settleTimer = some tm)
    (hdue : tm.len ≤ (s.board.time - tm.start).toNat) : exec .settleExpiry s = .next s.settleExpiry := by
  have h : timerDue s.probe.settleTimer s.now = true := by rw [htimer]; exact decide_eq_true hdue
  exact congrArg Host.Outcome.next ((if_pos hready).trans (if_pos h))

/-- The settle timer's end in a reference phase opens its window, with the N_ref in force (R45). -/
theorem Probe.openWindow_reference {p : Probe} (hphase : p.phase = .reference) : p.openWindow =
    { p with settleTimer := none, pulses := 0, ticks := 0, window := some { phase := .reference, tref := p.cal.tref, nref := p.nref } } := by
  simp only [Probe.openWindow, hphase]

/-- The settle timer's end in a sample phase opens its window, with the N_ref of the calibration record (R46). -/
theorem Probe.openWindow_sample {p : Probe} (hphase : p.phase = .sample) : p.openWindow =
    { p with settleTimer := none, state := .sampling, pulses := 0, ticks := 0
             window := some { phase := .sample, tref := p.cal.tref, nref := p.cal.nrefUsed } } := by
  simp only [Probe.openWindow, hphase]

/-- A pulse with no window open counts nothing (R43). -/
theorem State.probePulse_closed (hwindow : s.probe.window = none) : s.probePulse tick = s := by
  simp only [State.probePulse, hwindow]

/-- A pulse in an open reference window: the counter's end, the N_ref-th pulse, or one more counted (R43 to R45). -/
theorem State.probePulse_reference (hwindow : s.probe.window = some w) (hphase : w.phase = .reference) : s.probePulse tick =
    if 1048575 ≤ max s.probe.ticks tick then s.referenceTooSlow
    else if w.nref ≤ s.probe.pulses + 1 then (s.setProbe fun p => p.countPulse (max s.probe.ticks tick)).referenceComplete (max s.probe.ticks tick)
    else s.setProbe fun p => p.countPulse (max s.probe.ticks tick) := by
  simp only [State.probePulse, hwindow, hphase]
  rfl

/-- A pulse in an open sample window: T_ref ticks have passed, the last pulse the counter can hold, or one more counted (R43, R46, R47). -/
theorem State.probePulse_sample (hwindow : s.probe.window = some w) (hphase : w.phase = .sample) : s.probePulse tick =
    if w.tref ≤ max s.probe.ticks tick then s.sampleTimeUp w
    else if 1048575 ≤ s.probe.pulses + 1 then (s.setProbe fun p => p.countPulse (max s.probe.ticks tick)).sampleComplete 255
    else s.setProbe fun p => p.countPulse (max s.probe.ticks tick) := by
  simp only [State.probePulse, hwindow, hphase]
  rfl

/-- The tick counter's end in an open reference window (R45). -/
theorem State.referenceTimeout_reference (hwindow : s.probe.window = some w) (hphase : w.phase = .reference) :
    s.referenceTimeout = s.referenceTooSlow := by
  simp only [State.referenceTimeout, hwindow, hphase]

/-- The end of an open sample window (R46). -/
theorem State.sampleWindowEnd_sample (hwindow : s.probe.window = some w) (hphase : w.phase = .sample) :
    s.sampleWindowEnd = s.sampleTimeUp w := by
  simp only [State.sampleWindowEnd, hwindow, hphase]

end Windows

/-! ## The ends of phases and of sweeps (R45, R48, R51, R55) -/

/-- The calibration record is written, and the sample of the current bin begins (R44, R45, R51). -/
theorem State.referenceComplete_eq (s : State) (t : Nat) : s.referenceComplete t =
    { s with
      probe := { s.probe with
        cal := { tref := max 1 t, nrefUsed := s.probe.nref, time := s.board.time }, sinceRef := 0, edition := s.probe.edition + 1
        state := .tuning, phase := .sample, settleTimer := none, window := none, offer := some (.antenna, 8 * s.probe.cur + 4) }
      board := s.board.note [.probe] } := rfl

/-- A sweep ends: the probe is IDLE, its transaction in flight reports to no sweep, and its slot is completed (R55, R66). -/
theorem State.endSweep_eq {s : State} {m : Nat} (r : Result) (fault : Bool) (hslot : s.probe.slot = some m) : s.endSweep r fault = State.complete
    { s with
      probe := { s.probe with
        state := .idle, hostHold := false, slot := none, fault := s.probe.fault || fault, settleTimer := none, window := none
        pulses := 0, ticks := 0, offer := none }
      bus := { s.bus with inFlight := s.bus.inFlight.map fun (t : Tx) => if t.orig = Originator.probe then { t with live := false } else t }
      board := s.board.note [.probe] }
    m r
    [(6, BitVec.ofNat 16 s.probe.measured), (7, resultOpt s.probe.lastBin), (8, BitVec.ofNat 16 s.probe.cal.tref),
     (9, BitVec.ofNat 16 (s.probe.cal.tref / 65536))] := by
  simp only [State.endSweep, hslot, result32_ofNat]
  rfl

/-- The probe with the sample of its current bin written (R48). -/
def Probe.sampled (p : Probe) (level : Nat) (own : Bool) : Probe :=
  { p with
    levels := p.levels.put 0 p.cur level, ownMarks := p.ownMarks.put false p.cur own, edition := p.edition + 1, lastBin := some p.cur
    measured := p.measured + 1, sinceRef := p.sinceRef + 1, window := none }

/-- The sample of the current bin is written; after the last bin the sweep ends, and before it the next bin's phase begins (R48, R51). -/
theorem State.sampleComplete_eq (s : State) (level : Nat) :
    let p := s.probe.sampled level (binCovered s.plan.entries none s.probe.cur)
    s.sampleComplete level =
      if s.probe.cur = s.probe.hi then
        State.endSweep { s with probe := p, board := s.board.note [.probe] } (okOrClamped s.probe.clamped) false
      else { s with
        probe := { p with cur := p.cur + 1 }.beginPhase (if s.probe.recal ≤ s.probe.sinceRef + 1 then .reference else .sample)
        board := s.board.note [.probe] } := rfl

/-- The phase of the next bin is a reference phase exactly when one is due. -/
theorem phase_eq_reference_iff (again : Bool) : (if again then PhaseKind.reference else .sample) = .reference ↔ again = true := by
  cases again <;> decide

/-- T_ref ticks have passed: the sample completes with the level of the count, rounded and clamped (R46, R47). -/
theorem State.sampleTimeUp_eq (s : State) (w : Window) : s.sampleTimeUp w =
    State.sampleComplete { s with probe := { s.probe with ticks := w.tref } } (max 1 (min 255 ((64 * s.probe.pulses + w.nref / 2) / w.nref))) := by
  rw [State.sampleTimeUp, levelOf, clamp_eq_max_min (by decide)]
  rfl

/-- Settles O25: each event of a window by its rule above; every way a sample completes by the one argument on the maps. -/
theorem countingWindowsAndCalibration : Obligations.CountingWindowsAndCalibration := by
  refine ⟨fun s tm hready htimer hdue => ?_, fun s tick hready => ?_, fun s w m hready hwindow hphase hslot => ?_,
    fun s w hready hwindow hphase htables => ?_⟩
  · rw [exec_settleExpiry hready htimer hdue, State.settleExpiry, State.setProbe]
    exact ⟨fun hphase => by rw [Probe.openWindow_reference hphase], fun hphase => by rw [Probe.openWindow_sample hphase]⟩
  · rw [exec_probePulse hready]
    refine ⟨fun hwindow => ?_, fun w hwindow hphase hlater hbelow => ?_⟩
    · rw [State.probePulse_closed hwindow]
    · rw [State.probePulse_reference hwindow hphase, max_eq_right hlater, if_neg (Nat.not_le.mpr hbelow)]
      refine ⟨fun hmore => ?_, fun hlast => ?_⟩
      · rw [if_neg (Nat.not_le.mpr hmore)]
        rfl
      · have htref : max 1 tick = if tick = 0 then 1 else tick := by split <;> omega
        rw [if_pos hlast, State.referenceComplete_eq, htref]
        rfl
  · have htimeout : exec .referenceTimeout s = .next s.referenceTooSlow.settle := by
      rw [exec_referenceTimeout hready, State.referenceTimeout_reference hwindow hphase]
    refine ⟨?_, fun tick hend => ?_⟩
    · rw [htimeout, State.referenceTooSlow, State.endSweep_eq _ _ hslot, Bool.or_true]
      rfl
    · rw [htimeout, exec_probePulse hready, State.probePulse_reference hwindow hphase, if_pos hend]
  · intro bin counted again completes
    obtain ⟨-, hlevels, hmarks, -⟩ := htables
    have hcompletes {i : Instr} {level pulses ticks : Nat}
        (hexec : exec i s = .next (State.sampleComplete { s with probe := { s.probe with pulses := pulses, ticks := ticks } } level).settle) :
        completes i level pulses ticks := by
      refine ⟨s.probe.levels.put 0 bin level, s.probe.ownMarks.put false bin (binCovered s.plan.entries none bin),
        ⟨Cells.get_put_same _ _ _ _ hlevels, fun b hb => Cells.get_put_ne _ _ _ _ _ hb.symm⟩, ?_,
        fun b hb => Cells.get_put_ne _ _ _ _ _ hb.symm, fun hmore => ?_, fun m hlast hslot => ?_⟩
      · rw [Cells.get_put_same _ _ _ _ hmarks, Candidate.binCovered_iff]
        simp only [ne_eq, reduceCtorEq, not_false_eq_true, true_and]
        rfl
      · have hkind : (if s.probe.recal ≤ s.probe.sinceRef + 1 then PhaseKind.reference else .sample) =
            if again then .reference else .sample := if_congr decide_eq_true_iff.symm rfl rfl
        rw [hexec, State.sampleComplete_eq, if_neg hmore, Probe.beginPhase_eq, hkind]
        simp only [phase_eq_reference_iff]
        rfl
      · rw [hexec, State.sampleComplete_eq, if_pos hlast, State.endSweep_eq (m := m), Board.note_twice, Bool.or_false]
        · rfl
        · exact hslot
    have hpulse (tick : Nat) := (exec_probePulse hready).trans
      (congrArg (Host.Outcome.next ∘ State.settle) (State.probePulse_sample (tick := tick) hwindow hphase))
    refine ⟨hcompletes ?_, fun tick hup => hcompletes ?_, fun tick hopen hmany => hcompletes ?_, fun tick hopen hfew => ?_⟩
    · rw [exec_sampleWindowEnd hready, State.sampleWindowEnd_sample hwindow hphase, State.sampleTimeUp_eq]
    · rw [hpulse, if_pos hup, State.sampleTimeUp_eq]
      rfl
    · rw [hpulse, if_neg (Nat.not_le.mpr hopen), if_pos hmany]
      rfl
    · rw [hpulse, if_neg (Nat.not_le.mpr hopen), if_neg (Nat.not_le.mpr hfew)]
      rfl

/-- Settles O26: the first clause on samples of CountingWindowsAndCalibration, before the last bin. -/
theorem sampleWindowEndWritesLevelAndOwnMark : Obligations.SampleWindowEndWritesLevelAndOwnMark := by
  intro s w hready hwindow hphase hbin htables
  obtain ⟨-, -, -, hsample⟩ := countingWindowsAndCalibration
  obtain ⟨⟨levels, marks, ⟨hlevel, hlevels⟩, hmark, hmarks, hnext, -⟩, -⟩ := hsample s w hready hwindow hphase htables
  refine ⟨_, hnext hbin, hlevel, hmark, fun b hb => ⟨hlevels b hb, hmarks b hb⟩, ?_⟩
  simp only [decide_eq_true_eq]

end Sys2Proof.Machine
end

section
/-! SUPPORT and the proofs on request frames, the arbiter and the poller (R58 to R60, R64, R65, R72, R198). -/

namespace Sys2Proof.Machine

/-! ## Request frames (R58 to R60, R198) -/

/-- A frame's bytes with its check byte have the exclusive OR 0 (R59). -/
theorem xorBytes_append_check (bs : List Byte) : xorBytes (bs ++ [xorBytes bs]) = 0 := by
  simp only [xorBytes, List.foldl_append, List.foldl_cons, List.foldl_nil, BitVec.xor_self]
  rfl

/-- Address, command, length and payload stand before the check byte (R59). -/
theorem BusCmd.frame_dropLast (cmd : BusCmd) (unit : Nat) :
    (cmd.frame unit).dropLast = BitVec.ofNat 8 unit :: cmd.byte :: BitVec.ofNat 8 cmd.payload.length :: cmd.payload :=
  List.dropLast_concat

/-- A two-byte field's low byte is the rest of the division by 256 (R198). -/
theorem twoBytes_eq (v : Nat) : twoBytes v = [BitVec.ofNat 8 (v / 256), BitVec.ofNat 8 (v % 256)] := by
  have hlow : BitVec.ofNat 8 v = BitVec.ofNat 8 (v % 256) := BitVec.eq_of_toNat_eq (by simp)
  rw [twoBytes, hlow]

/-- Bit k of the frame that is being sent, as its byte's bit is driven (R58). -/
theorem Bus.drives_of_sending {m : Bus} {tx : Tx} (hstate : m.state = .sending) (htx : m.inFlight = some tx) (k : Nat) :
    m.drives k = (tx.frame[k / 10]?).map fun x =>
      if k % 10 = 0 then false else if k % 10 = 9 then true else x.getLsbD (k % 10 - 1) := by
  simp only [Bus.drives, hstate, htx, getElem?_frameBits]
  cases tx.frame[k / 10]? with
  | none => rfl
  | some x => exact getElem?_sentBits x _ (Nat.mod_lt k (by decide))

/-- The line is released in every state but SENDING (R58). -/
theorem Bus.drives_of_released {m : Bus} (hstate : m.state ≠ .sending) (k : Nat) : m.drives k = none := by
  unfold Bus.drives
  cases h : m.state with
  | sending => exact absurd h hstate
  | idle | listening | draining => rfl

/-- Settles O27: each frame by its payload, and each driven bit by the byte it belongs to. -/
theorem requestFramesAsTheManualGivesThem : Obligations.RequestFramesAsTheManualGivesThem := by
  refine ⟨fun cmd unit => xorBytes_append_check _, fun u ch x _ _ _ _ => ?_, fun m k => ⟨?_, ?_⟩⟩
  · simp only [BusCmd.frame_dropLast, BusCmd.payload, twoBytes_eq]
    refine ⟨rfl, rfl, rfl, fun on => rfl, rfl, rfl, rfl⟩
  · exact fun tx hstate htx => Bus.drives_of_sending hstate htx k
  · exact fun hstate => Bus.drives_of_released hstate k

/-! ## The arbiter (R64, R65) -/

/-- The first place at which p holds. -/
theorem head?_placesWhere_eq_some {n i : Nat} {p : Nat → Bool} (hi : i < n) (hp : p i = true) (hbelow : ∀ j < i, p j = false) :
    (placesWhere n p).head? = some i := by
  rw [placesWhere, List.head?_filter, List.find?_range_eq_some]
  exact ⟨hp, List.mem_range.mpr hi, fun j hj => by simp [hbelow j hj]⟩

/-- No place at which p holds. -/
theorem head?_placesWhere_eq_none {n : Nat} {p : Nat → Bool} (h : ∀ i < n, p i = false) : (placesWhere n p).head? = none := by
  simpa [placesWhere] using h

/-- What waits of link l for its head tally (R65, R138). -/
theorem State.headWaits_iff (s : State) (l : Nat) : s.headWaits l = true ↔
    (s.link l).state ≠ .vacant ∧ (s.link l).kind = .camera ∧ (s.linkTally l).head = .waiting := decide_eq_true_iff

theorem State.headWaits_eq_false_iff (s : State) (l : Nat) : s.headWaits l = false ↔
    ¬((s.link l).state ≠ .vacant ∧ (s.link l).kind = .camera ∧ (s.linkTally l).head = .waiting) := decide_eq_false_iff_not

section Arbiter

variable {s : State}

theorem State.no_move_waits (hmove : ∀ c < 4, (s.ctx c).offer = none) : (placesWhere 4 fun c => (s.ctx c).offer.isSome).head? = none :=
  head?_placesWhere_eq_none fun c hc => by rw [hmove c hc]; rfl

/-- Waiting head tallies come first, the lowest link's before the others' (R64, R65). -/
theorem State.firstWaiter_head {l : Nat} (hl : l < 32) (hwaits : s.headWaits l = true) (hbelow : ∀ m < l, s.headWaits m = false) :
    s.firstWaiter = some (.head l, (s.link l).unit, .tally (s.link l).channel (s.link l).applied) := by
  simp only [State.firstWaiter, head?_placesWhere_eq_some hl hwaits hbelow]

variable (hhead : ∀ l < 32, s.headWaits l = false)
include hhead

/-- Then the move contexts', in ascending order (R64, R65). -/
theorem State.firstWaiter_ctx {c : Nat} {cmd : BusCmd} (hc : c < 4) (hoffer : (s.ctx c).offer = some cmd)
    (hbelow : ∀ d < c, (s.ctx d).offer = none) : s.firstWaiter = some (.ctx c, (s.link (s.ctx c).link).unit, cmd) := by
  have hfirst : (placesWhere 4 fun c => (s.ctx c).offer.isSome).head? = some c :=
    head?_placesWhere_eq_some hc (by rw [hoffer]; rfl) fun d hd => by rw [hbelow d hd]; rfl
  simp only [State.firstWaiter, head?_placesWhere_eq_none hhead, hfirst, hoffer, Option.getD_some]

variable (hmove : ∀ c < 4, (s.ctx c).offer = none)
include hmove

/-- Then the link supervisor's, in ascending link index (R64, R65). -/
theorem State.firstWaiter_link {l : Nat} {cmd : BusCmd} (hl : l < 32) (hoffer : (s.link l).offer = some cmd)
    (hbelow : ∀ m < l, (s.link m).offer = none) : s.firstWaiter = some (.link l, (s.link l).unit, cmd) := by
  have hfirst : (placesWhere 32 fun l => (s.link l).offer.isSome).head? = some l :=
    head?_placesWhere_eq_some hl (by rw [hoffer]; rfl) fun m hm => by rw [hbelow m hm]; rfl
  simp only [State.firstWaiter, head?_placesWhere_eq_none hhead, State.no_move_waits hmove, hfirst, hoffer, Option.getD_some]

/-- Then the probe's, and the poller's last (R64, R65). -/
theorem State.firstWaiter_rest (hlink : ∀ l < 32, (s.link l).offer = none) : s.firstWaiter = match s.probe.offer, s.bus.pollOffer with
    | some (src, code), _ => some (.probe, s.probe.unit, .probeTune src code)
    | none, some a => some (.poller, a, .query)
    | none, none => none := by
  have hnone : (placesWhere 32 fun l => (s.link l).offer.isSome).head? = none :=
    head?_placesWhere_eq_none fun l hl => by rw [hlink l hl]; rfl
  simp only [State.firstWaiter, head?_placesWhere_eq_none hhead, State.no_move_waits hmove, hnone] <;> rfl

end Arbiter

/-- An engine at work, or with nothing to do, leaves the end of a step to the arbiter (R27, R64). -/
theorem State.settle_of_engine_still {s : State} (h : s.plan.work ≠ .idle ∨ (s.plan.refreshPending = false ∧ s.plan.waiting = [])) :
    s.settle = s.arbitrate := by
  by_cases hwork : s.plan.work = .idle
  · obtain ⟨hflag, hwaiting⟩ := h.resolve_left (not_not_intro hwork)
    rw [State.settle, State.chooseWork_of_nothing _ hwork hflag hwaiting]
  · rw [State.settle, State.chooseWork_of_working _ hwork]

/-- A free line is granted to the first waiter (R63, R64). -/
theorem State.arbitrate_grants {s : State} {o : Originator} {unit : Nat} {cmd : BusCmd} (hstate : s.bus.state = .idle)
    (hfirst : s.firstWaiter = some (o, unit, cmd)) : s.arbitrate = (s.leaveWaiting o).grant o unit cmd := by
  simp only [State.arbitrate, hstate, hfirst, if_true]

/-- Settles O28: the waiters in the arbiter's order, and the grant at the end of a step with no work for the engine. -/
theorem arbiterServesByKindThenIndex : Obligations.ArbiterServesByKindThenIndex := by
  intro s head noHead noMove noLink
  have hnoHead (h : noHead) : ∀ l < 32, s.headWaits l = false := fun l hl => (s.headWaits_eq_false_iff l).mpr (h l hl)
  refine ⟨fun l hl hwaits hbelow => ?_, fun c hc cmd hhead hoffer hbelow => ?_, fun l hl cmd hhead hmove hoffer hbelow => ?_,
    fun hhead hmove hlink => ?_, fun o unit cmd hidle hstill hfirst => ?_⟩
  · exact State.firstWaiter_head hl ((s.headWaits_iff l).mpr hwaits) fun m hm => (s.headWaits_eq_false_iff m).mpr (hbelow m hm)
  · exact State.firstWaiter_ctx (hnoHead hhead) hc hoffer hbelow
  · exact State.firstWaiter_link (hnoHead hhead) hmove hl hoffer hbelow
  · exact State.firstWaiter_rest (hnoHead hhead) hmove hlink
  · rw [State.settle_of_engine_still hstill, State.arbitrate_grants hidle hfirst]
    cases o <;> exact ⟨rfl, rfl, rfl, rfl, rfl, rfl, rfl, rfl⟩

/-! ## The poller (R72) -/

/-- Unit a may be polled: it is not UNUSED and its role is LINK (R72). -/
def State.Pollable (s : State) (a : Nat) : Prop := 1 ≤ a ∧ a ≤ 16 ∧ (s.unit a).state ≠ .unused ∧ (s.unit a).role = .link

/-- The addresses of the units that may be polled, rising (R72). -/
def State.pollables (s : State) : List Nat := (placesWhere 16 fun i => (s.unit (i + 1)).eligible).map (· + 1)

theorem State.mem_pollables (s : State) (a : Nat) : a ∈ s.pollables ↔ s.Pollable a := by
  simp only [State.pollables, State.Pollable, placesWhere, UnitRec.eligible, List.mem_map, List.mem_filter, List.mem_range, decide_eq_true_eq]
  constructor
  · rintro ⟨i, ⟨hi, hunit⟩, rfl⟩
    exact ⟨by omega, by omega, hunit⟩
  · rintro ⟨hlo, hhi, hunit⟩
    exact ⟨a - 1, ⟨by omega, by rwa [Nat.sub_add_cancel hlo]⟩, Nat.sub_add_cancel hlo⟩

theorem State.pollables_rising (s : State) : s.pollables.Pairwise (· < ·) :=
  List.Pairwise.map _ (fun _ _ h => Nat.add_lt_add_right h 1) (List.pairwise_lt_range.filter _)

/-- In a rising list, the least member with a property is the first found. -/
theorem find?_eq_some_of_least {l : List Nat} (hl : l.Pairwise (· < ·)) {p : Nat → Bool} {a : Nat} (ha : a ∈ l) (hp : p a = true)
    (hleast : ∀ b ∈ l, p b = true → a ≤ b) : l.find? p = some a := by
  induction hl with
  | nil => simp at ha
  | @cons b l hb _ ih =>
    by_cases hpb : p b = true
    · have hab := hleast b List.mem_cons_self hpb
      obtain rfl | hmem := List.mem_cons.mp ha
      · exact List.find?_cons_of_pos hpb
      · exact absurd (hb a hmem) (by omega)
    · have hmem : a ∈ l := (List.mem_cons.mp ha).resolve_left (by rintro rfl; exact hpb hp)
      rw [List.find?_cons_of_neg hpb]
      exact ih hmem fun c hc => hleast c (List.mem_cons_of_mem b hc)

section Poller

variable {s : State} {a : Nat}

/-- The poller asks unit a next: its QUERY waits for the arbiter (R72). -/
theorem State.pollChoose_of_next (h : s.nextPolled = some a) :
    s.pollChoose = { s with bus := { s.bus with poll := .asking, cursor := a, gapTimer := none, pollOffer := some a } } := by
  simp only [State.pollChoose, h]

/-- The lowest pollable unit above the cursor is the next (R72). -/
theorem State.pollChoose_above (ha : s.Pollable a) (habove : s.bus.cursor < a) (hleast : ∀ b, s.Pollable b → s.bus.cursor < b → a ≤ b) :
    s.pollChoose = { s with bus := { s.bus with poll := .asking, cursor := a, gapTimer := none, pollOffer := some a } } := by
  have hfound : s.pollables.find? (fun a => decide (s.bus.cursor < a)) = some a :=
    find?_eq_some_of_least s.pollables_rising ((s.mem_pollables a).mpr ha) (decide_eq_true habove)
      fun b hb hcursor => hleast b ((s.mem_pollables b).mp hb) (of_decide_eq_true hcursor)
  refine State.pollChoose_of_next ?_
  rw [State.pollables] at hfound
  simp only [State.nextPolled, hfound]

/-- With none above the cursor, the lowest of all is the next (R72). -/
theorem State.pollChoose_wraps (ha : s.Pollable a) (hleast : ∀ b, s.Pollable b → a ≤ b) (hnone : ∀ b, s.Pollable b → b ≤ s.bus.cursor) :
    s.pollChoose = { s with bus := { s.bus with poll := .asking, cursor := a, gapTimer := none, pollOffer := some a } } := by
  have habove : s.pollables.find? (fun a => decide (s.bus.cursor < a)) = none :=
    List.find?_eq_none.mpr fun b hb => by simpa using hnone b ((s.mem_pollables b).mp hb)
  have hfirst : s.pollables.head? = some a := by
    rw [show s.pollables.head? = s.pollables.find? fun _ => true by cases s.pollables <;> rfl]
    exact find?_eq_some_of_least s.pollables_rising ((s.mem_pollables a).mpr ha) rfl fun b hb _ => hleast b ((s.mem_pollables b).mp hb)
  refine State.pollChoose_of_next ?_
  rw [State.pollables] at habove hfirst
  simp only [State.nextPolled, habove, hfirst]

/-- With no pollable unit the poller is IDLE (R72). -/
theorem State.pollChoose_none (hnone : ∀ b, ¬s.Pollable b) :
    s.pollChoose = { s with bus := { s.bus with poll := .idle, gapTimer := none, pollOffer := none } } := by
  have hempty : s.pollables = [] := List.eq_nil_iff_forall_not_mem.mpr fun b hb => hnone b ((s.mem_pollables b).mp hb)
  rw [State.pollables] at hempty
  simp only [State.pollChoose, State.nextPolled, hempty, List.find?_nil, List.head?_nil]

/-- The poll gap's end is taken when its timer is due (R72, R189). -/
theorem exec_pollGapExpiry {tm : Timer} (hready : s.board.ready = true) (htimer : s.bus.gapTimer = some tm)
    (hdue : tm.len ≤ (s.board.time - tm.start).toNat) : exec .pollGapExpiry s = .next s.pollChoose.settle := by
  have h : timerDue s.bus.gapTimer s.now = true := by rw [htimer]; exact decide_eq_true hdue
  exact congrArg Host.Outcome.next ((if_pos hready).trans (if_pos h))

end Poller

/-- Settles O31: the poller's choice at the gap's end. -/
theorem pollGapExpiryChoosesTheNextUnit : Obligations.PollGapExpiryChoosesTheNextUnit := by
  intro s tm hready htimer hdue eligible asks
  refine ⟨fun a ha habove hleast => ?_, fun a ha hleast hnone => ?_, fun hnone => ?_⟩
  · exact (exec_pollGapExpiry hready htimer hdue).trans (by rw [State.pollChoose_above ha habove hleast])
  · exact (exec_pollGapExpiry hready htimer hdue).trans (by rw [State.pollChoose_wraps ha hleast hnone])
  · exact (exec_pollGapExpiry hready htimer hdue).trans (by rw [State.pollChoose_none hnone])

end Sys2Proof.Machine
end

section
/-! SUPPORT and the proof on the commit of a binding and its tunes (R69, R72, R78, R79, R128, R138, R170, R171). -/

namespace Sys2Proof.Machine

/-! ## The image behind a written point (R176, R177) -/

@[simp] theorem Matrix.take_image (m : Matrix) : m.take.image = m.image := by
  unfold Matrix.take
  split
  · dsimp only
    split <;> rfl
  · rfl
  · rfl
  · rfl

/-- The queue takes a change as it stands in the image (R177). -/
@[simp] theorem Matrix.enqueue_image (m : Matrix) (p v : Nat) : (m.enqueue p v).image = m.image := by
  unfold Matrix.enqueue
  split
  · rfl
  · split
    · exact Matrix.take_image _
    · rfl

/-- The matrix line after a write of v to point p (R176). -/
def Matrix.written (m : Matrix) (p v : Nat) : Matrix :=
  if m.image.get Config.mute p = v then m else { m with image := m.image.put Config.mute p v }.enqueue p v

theorem State.writePoint_matrix (s : State) (p v : Nat) : (s.writePoint p v).matrix = s.matrix.written p v := by
  unfold State.writePoint
  refine (apply_ite State.matrix _ _ _).trans (if_congr Iff.rfl rfl ?_)
  dsimp only
  split <;> rfl

/-- A write touches the matrix line and notes events (R176, R177). -/
theorem State.writePoint_notes (s : State) (p v : Nat) :
    ∃ es, s.writePoint p v = { s with matrix := s.matrix.written p v, board := s.board.note es } := by
  rw [← State.writePoint_matrix]
  unfold State.writePoint
  split
  · exact ⟨[], rfl⟩
  · dsimp only
    split
    · exact ⟨[.matrix], rfl⟩
    · exact ⟨[], rfl⟩

/-- A written point holds its value, every other its own (R176). -/
theorem State.writePoint_imageAt {s : State} (himage : Cells.wf Config.mute s.matrix.image = true) (p v q : Nat) :
    (s.writePoint p v).imageAt q = if q = p then v else s.imageAt q := by
  rw [State.imageAt, State.writePoint_matrix, Matrix.written]
  by_cases hsame : s.matrix.image.get Config.mute p = v
  · rw [if_pos hsame]
    split
    · next h => rw [h, hsame]
    · rfl
  · rw [if_neg hsame, Matrix.enqueue_image]
    split
    · next h => rw [h, Cells.get_put_same _ _ _ _ himage]
    · next h => exact Cells.get_put_ne _ _ _ _ _ (Ne.symm h)

/-! ## What a binding hands on at its commit -/

section Handed

variable (s : State) (l : Nat)

/-- The poller's choice is the bus's own (R72). -/
theorem State.pollChoose_bus : s.pollChoose = { s with bus := s.pollChoose.bus } := by
  unfold State.pollChoose
  split <;> rfl

@[simp] theorem State.pollChoose_units : s.pollChoose.bus.units = s.bus.units := by
  unfold State.pollChoose
  split <;> rfl

/-- The poller's wake is its choice, made only where it is IDLE (R72). -/
theorem State.pollWake_of_idle (h : s.bus.poll = .idle) : s.pollWake = s.pollChoose := if_pos h

theorem State.pollWake_of_busy (h : s.bus.poll ≠ .idle) : s.pollWake = s := if_neg h

@[simp] theorem State.pollWake_units : s.pollWake.bus.units = s.bus.units := by
  by_cases h : s.bus.poll = .idle
  · rw [s.pollWake_of_idle h, s.pollChoose_units]
  · rw [s.pollWake_of_busy h]

/-- A woken poller's choice, read off its bus (R72). -/
theorem State.pollWake_choice {s : State} {bus : Bus} (hbus : s.bus = bus) :
    let eligible (a : Nat) : Prop := 1 ≤ a ∧ a ≤ 16 ∧ (look bus.units (a - 1)).state ≠ .unused ∧ (look bus.units (a - 1)).role = .link
    let asks (a : Nat) : Prop := s.pollWake.bus = { bus with poll := .asking, cursor := a, gapTimer := none, pollOffer := some a }
    (bus.poll ≠ .idle → s.pollWake.bus = bus) ∧
    (bus.poll = .idle → ∀ a, eligible a → bus.cursor < a → (∀ x, eligible x → bus.cursor < x → a ≤ x) → asks a) ∧
    (bus.poll = .idle → ∀ a, eligible a → (∀ x, eligible x → a ≤ x) → (∀ x, eligible x → x ≤ bus.cursor) → asks a) ∧
    (bus.poll = .idle → (∀ a, ¬eligible a) → s.pollWake.bus = { bus with poll := .idle, gapTimer := none, pollOffer := none }) := by
  subst hbus
  refine ⟨fun hbusy => ?_, fun hidle a ha habove hleast => ?_, fun hidle a ha hleast hlast => ?_, fun hidle hnone => ?_⟩
  · rw [s.pollWake_of_busy hbusy]
  · rw [s.pollWake_of_idle hidle, State.pollChoose_above ha habove hleast]
  · rw [s.pollWake_of_idle hidle, State.pollChoose_wraps ha hleast hlast]
  · rw [s.pollWake_of_idle hidle, State.pollChoose_none hnone]

theorem State.pollWake_bus : s.pollWake = { s with bus := s.pollWake.bus } := by
  unfold State.pollWake
  split
  · exact s.pollChoose_bus
  · rfl

/-- Link l's record rewritten as r (R74). -/
def State.withRecord (r : LinkRec) : State :=
  { s with
    links := { s.links with recs := put s.links.recs l { r with edition := r.edition + 1 }, edition := s.links.edition + 1 }
    board := s.board.note [.link] }

theorem State.rewriteLink_eq (f : LinkRec → LinkRec) :
    s.rewriteLink l f = s.withRecord l { f (s.link l) with edition := (s.link l).edition } := rfl

/-- Link l's head-tally state put to h (R138). -/
def State.withHead (h : Head) : State :=
  { s with tally := { s.tally with links := put s.tally.links l { s.linkTally l with head := h } } }

/-- A head-tally state that keeps the flag HEAD_TALLY_PENDING right (R138). -/
theorem State.setHead_kept {h : Head} (hflag : (s.link l).headPending = decide (h ≠ .idle)) : s.setHead l h = s.withHead l h :=
  if_pos hflag

/-- A head-tally state that changes the flag HEAD_TALLY_PENDING, a rewrite of the link record (R138). -/
theorem State.setHead_changed {h : Head} (hflag : (s.link l).headPending ≠ decide (h ≠ .idle)) :
    s.setHead l h = (s.withHead l h).withRecord l { s.link l with headPending := decide (h ≠ .idle) } :=
  if_neg hflag

/-- What the resolver holds for a link as it is bound, with its source list and head-tally state (R128). -/
def State.withResolved (sources : List (Nat × Nat)) (h : Head) : State :=
  let held : LinkTally := { override := .none, pending := s.pendingFor .none sources, head := h }
  { s with tally := { s.tally with links := put s.tally.links l held } }

theorem State.resolved_eq {l : Nat} (hl : l < 32) :
    (s.setLinkTally l fun _ => LinkTally.vacant).recomputePending l = s.withResolved l (s.link l).sources .idle := by
  simp only [State.recomputePending, State.setLinkTally, adjust, put_put, look_put_same _ _ _ hl]
  rfl

/-- The tally resolver at the binding of a MIC or IEM link (R128). -/
theorem State.tallyBind_other {l : Nat} (hl : l < 32) (hkind : (s.link l).kind ≠ .camera) :
    s.tallyBind l = s.withResolved l (s.link l).sources .idle := by
  rw [State.tallyBind, s.resolved_eq hl]
  exact if_neg hkind

/-- The tally resolver at the binding of a CAMERA link, whose record is rewritten for HEAD_TALLY_PENDING (R128, R138). -/
theorem State.tallyBind_camera {l : Nat} (hl : l < 32) (hkind : (s.link l).kind = .camera) (hpending : (s.link l).headPending = false) :
    s.tallyBind l = (s.withResolved l (s.link l).sources .waiting).withRecord l { s.link l with headPending := true } := by
  have hchanges : ((s.withResolved l (s.link l).sources .idle).link l).headPending ≠ decide (Head.waiting ≠ .idle) := by
    show (s.link l).headPending ≠ _
    rw [hpending]
    decide
  rw [State.tallyBind, s.resolved_eq hl]
  refine (if_pos hkind).trans ((State.setHead_changed _ l hchanges).trans ?_)
  simp only [State.withHead, State.linkTally, State.withResolved, put_put, look_put_same _ _ _ hl]
  rfl

/-- The programme crosspoint of an output (R170). -/
theorem pointOf_programmeInput (o : Nat) (studio : Studio) :
    pointOf o (programmeInput studio) = 18 * o + if studio = .a then 16 else 17 := by
  cases studio <;> rfl

/-- The duck ramp at the binding of an IEM link: the programme part's values, and 0 into its crosspoint (R171). -/
theorem State.duckBind_iem {l : Nat} (hl : l < 32) (hkind : (s.link l).kind = .iem) : s.duckBind l =
    match (s.link l).output with
    | none => s.setDest l Dest.programmeAtBinding
    | some o => (s.setDest l Dest.programmeAtBinding).writePoint (pointOf o (programmeInput (s.link l).studio)) 0 := by
  have hcurrent : ((s.setDest l Dest.programmeAtBinding).dest l).current = 0 := by
    rw [State.dest, State.setDest, look_adjust_same _ _ _ hl]
    rfl
  rw [State.duckBind, if_pos hkind, State.writeProgramme, hcurrent]
  rfl

theorem State.duckBind_other (hkind : (s.link l).kind ≠ .iem) : s.duckBind l = s := if_neg hkind

/-- The programme part of link l's destination at its binding (R171). -/
def State.programmeBound : Talk := { s.talk with dests := put s.talk.dests l (s.dest l).programmeAtBinding }

/-- The matrix line once 0 is written into the programme crosspoint of an output of a studio, where there is an output (R170, R171). -/
def Matrix.programmeWritten (m : Matrix) (output : Option Nat) (studio : Studio) : Matrix :=
  match output with
  | none => m
  | some o => m.written (pointOf o (programmeInput studio)) 0

/-- The duck ramp at a binding: at an IEM link the programme part and its crosspoint, and events noted (R171). -/
theorem State.duckBind_blocks {l : Nat} (hl : l < 32) : ∃ es, s.duckBind l = { s with
    talk := if (s.link l).kind = .iem then s.programmeBound l else s.talk
    matrix := if (s.link l).kind = .iem then s.matrix.programmeWritten (s.link l).output (s.link l).studio else s.matrix
    board := s.board.note es } := by
  by_cases hkind : (s.link l).kind = .iem
  · rw [s.duckBind_iem hl hkind, if_pos hkind, if_pos hkind]
    cases (s.link l).output with
    | none => exact ⟨[], rfl⟩
    | some o => exact (s.setDest l Dest.programmeAtBinding).writePoint_notes _ 0
  · rw [s.duckBind_other l hkind, if_neg hkind, if_neg hkind]
    exact ⟨[], rfl⟩

/-- The unit table with unit a referred to in a role (R69). -/
def State.unitsWith (a : Nat) (role : Role) : Vector UnitRec 16 :=
  if (s.unit a).state = .unused then put s.bus.units (a - 1) { UnitRec.unused with state := .unknown, role := role } else s.bus.units

/-- A unit referred to, as a change of the unit table (R69). -/
theorem State.unitReferred_changes (a : Nat) (role : Role) : s.unitReferred a role =
    s.changeUnits (s.unitsWith a role) (if (s.unit a).state = .unused then [(s.unit a).event] else []) := by
  rw [State.unitReferred_eq, State.unitsWith]
  split <;> rfl

end Handed

/-! ## The commit (R78) -/

/-- The binding at its commit (R78). -/
def Binding.committed (b : Binding) (entry code examined : Nat) (reason : Option Reason) : Binding :=
  { b with stage := .tuneFar, entry := entry, code := code, examined := examined, reason := reason }

/-- The link record at the end of a binding's commit, with its edition, its tune offered and its head tally waiting at a CAMERA link (R78). -/
def Binding.finalRecord (b : Binding) (missing : Bool) (edition : Word) : LinkRec :=
  { b.record missing edition with offer := some (.tuneFar b.channel b.code), headPending := decide (b.kind = .camera) }

/-- Link l's record written for the committed binding b, and b's unit named (R69, R78). -/
def State.bound (s : State) (l : Nat) (b : Binding) : State :=
  ((s.setBinding l fun _ => b).withRecord l (b.record (decide ((s.unit b.unit).state = .missing)) (s.link l).edition)).unitReferred b.unit .link

section Commit

variable {s : State} {b : Binding} {l : Nat}

/-- A binding's commit writes the record, and then hands it to the poller, the tally resolver, the duck ramp and the arbiter in turn (R78). -/
theorem State.bindingCommit_eq (e code examined : Nat) (reason : Option Reason)
    (hfind : (s.links.bindings.find? fun x => decide (x.link = l)) = some b) : s.bindingCommit l e code examined reason =
      ((((s.bound l (b.committed e code examined reason)).pollWake).tallyBind l).duckBind l).offerLink l (.tuneFar b.channel code) := by
  simp only [State.bindingCommit, hfind]
  rfl

/-- The record written and the unit named, block by block (R69, R78). -/
theorem State.bound_blocks (s : State) (l : Nat) (b : Binding) : ∃ es, s.bound l b = { s with
    links := { s.links with
      recs := put s.links.recs l (b.record (decide ((s.unit b.unit).state = .missing)) ((s.link l).edition + 1))
      bindings := s.links.bindings.map fun (x : Binding) => if x.link = l then b else x
      edition := s.links.edition + 1 }
    bus := { s.bus with units := s.unitsWith b.unit .link }
    board := s.board.note (.link :: es) } :=
  ⟨if (s.unit b.unit).state = .unused then [(s.unit b.unit).event] else [], by
    rw [State.bound, State.unitReferred_changes, State.changeUnits, State.withRecord, Board.note_note]
    rfl⟩

/-- A CAMERA link's record, just written, is handed to the tally resolver, which rewrites it, and to the arbiter (R78, R128, R138). -/
theorem State.handed_on_camera {t : State} (hl : l < 32) (hkind : (t.link l).kind = .camera) (hpending : (t.link l).headPending = false)
    (cmd : BusCmd) : ((t.tallyBind l).duckBind l).offerLink l cmd = { t.withResolved l (t.link l).sources .waiting with
      links := { t.links with
        recs := put t.links.recs l { t.link l with headPending := true, edition := (t.link l).edition + 1, offer := some cmd }
        edition := t.links.edition + 1 }
      board := t.board.note [.link] } := by
  have hsame : ((t.withResolved l (t.link l).sources .waiting).withRecord l { t.link l with headPending := true }).link l =
      { t.link l with headPending := true, edition := (t.link l).edition + 1 } := look_put_same _ _ _ hl
  rw [t.tallyBind_camera hl hkind hpending, State.duckBind_other _ l (by rw [hsame, hkind]; decide), State.offerLink, State.touchLink, adjust,
    ← State.link, hsame]
  simp only [State.withRecord, put_put]
  rfl

/-- A MIC or IEM link's record, just written, is handed to the tally resolver, the duck ramp and the arbiter (R78, R128, R171). -/
theorem State.handed_on_other {t : State} (hl : l < 32) (hkind : (t.link l).kind ≠ .camera) (cmd : BusCmd) :
    ∃ es, ((t.tallyBind l).duckBind l).offerLink l cmd = { t.withResolved l (t.link l).sources .idle with
      links := { t.links with recs := put t.links.recs l { t.link l with offer := some cmd } }
      talk := if (t.link l).kind = .iem then t.programmeBound l else t.talk
      matrix := if (t.link l).kind = .iem then t.matrix.programmeWritten (t.link l).output (t.link l).studio else t.matrix
      board := t.board.note es } := by
  rw [t.tallyBind_other hl hkind]
  obtain ⟨es, hduck⟩ := (t.withResolved l (t.link l).sources .idle).duckBind_blocks hl
  exact ⟨es, congrArg (State.offerLink · l cmd) hduck⟩

/-- How often a binding's commit rewrites its link record: again for the head tally of a CAMERA link (R138, log entry 10). -/
def Binding.rewrites (b : Binding) : Word := if b.kind = .camera then 2 else 1

/-- What the commit of binding b for link l leaves, block by block (R78, R128, R171). -/
theorem State.bindingCommit_blocks (hl : l < 32) (e code examined : Nat) (reason : Option Reason)
    (hfind : (s.links.bindings.find? fun x => decide (x.link = l)) = some b) :
    let b' := b.committed e code examined reason
    ∃ es, s.bindingCommit l e code examined reason =
      { s.withResolved l b.sources (if b.kind = .camera then .waiting else .idle) with
        links := { s.links with
          recs := put s.links.recs l (b'.finalRecord (decide ((s.unit b.unit).state = .missing)) ((s.link l).edition + b.rewrites))
          bindings := s.links.bindings.map fun (x : Binding) => if x.link = l then b' else x
          edition := s.links.edition + b.rewrites }
        bus := (s.bound l b').pollWake.bus
        talk := if b.kind = .iem then s.programmeBound l else s.talk
        matrix := if b.kind = .iem then s.matrix.programmeWritten b.output b.studio else s.matrix
        board := s.board.note (.link :: es) } := by
  intro b'
  obtain ⟨es, hbound⟩ := s.bound_blocks l b'
  rw [State.bindingCommit_eq e code examined reason hfind, State.pollWake_bus, Binding.finalRecord, Binding.rewrites]
  generalize (s.bound l b').pollWake.bus = bus
  rw [hbound]
  set r := b'.record (decide ((s.unit b'.unit).state = .missing)) ((s.link l).edition + 1) with hr
  set t : State := { s with
    links := { s.links with
      recs := put s.links.recs l r
      bindings := s.links.bindings.map fun (x : Binding) => if x.link = l then b' else x
      edition := s.links.edition + 1 }
    bus := bus
    board := s.board.note (.link :: es) } with ht
  have hlink : t.link l = r := look_put_same _ _ _ hl
  by_cases hkind : b.kind = .camera
  · refine ⟨es ++ [.link], (State.handed_on_camera hl ?_ ?_ _).trans ?_⟩
    · rw [hlink]; exact hkind
    · rw [hlink]; rfl
    · have hagain (x : Word) : x + 2 = x + 1 + 1 := by rw [BitVec.add_assoc]; rfl
      have hflag : decide (b'.kind = .camera) = true := decide_eq_true hkind
      rw [hlink, ht, Board.note_note]
      simp only [put_put, hkind, hflag, if_true, hagain]
      rfl
  · obtain ⟨fs, hhanded⟩ := State.handed_on_other (t := t) hl (by rw [hlink]; exact hkind) (.tuneFar b.channel code)
    refine ⟨es ++ fs, hhanded.trans ?_⟩
    have hflag : decide (b'.kind = .camera) = false := decide_eq_false hkind
    rw [hlink, ht, Board.note_note]
    simp only [put_put, hkind, hflag, if_false]
    rfl

end Commit

/-- EVENTS.LINK is set where it is among the events noted (R188). -/
theorem Board.note_link_event (b : Board) {es : List Event} (h : Event.link ∈ es) : (b.note es).events.getLsbD 1 = true := by
  have hkeeps (fs : List Event) : ∀ v : BitVec 9, v.getLsbD 1 = true → (fs.foldl (fun v e => v ||| e.bit) v).getLsbD 1 = true := by
    induction fs with
    | nil => exact fun v hv => hv
    | cons e fs ih => exact fun v hv => ih _ (by rw [BitVec.getLsbD_or, hv, Bool.true_or])
  obtain ⟨fs, gs, rfl⟩ := List.append_of_mem h
  rw [Board.note, List.foldl_append, List.foldl_cons]
  refine hkeeps gs _ ?_
  rw [BitVec.getLsbD_or, show Event.link.bit.getLsbD 1 = true from rfl, Bool.or_true]

/-! ## The tunes (R79) -/

section Tuned

variable {s : State} {b : Binding} (ok : Bool) (cause : Cause)

/-- The end of TUNE_FAR offers TUNE_LOCAL, whatever its result (R79). -/
theorem State.bindingTuned_far (hstage : b.stage = .tuneFar) : s.bindingTuned b ok cause = { s with links := { s.links with
    recs := put s.links.recs b.link { s.link b.link with offer := some (.tuneLocal b.channel b.code) }
    bindings := s.links.bindings.map fun x => if x.link = b.link
      then { x with stage := .tuneLocal, farCause := if ok then .none else cause } else x } } := by
  simp only [State.bindingTuned, hstage]
  rfl

/-- The end of TUNE_LOCAL ends the binding and completes its slot (R79). -/
theorem State.bindingTuned_local (hstage : b.stage = .tuneLocal) : s.bindingTuned b ok cause =
    (s.dropBinding b.link).complete b.slot
      (if ok = false then .unitFailed else if b.farCause ≠ .none then .partialBind else if b.clamped then .clamped else .ok)
      (bindWords (some b.entry) (some b.code) b.examined b.reason (if ok then b.farCause else cause)) := by
  simp only [State.bindingTuned, hstage, Bool.not_eq_true', okOrClamped]
  cases ok <;> rfl

end Tuned

/-- Settles O43: the commit block by block, the woken poller by its choice, and each tune's end by the stage it finds. -/
theorem bindingsCommitThenTune : Obligations.BindingsCommitThenTune := by
  intro s
  refine ⟨fun b l e code examined reason hl hfind => ?_, fun b ok cause => ⟨fun hstage => ?_, fun hstage => ?_⟩⟩
  · intro u rewrites unused fresh named eligible asks programme held point
    obtain ⟨es, hu⟩ := State.bindingCommit_blocks hl e code examined reason hfind
    obtain ⟨fs, hbound⟩ := s.bound_blocks l (b.committed e code examined reason)
    set t := s.bound l (b.committed e code examined reason)
    have hunits : s.unitsWith b.unit .link = named.units := if_congr decide_eq_true_iff.symm rfl rfl
    have hnamed : t.bus = named := by
      rw [hbound]
      show { s.bus with units := s.unitsWith b.unit .link } = named
      rw [hunits]
    have hbus : u.bus = t.pollWake.bus := (congrArg State.bus hu :)
    have hunit (a : Nat) : u.unit a = look named.units (a - 1) := by
      rw [State.unit, hbus, State.pollWake_units, hnamed]
    obtain ⟨hbusy, habove, hwraps, hnone⟩ := State.pollWake_choice hnamed
    have hrecs : u.links.recs = put s.links.recs l _ := (congrArg (fun v => v.links.recs) hu :)
    have hmatrix : u.matrix = if b.kind = .iem then s.matrix.programmeWritten b.output b.studio else s.matrix :=
      (congrArg State.matrix hu :)
    have hwritten (o : Nat) (hkind : b.kind = .iem) (hout : b.output = some o) : u.matrix = (s.writePoint (point o) 0).matrix := by
      rw [hmatrix, if_pos hkind, hout, State.writePoint_matrix, Matrix.programmeWritten, pointOf_programmeInput]
    refine ⟨?_, fun m _ hne => ?_, ?_, ?_, ?_, fun h => hbus.trans (hbusy h),
      fun hidle => ⟨fun a ha hcursor hleast => hbus.trans (habove hidle a ha hcursor hleast),
        fun a ha hleast hlast => hbus.trans (hwraps hidle a ha hleast hlast), fun h => hbus.trans (hnone hidle h)⟩,
      fun hlo hhi => ?_, fun a hlo _ hunit0 hne => ?_, ?_, fun hkind => ⟨?_, fun hout => ?_, fun o hout => ⟨?_, fun htables => ?_⟩⟩,
      fun hkind => ⟨?_, ?_⟩, ?_, ?_, ?_, ?_, ?_, ?_, ?_, ?_⟩
    · rw [State.link, hrecs, look_put_same _ _ _ hl]
      simp only [Binding.finalRecord, Binding.record, decide_eq_true_eq]
      rfl
    · rw [State.link, hrecs, look_put_ne _ _ _ _ hne.symm]
      rfl
    · exact (congrArg (fun v => v.links.edition) hu :)
    · rw [show u.board = _ from congrArg State.board hu]
      exact Board.note_link_event s.board List.mem_cons_self
    · exact (congrArg (fun v => v.links.bindings) hu :)
    · rw [hunit]
      exact (apply_ite (look · (b.unit - 1)) _ _ _).trans (if_congr Iff.rfl (look_put_same _ _ _ (by omega)) rfl)
    · rw [hunit]
      exact (apply_ite (look · (a - 1)) _ _ _).trans ((if_congr Iff.rfl (look_put_ne _ _ _ _ (by omega)) rfl).trans (ite_self _))
    · exact (congrArg State.tally hu :)
    · exact (congrArg State.talk hu).trans (if_pos hkind)
    · rw [hmatrix, if_pos hkind, hout]
      rfl
    · exact hwritten o hkind hout
    · obtain ⟨-, -, -, himage, -⟩ := htables
      have himageAt (q : Nat) : u.imageAt q = if q = point o then 0 else s.imageAt q :=
        (congrArg (fun m : Matrix => m.image.get Config.mute q) (hwritten o hkind hout)).trans (State.writePoint_imageAt himage _ _ _)
      exact ⟨(himageAt _).trans (if_pos rfl), fun p hp => (himageAt p).trans (if_neg hp)⟩
    · exact (congrArg State.talk hu).trans (if_neg hkind)
    · rw [hmatrix, if_neg hkind]
    · exact (congrArg State.lamps hu :)
    · exact (congrArg (fun v => v.board.slots) hu :)
    · exact (congrArg (fun v => v.board.body) hu :)
    · exact (congrArg State.plan hu :)
    · exact (congrArg State.moves hu :)
    · exact (congrArg State.lines hu :)
    · exact (congrArg State.ref hu :)
    · exact (congrArg State.probe hu :)
  · exact State.bindingTuned_far ok cause hstage
  · rw [State.bindingTuned_local ok cause hstage]
    cases b.reason <;> rfl

end Sys2Proof.Machine
end

section
/-! SUPPORT on the controller of the unit bus (R58, R62, R63, R68, R71): reply bytes, the unit table at the end of an attempt, and what an originator is handed. -/

namespace Sys2Proof.Machine

/-! ## Reply bytes (R58, R59, R61, R62) -/

/-- The reply collected so far is bs (R62). -/
def State.collected (s : State) (bs : List Byte) : State := { s with bus := { s.bus with reply := bs } }

/-- The reply is garbled: the controller drains the line (R62). -/
def State.drained (s : State) : State := { s with bus := { s.bus with state := .draining, reply := [] } }

section Bytes

variable {s : State} {tx : Tx} {b : Byte}

/-- A byte is discarded in every state but LISTENING (R58). -/
theorem State.busByte_discarded (framing : Bool) (hstate : s.bus.state ≠ .listening) : s.busByte b framing = s := by
  unfold State.busByte
  split
  · next h _ => exact absurd h hstate
  · rfl

/-- A byte in LISTENING: a framing error makes the reply garbled, and otherwise the bytes so far are judged (R62). -/
theorem State.busByte_heard (framing : Bool) (hstate : s.bus.state = .listening) (htx : s.bus.inFlight = some tx) : s.busByte b framing =
    if framing then s.drained
    else match tx.judge (s.bus.reply ++ [b]) with
      | .incomplete => s.collected (s.bus.reply ++ [b])
      | .garbled => s.drained
      | .good .nak _ => s.attemptFailed tx .refused
      | .good .status p => s.transactionGood tx .status p
      | .good .ack p => s.transactionGood tx .ack p := by
  unfold State.busByte
  split
  · next tx' _ h =>
    obtain rfl : tx = tx' := Option.some.inj (htx.symm.trans h)
    rfl
  · next hother => exact absurd htx (hother tx hstate)

/-- A byte in LISTENING without a framing error, by what the bytes so far make of the reply (R62). -/
theorem State.busByte_incomplete (hstate : s.bus.state = .listening) (htx : s.bus.inFlight = some tx)
    (hjudge : tx.judge (s.bus.reply ++ [b]) = .incomplete) : s.busByte b false = s.collected (s.bus.reply ++ [b]) := by
  simp only [State.busByte_heard false hstate htx, hjudge, Bool.false_eq_true, if_false]

/-- A byte that makes the reply garbled (R62). -/
theorem State.busByte_garbled (hstate : s.bus.state = .listening) (htx : s.bus.inFlight = some tx)
    (hjudge : tx.judge (s.bus.reply ++ [b]) = .garbled) : s.busByte b false = s.drained := by
  simp only [State.busByte_heard false hstate htx, hjudge, Bool.false_eq_true, if_false]

/-- A byte that completes a reply: a NAK fails the attempt, another ends the transaction (R62, R63). -/
theorem State.busByte_good {k : ReplyKind} {payload : List Byte} (hstate : s.bus.state = .listening) (htx : s.bus.inFlight = some tx)
    (hjudge : tx.judge (s.bus.reply ++ [b]) = .good k payload) : s.busByte b false =
      if k = .nak then s.attemptFailed tx .refused else s.transactionGood tx k payload := by
  rw [State.busByte_heard false hstate htx, hjudge]
  cases k <;> rfl

/-- A first byte that is not the addressed unit's address plus 0x80 makes the reply garbled (R59, R62). -/
theorem State.busByte_otherUnit (hstate : s.bus.state = .listening) (htx : s.bus.inFlight = some tx) (hreply : s.bus.reply = [])
    (hb : b ≠ BitVec.ofNat 8 tx.unit + 0x80) : s.busByte b false = s.drained :=
  State.busByte_garbled hstate htx (by rw [hreply, List.nil_append, Tx.judge, if_pos hb])

/-- The bytes of a reply without payload, judged one after another (R59, R61). -/
theorem Tx.judge_short {a c : Byte} {k : ReplyKind} (ha : a = BitVec.ofNat 8 (tx.unit + 0x80)) (hkind : replyKindOf c = some k)
    (haccepts : tx.cmd.accepts k = true) (hlength : k.length = 0) :
    tx.judge [a] = .incomplete ∧ tx.judge [a, c] = .incomplete ∧ tx.judge [a, c, 0] = .incomplete ∧
      tx.judge [a, c, 0, a ^^^ c] = .good k [] := by
  have haddress : ¬a ≠ BitVec.ofNat 8 tx.unit + 0x80 := not_not_intro (ha.trans (BitVec.ofNat_add tx.unit 0x80))
  have hcheck : xorBytes [a, c, 0] = a ^^^ c := by simp [xorBytes]
  simp only [Tx.judge, if_neg haddress, hkind, haccepts, hlength]
  simpa using hcheck.symm

/-- A reply without payload, heard from its first byte (R61, R62). -/
theorem State.heard_short {a c : Byte} {k : ReplyKind} (hstate : s.bus.state = .listening) (htx : s.bus.inFlight = some tx)
    (hreply : s.bus.reply = []) (ha : a = BitVec.ofNat 8 (tx.unit + 0x80)) (hkind : replyKindOf c = some k)
    (haccepts : tx.cmd.accepts k = true) (hlength : k.length = 0) :
    [a, c, 0, a ^^^ c].foldl (fun t b => t.busByte b false) s =
      if k = .nak then (s.collected [a, c, 0]).attemptFailed tx .refused else (s.collected [a, c, 0]).transactionGood tx k [] := by
  obtain ⟨h1, h2, h3, h4⟩ := Tx.judge_short ha hkind haccepts hlength
  have hfirst : s.busByte a false = s.collected [a] := by
    rw [State.busByte_incomplete hstate htx (by rwa [hreply]), hreply, List.nil_append]
  have hnext {b : Byte} {bs : List Byte} (h : tx.judge (bs ++ [b]) = .incomplete) :
      (s.collected bs).busByte b false = s.collected (bs ++ [b]) := State.busByte_incomplete (s := s.collected bs) hstate htx h
  simp only [List.foldl_cons, List.foldl_nil, hfirst]
  rw [hnext (bs := [a]) h2, hnext (bs := [a] ++ [c]) h3]
  exact State.busByte_good (s := s.collected [a, c, 0]) hstate htx h4

end Bytes

/-! ## The events of the bus, taken once the part is initialised (R62, R189) -/

section Events

variable {s : State}

theorem exec_requestFrameSent (hready : s.board.ready = true) : exec .requestFrameSent s = .next s.frameSent :=
  congrArg Host.Outcome.next (if_pos hready)

theorem exec_garbledReplyByte (b : Byte) (framing : Bool) (hready : s.board.ready = true) :
    exec (.garbledReplyByte b framing) s = .next (s.busByte b framing).settle :=
  congrArg Host.Outcome.next (if_pos hready)

theorem exec_replyFrame (bs : List Byte) (hready : s.board.ready = true) :
    exec (.replyFrame bs) s = .next (bs.foldl (fun t b => t.busByte b false) s).settle :=
  congrArg Host.Outcome.next (if_pos hready)

theorem exec_replyWindowEnd {tm : Timer} (hready : s.board.ready = true) (hwindow : s.bus.window = some tm)
    (hdue : tm.len ≤ (s.board.time - tm.start).toNat) : exec .replyWindowEnd s = .next s.windowEnd.settle := by
  have h : timerDue s.bus.window s.now = true := by rw [hwindow]; exact decide_eq_true hdue
  exact congrArg Host.Outcome.next ((if_pos hready).trans (if_pos h))

/-- The cause of an attempt that fails at the end of the reply window (R62, R63). -/
def Bus.windowCause (m : Bus) : Cause := if m.state = .listening ∧ m.reply = [] then .noReply else .garbled

theorem Bus.windowCause_ne_refused (m : Bus) : m.windowCause ≠ .refused := by
  unfold Bus.windowCause
  split <;> decide

/-- The end of the reply window fails the attempt (R62). -/
theorem State.windowEnd_fails {tx : Tx} (hstate : s.bus.state = .listening ∨ s.bus.state = .draining) (htx : s.bus.inFlight = some tx) :
    s.windowEnd = s.attemptFailed tx s.bus.windowCause := by
  obtain hstate | hstate := hstate
  · simp only [State.windowEnd, hstate, htx, Bus.windowCause, List.isEmpty_iff, true_and]
  · simp only [State.windowEnd, hstate, htx, Bus.windowCause, reduceCtorEq, false_and, if_false]

end Events

/-! ## The unit table at the end of an attempt (R68) -/

/-- A unit's record after a valid reply (R68). -/
def UnitRec.replied (u : UnitRec) (good : Bool) : UnitRec :=
  { u with state := .present, misses := 0, good := if good then u.good + 1 else u.good }

/-- A unit's record after a failed transaction; `miss` when its second attempt was garbled or missing (R68). -/
def UnitRec.failedBy (u : UnitRec) (miss : Bool) : UnitRec :=
  let m := if miss then satInc u.misses else u.misses
  { u with misses := m, failed := satInc u.failed, state := if miss ∧ 2 ≤ m.toNat then .missing else u.state }

/-- The events of a change of a unit's record (R67). -/
def UnitRec.changeEvents (u v : UnitRec) : List Event := if u.state ≠ v.state then [u.event] else []

/-- Unit a's record changed to v (R67). -/
def State.withUnit (s : State) (a : Nat) (v : UnitRec) : State :=
  s.changeUnits (put s.bus.units (a - 1) v) ((s.unit a).changeEvents v)

section Units

variable {s : State} {a : Nat}

theorem State.withUnit_unit_same (hlo : 1 ≤ a) (hhi : a ≤ 16) (v : UnitRec) : (s.withUnit a v).unit a = v :=
  look_put_same _ _ _ (by omega)

theorem State.withUnit_unit_ne {c : Nat} (hlo : 1 ≤ a) (hc : 1 ≤ c) (h : c ≠ a) (v : UnitRec) : (s.withUnit a v).unit c = s.unit c :=
  look_put_ne _ _ _ _ (by omega)

/-- A change that keeps the unit's state sets no event (R67). -/
theorem State.withUnit_of_same_state {v : UnitRec} (h : (s.unit a).state = v.state) :
    s.withUnit a v = { s with bus := { s.bus with units := put s.bus.units (a - 1) v } } := by
  rw [State.withUnit, UnitRec.changeEvents, if_neg (not_not_intro h)]
  rfl

theorem State.unitReplied_eq (good : Bool) (hused : (s.unit a).state ≠ .unused) :
    s.unitReplied a good = s.withUnit a ((s.unit a).replied good) := by
  simp only [State.unitReplied, if_neg hused, State.setUnit_eq]
  rfl

theorem State.unitFailed_eq (miss : Bool) (hused : (s.unit a).state ≠ .unused) :
    s.unitFailed a miss = s.withUnit a ((s.unit a).failedBy miss) := by
  simp only [State.unitFailed, if_neg hused, State.setUnit_eq]
  rfl

/-- A change of a unit's record that a LINK unit's links need not be told of: its state stays, or its role is PROBE (R70). -/
def UnitRec.Quiet (u v : UnitRec) : Prop := v.state = u.state ∨ u.role ≠ .link

/-- The unit's links are not told of a quiet change (R70). -/
theorem State.withNotice_quiet {f : State → State} {v : UnitRec} (hlo : 1 ≤ a) (hhi : a ≤ 16) (hf : f s = s.withUnit a v)
    (hquiet : (s.unit a).Quiet v) : s.withNotice a f = s.withUnit a v := by
  have h : ((s.withUnit a v).unit a).state = (s.unit a).state ∨ (s.unit a).role ≠ .link := by
    rwa [State.withUnit_unit_same hlo hhi]
  simp only [State.withNotice, hf, if_pos h]

/-- The links of a LINK unit are told of a change of its state (R70, R85). -/
theorem State.withNotice_told {f : State → State} {v : UnitRec} (hlo : 1 ≤ a) (hhi : a ≤ 16) (hf : f s = s.withUnit a v)
    (hstate : v.state ≠ (s.unit a).state) (hrole : (s.unit a).role = .link) : s.withNotice a f = (s.withUnit a v).stateNotice a := by
  have h : ¬(((s.withUnit a v).unit a).state = (s.unit a).state ∨ (s.unit a).role ≠ .link) := by
    rw [State.withUnit_unit_same hlo hhi]
    exact not_or.mpr ⟨hstate, not_not_intro hrole⟩
  simp only [State.withNotice, hf, if_neg h]

end Units

section Records

variable {u : UnitRec}

/-- A first miss (R68). -/
theorem UnitRec.failedBy_first (h : u.misses = 0) : u.failedBy true = { u with misses := 1, failed := satInc u.failed } := by
  simp only [UnitRec.failedBy, h]
  rfl

/-- A failure by a second NAK is no miss (R68). -/
theorem UnitRec.failedBy_refused : u.failedBy false = { u with failed := satInc u.failed } := by
  simp only [UnitRec.failedBy]
  rfl

/-- A miss after a miss makes the unit MISSING (R68). -/
theorem UnitRec.failedBy_again (h : 1 ≤ u.misses.toNat) :
    u.failedBy true = { u with state := .missing, misses := satInc u.misses, failed := satInc u.failed } := by
  have htwo : 2 ≤ (satInc u.misses).toNat := by
    unfold satInc
    split
    · next hfull => rw [hfull]; decide
    · next hroom => rw [show BitVec.allOnes 8 = 255#8 from rfl] at hroom; bv_omega
  simp only [UnitRec.failedBy, if_true, htwo, and_self]

end Records

/-! ## The end of an attempt (R62, R63) -/

/-- The frame of tx is sent again (R63). -/
def State.resent (s : State) (tx : Tx) : State :=
  { s with bus := { s.bus with state := .sending, inFlight := some { tx with attempt := 2 }, reply := [], window := none } }

section Attempts

variable {s : State} {tx : Tx} {cause : Cause} (hlo : 1 ≤ tx.unit) (hhi : tx.unit ≤ 16)

/-- A first attempt garbled or missing is sent again (R63). -/
theorem State.attemptFailed_again (hattempt : tx.attempt = 1) (hcause : cause ≠ .refused) : s.attemptFailed tx cause = s.resent tx := by
  simp only [State.attemptFailed, if_neg hcause, if_pos hattempt]
  rfl

/-- A first NAK is a valid reply, and the frame is sent again (R63, R68). -/
theorem State.attemptFailed_refused_again (hattempt : tx.attempt = 1) :
    s.attemptFailed tx .refused = (s.withNotice tx.unit fun t => t.unitReplied tx.unit false).resent tx := by
  simp only [State.attemptFailed, if_true, if_pos hattempt]
  rfl

/-- A second attempt garbled or missing fails the transaction (R63, R68). -/
theorem State.attemptFailed_missed (hattempt : tx.attempt = 2) (hcause : cause ≠ .refused) : s.attemptFailed tx cause =
    (s.busFreed.withNotice tx.unit fun t => t.unitFailed tx.unit true).handResult tx false cause := by
  simp only [State.attemptFailed, if_neg hcause, hattempt, decide_eq_true hcause]
  rfl

/-- The line is free and a unit's record is written in its state: no event is set (R63, R67). -/
theorem State.busFreed_withUnit_of_same_state {a : Nat} {v : UnitRec} (h : (s.unit a).state = v.state) : s.busFreed.withUnit a v =
    { s with bus := { s.bus with
      state := .idle, inFlight := none, reply := [], window := none, units := put s.bus.units (a - 1) v } } :=
  State.withUnit_of_same_state (s := s.busFreed) h

include hlo hhi

/-- A reply of a PRESENT unit is told to nobody (R68, R70). -/
theorem State.withNotice_unitReplied (good : Bool) (hpresent : (s.unit tx.unit).state = .present) :
    (s.withNotice tx.unit fun t => t.unitReplied tx.unit good) = s.withUnit tx.unit ((s.unit tx.unit).replied good) :=
  State.withNotice_quiet hlo hhi (State.unitReplied_eq good (by rw [hpresent]; decide)) (.inl hpresent.symm)

/-- A second NAK from a PRESENT unit fails the transaction (R63, R68). -/
theorem State.attemptFailed_refused (hattempt : tx.attempt = 2) (hpresent : (s.unit tx.unit).state = .present) :
    s.attemptFailed tx .refused =
      (s.busFreed.withUnit tx.unit { s.unit tx.unit with misses := 0, failed := satInc (s.unit tx.unit).failed }).handResult tx false
        .refused := by
  set v := (s.unit tx.unit).replied false with hv
  set t := (s.withUnit tx.unit v).busFreed with ht
  have hunit : t.unit tx.unit = v := State.withUnit_unit_same hlo hhi v
  have hfailed : (t.withNotice tx.unit fun t => t.unitFailed tx.unit false) = t.withUnit tx.unit (v.failedBy false) := by
    refine State.withNotice_quiet hlo hhi ?_ (.inl ?_)
    · rw [← hunit]
      exact State.unitFailed_eq false (by rw [hunit]; exact UnitState.noConfusion)
    · rw [hunit, UnitRec.failedBy_refused]
  set w : UnitRec := { s.unit tx.unit with misses := 0, failed := satInc (s.unit tx.unit).failed } with hw
  have hwritten : t.withUnit tx.unit (v.failedBy false) = s.busFreed.withUnit tx.unit w := by
    rw [UnitRec.failedBy_refused, State.busFreed_withUnit_of_same_state (s := s) (v := w) rfl, State.withUnit_of_same_state (s := t) (by rw [hunit]), ht,
      State.withUnit_of_same_state hpresent]
    simp only [State.busFreed, put_put, hv, hw, UnitRec.replied, ← hpresent]
    rfl
  simp only [State.attemptFailed, if_true, hattempt, State.withNotice_unitReplied hlo hhi false hpresent]
  rw [← hwritten, ← hfailed]
  rfl

/-- An ACK whose unit's links are not told: the unit's record, the originator, then the good-reply notice (R63, R68, R70). -/
theorem State.transactionGood_ack (payload : List Byte) (hused : (s.unit tx.unit).state ≠ .unused)
    (hquiet : (s.unit tx.unit).Quiet ((s.unit tx.unit).replied true)) : s.transactionGood tx .ack payload =
      ((s.busFreed.withUnit tx.unit ((s.unit tx.unit).replied true)).handResult tx true .none).goodNotice tx.unit := by
  have hreplied := State.withNotice_quiet (s := s.busFreed) (f := fun t => t.unitReplied tx.unit true) hlo hhi
    (State.unitReplied_eq (s := s.busFreed) true hused) hquiet
  simp only [State.transactionGood, hreplied]
  rfl

end Attempts

end Sys2Proof.Machine
end

section
/-! SUPPORT and the proof on reply frames (R61 to R63, R68, R70, R86, R139, R140): what each originator is handed, and the good-reply notice. -/

namespace Sys2Proof.Machine

/-! ## What an originator is handed (R66, R71) -/

section Handed

variable {s : State} {tx : Tx} {ok : Bool} {cause : Cause}

/-- A transaction whose originator has ended is handed nothing (R66). -/
theorem State.handResult_ended (hlive : tx.live = false) : s.handResult tx ok cause = s := by
  simp only [State.handResult, hlive]
  rfl

/-- A live transaction's result goes to its originator (R71). -/
theorem State.handResult_live (hlive : tx.live = true) : s.handResult tx ok cause =
    match tx.orig with
    | .head l => s.headEnded l tx.cmd.level ok
    | .ctx c => s.ctxTxEnded c tx.cmd ok cause
    | .link l => s.linkTxEnded l ok cause
    | .probe => s.probeTuneEnded ok tx.discarded
    | .poller => s.pollEnded := by
  simp only [State.handResult, hlive]
  rfl

/-- A binding that is tuning takes the result of its tune (R79). -/
theorem State.linkTxEnded_binding {l : Nat} {b : Binding}
    (hfind : (s.links.bindings.find? fun x => decide (x.link = l ∧ x.stage ≠ .seeking)) = some b) :
    s.linkTxEnded l ok cause = s.bindingTuned b ok cause := by
  simp only [State.linkTxEnded, hfind]

/-- Without a tuning binding the transaction was a resent unmute, whose ACK clears MUTE_PENDING (R86). -/
theorem State.linkTxEnded_unmute {l : Nat} (hnone : ∀ b ∈ s.links.bindings, b.link = l → b.stage = .seeking) :
    s.linkTxEnded l ok cause =
      if ok = true ∧ (s.link l).mutePending = true then s.withRecord l { s.link l with mutePending := false } else s := by
  have hfind : (s.links.bindings.find? fun x => decide (x.link = l ∧ x.stage ≠ .seeking)) = none :=
    List.find?_eq_none.mpr fun b hb => by simpa using hnone b hb
  simp only [State.linkTxEnded, hfind]
  rfl

/-- A head tally that failed is DEFERRED, its flag as it was (R139). -/
theorem State.headEnded_failed {l : Nat} {level : Tally} (hpending : (s.link l).headPending = true) :
    s.headEnded l level false = s.withHead l .deferred :=
  s.setHead_kept l hpending

/-- A head tally that carried the applied level leaves the link IDLE with its flag clear (R139). -/
theorem State.headEnded_applied {l : Nat} {level : Tally} (hpending : (s.link l).headPending = true) (hlevel : (s.link l).applied = level) :
    s.headEnded l level true = (s.withHead l .idle).withRecord l { s.link l with headPending := false } := by
  refine (if_pos hlevel).trans (s.setHead_changed l ?_)
  rw [hpending]
  decide

/-- A head tally that carried an old level waits again (R139). -/
theorem State.headEnded_outdated {l : Nat} {level : Tally} (hpending : (s.link l).headPending = true) (hlevel : (s.link l).applied ≠ level) :
    s.headEnded l level true = s.withHead l .waiting :=
  (if_neg hlevel).trans (s.setHead_kept l hpending)

/-- With no sweep the probe's transaction has no effect (R55). -/
theorem State.probeTuneEnded_idle {discarded : Bool} (hidle : s.probe.state = .idle) : s.probeTuneEnded ok discarded = s := by
  simp only [State.probeTuneEnded, Probe.sweeping, hidle]
  rfl

/-- A failed PROBE_TUNE ends the sweep (R55). -/
theorem State.probeTuneEnded_failed {discarded : Bool} (hsweep : s.probe.state ≠ .idle) :
    s.probeTuneEnded false discarded = s.endSweep .unitFailed true := by
  simp only [State.probeTuneEnded, Probe.sweeping, decide_eq_true hsweep]
  rfl

/-- The ACK of a PROBE_TUNE starts the settle timer (R45, R46). -/
theorem State.probeTuneEnded_settles (hsweep : s.probe.state ≠ .idle) (hsettle : s.probe.settle ≠ 0) :
    s.probeTuneEnded true false =
      { s with probe := { s.probe with settleTimer := some { start := s.board.time, len := s.probe.settle } } } := by
  simp only [State.probeTuneEnded, Probe.sweeping, decide_eq_true hsweep, if_neg hsettle]
  rfl

end Handed

/-! ## Notices to the links of a unit (R70) -/

/-- The bound links of a unit, each once (R70). -/
theorem State.mem_linksOfUnit (s : State) (a l : Nat) : l ∈ s.linksOfUnit a ↔ l < 32 ∧ (s.link l).state ≠ .vacant ∧ (s.link l).unit = a := by
  simp [State.linksOfUnit, placesWhere]

theorem State.linksOfUnit_nodup (s : State) (a : Nat) : (s.linksOfUnit a).Nodup := List.nodup_range.filter _

/-- A notice taken place by place: where each step keeps a relation to the start, writes its own place of a table and leaves the others,
the whole notice does so at its places. -/
theorem State.foldl_places {β : Type} (view : State → Nat → β) {R : State → State → Prop} {f : State → Nat → State} {g : Nat → β} {s : State}
    (hstart : R s s) {ls : List Nat} (hnodup : ls.Nodup)
    (hstep : ∀ t l, l ∈ ls → R s t → view t l = view s l → R s (f t l) ∧ view (f t l) l = g l ∧ ∀ m, m ≠ l → view (f t l) m = view t m) :
    R s (ls.foldl f s) ∧ (∀ l ∈ ls, view (ls.foldl f s) l = g l) ∧ ∀ m, m ∉ ls → view (ls.foldl f s) m = view s m := by
  suffices hrest : ∀ (ks : List Nat) (t : State), ks.Nodup → (∀ l ∈ ks, l ∈ ls) → R s t → (∀ l ∈ ks, view t l = view s l) →
      R s (ks.foldl f t) ∧ (∀ l ∈ ks, view (ks.foldl f t) l = g l) ∧ ∀ m, m ∉ ks → view (ks.foldl f t) m = view t m from
    hrest ls s hnodup (fun _ h => h) hstart fun _ _ => rfl
  intro ks
  induction ks with
  | nil => exact fun t _ _ ht _ => ⟨ht, by simp, fun _ _ => rfl⟩
  | cons k ks ih =>
    intro t hks hmem ht hview
    obtain ⟨hk, hks⟩ := List.nodup_cons.mp hks
    obtain ⟨hR, hown, hothers⟩ := hstep t k (hmem k List.mem_cons_self) ht (hview k List.mem_cons_self)
    obtain ⟨hR', hown', hothers'⟩ := ih (f t k) hks (fun l hl => hmem l (List.mem_cons_of_mem k hl)) hR fun l hl => by
      rw [hothers l fun h => hk (h ▸ hl)]
      exact hview l (List.mem_cons_of_mem k hl)
    refine ⟨hR', fun l hl => ?_, fun m hm => ?_⟩
    · obtain rfl | hl := List.mem_cons.mp hl
      · exact (hothers' l hk).trans hown
      · exact hown' l hl
    · obtain ⟨hmk, hmks⟩ := not_or.mp (List.mem_cons.not.mp hm)
      exact (hothers' m hmks).trans (hothers m hmk)

section Good

variable {s : State} {a : Nat}

/-- Nothing of originator o is in flight (R86). -/
theorem State.not_inFlightOf_iff (s : State) (o : Originator) :
    (!s.inFlightOf o) = true ↔ ∀ tx, s.bus.inFlight = some tx → ¬(tx.orig = o ∧ tx.live = true) := by
  unfold State.inFlightOf
  cases s.bus.inFlight with
  | none => simp
  | some tx =>
    simp only [Option.some.injEq, forall_eq', Bool.not_eq_true', ← Bool.not_eq_true, Bool.and_eq_true, decide_eq_true_eq]

/-- A link's record after the good-reply notice: MUTE_PENDING offers the unmute where nothing waits and nothing is in flight (R86). -/
def State.unmuted (s : State) (l : Nat) : LinkRec :=
  if (s.link l).mutePending ∧ (s.link l).offer.isNone ∧ !s.inFlightOf (.link l) then
    { s.link l with offer := some (.muteLocal (s.link l).channel false) }
  else s.link l

/-- The good-reply notice at the link supervisor (R86). -/
theorem State.unmuteNotice_links (s : State) (a : Nat) :
    (∃ recs, s.unmuteNotice a = { s with links := { s.links with recs := recs } }) ∧
    (∀ l ∈ s.linksOfUnit a, (s.unmuteNotice a).link l = s.unmuted l) ∧ ∀ m, m ∉ s.linksOfUnit a → (s.unmuteNotice a).link m = s.link m := by
  refine State.foldl_places State.link (R := fun s t => ∃ recs, t = { s with links := { s.links with recs := recs } }) ⟨_, rfl⟩
    (s.linksOfUnit_nodup a) fun t l hl ht hlink => ?_
  obtain ⟨hl, -⟩ := (s.mem_linksOfUnit a l).mp hl
  obtain ⟨recs, rfl⟩ := ht
  rw [State.unmuted, ← hlink]
  split
  · next hoffers =>
    exact ⟨⟨_, rfl⟩, (State.touchLink_link_same _ hl).trans (if_pos hoffers).symm, fun m hm => State.touchLink_link_ne _ hm.symm⟩
  · next hstays => exact ⟨⟨recs, rfl⟩, (if_neg hstays).symm, fun _ _ => rfl⟩

/-- The good-reply notice at the tally resolver: DEFERRED links are WAITING again (R140). -/
theorem State.headNotice_tally (hpending : ∀ l < 32, (s.linkTally l).head = .deferred → (s.link l).headPending = true) (a : Nat) :
    (∃ held, s.headNotice a = { s with tally := { s.tally with links := held } }) ∧
    (∀ l ∈ s.linksOfUnit a, (s.headNotice a).linkTally l =
      { s.linkTally l with head := if (s.linkTally l).head = .deferred then .waiting else (s.linkTally l).head }) ∧
    ∀ m, m ∉ s.linksOfUnit a → (s.headNotice a).linkTally m = s.linkTally m := by
  refine State.foldl_places State.linkTally (R := fun s t => ∃ held, t = { s with tally := { s.tally with links := held } }) ⟨_, rfl⟩
    (s.linksOfUnit_nodup a) fun t l hl ht htally => ?_
  obtain ⟨hl, -⟩ := (s.mem_linksOfUnit a l).mp hl
  obtain ⟨held, rfl⟩ := ht
  rw [← htally]
  split
  · next hdeferred =>
    rw [State.setHead_kept _ l (hpending l hl (htally ▸ hdeferred))]
    exact ⟨⟨_, rfl⟩, look_put_same _ _ _ hl, fun m hm => look_put_ne _ _ _ _ hm.symm⟩
  · exact ⟨⟨held, rfl⟩, rfl, fun _ _ => rfl⟩

/-- A PROBE unit's links are not told of a good reply (R70). -/
theorem State.goodNotice_probe (hrole : (s.unit a).role = .probe) : s.goodNotice a = s := if_neg (by rw [hrole]; decide)

/-- The notice of an unmute leaves every field of a record but its waiting transaction (R86). -/
theorem State.unmuted_eq (s : State) (l : Nat) : s.unmuted l = { s.link l with offer := (s.unmuted l).offer } := by
  unfold State.unmuted
  split <;> rfl

/-- A LINK unit's links after a good reply, place by place (R70, R86, R140). -/
theorem State.goodNotice_link (hpending : ∀ l < 32, (s.linkTally l).head = .deferred → (s.link l).headPending = true)
    (hrole : (s.unit a).role = .link) : ∃ (recs : Vector LinkRec 32) (held : Vector LinkTally 32),
      s.goodNotice a = { s with links := { s.links with recs := recs }, tally := { s.tally with links := held } } ∧
      ∀ l < 32, let ours := (s.link l).state ≠ .vacant ∧ (s.link l).unit = a
        look recs l = (if ours then s.unmuted l else s.link l) ∧
        look held l = { s.linkTally l with head := if ours ∧ (s.linkTally l).head = .deferred then .waiting else (s.linkTally l).head } := by
  obtain ⟨⟨recs, hrecs⟩, hours, hothers⟩ := s.unmuteNotice_links a
  have hlink (l : Nat) (hl : l < 32) :
      (s.unmuteNotice a).link l = if (s.link l).state ≠ .vacant ∧ (s.link l).unit = a then s.unmuted l else s.link l := by
    split
    · next h => exact hours l ((s.mem_linksOfUnit a l).mpr ⟨hl, h⟩)
    · next h => exact hothers l fun hmem => h ((s.mem_linksOfUnit a l).mp hmem).2
  have hkeeps (l : Nat) (hl : l < 32) : (s.unmuteNotice a).link l = { s.link l with offer := ((s.unmuteNotice a).link l).offer } := by
    rw [hlink l hl]
    split
    · exact s.unmuted_eq l
    · rfl
  set t := s.unmuteNotice a with ht
  have htally : t.linkTally = s.linkTally := by rw [hrecs]; rfl
  have hmem (l : Nat) (hl : l < 32) : l ∈ t.linksOfUnit a ↔ (s.link l).state ≠ .vacant ∧ (s.link l).unit = a := by
    rw [t.mem_linksOfUnit, hkeeps l hl]
    exact and_iff_right hl
  obtain ⟨⟨held, hheld⟩, hours', hothers'⟩ := State.headNotice_tally (s := t) (fun l hl h => by
    rw [hkeeps l hl]
    exact hpending l hl (htally ▸ h)) a
  refine ⟨recs, held, ?_, fun l hl => ⟨?_, ?_⟩⟩
  · rw [State.goodNotice, if_pos hrole, hheld, hrecs]
  · rw [← hlink l hl, hrecs]
    rfl
  · have hread : look held l = (t.headNotice a).linkTally l := by rw [hheld]; rfl
    rw [hread, ← htally]
    by_cases hl' : (s.link l).state ≠ .vacant ∧ (s.link l).unit = a
    · rw [hours' l ((hmem l hl).mpr hl')]
      simp only [and_iff_right hl']
    · rw [hothers' l fun h => hl' ((hmem l hl).mp h), if_neg fun h => hl' h.1]

end Good

/-! ## A reply frame without payload, from its first byte (R61, R62) -/

section Replies

variable {s : State} {tx : Tx} {a : Byte} (hready : s.board.ready = true) (hstate : s.bus.state = .listening) (hreply : s.bus.reply = [])
  (htx : s.bus.inFlight = some tx) (ha : a = BitVec.ofNat 8 (tx.unit + 0x80))
include hready hstate hreply htx ha

/-- An ACK ends the transaction (R61, R63). -/
theorem exec_ack (hcmd : tx.cmd ≠ .query) : exec (.replyFrame [a, 0x42, 0, a ^^^ 0x42]) s =
    .next ((s.collected [a, 0x42, 0]).transactionGood tx .ack []).settle := by
  rw [exec_replyFrame _ hready, State.heard_short (k := .ack) hstate htx hreply ha rfl (decide_eq_true hcmd) rfl]
  rfl

/-- A NAK fails the attempt (R61, R63). -/
theorem exec_nak : exec (.replyFrame [a, 0x43, 0, a ^^^ 0x43]) s = .next ((s.collected [a, 0x43, 0]).attemptFailed tx .refused).settle := by
  rw [exec_replyFrame _ hready, State.heard_short (k := .nak) hstate htx hreply ha rfl rfl rfl]
  rfl

variable (hlo : 1 ≤ tx.unit) (hhi : tx.unit ≤ 16)
include hlo hhi

/-- An ACK whose unit's links are not told, by the unit's record and what the originator and the links then take (R63, R68, R70). -/
theorem exec_ack_quiet (hcmd : tx.cmd ≠ .query) (hused : (s.unit tx.unit).state ≠ .unused)
    (hquiet : (s.unit tx.unit).Quiet ((s.unit tx.unit).replied true)) : exec (.replyFrame [a, 0x42, 0, a ^^^ 0x42]) s =
      .next (((s.busFreed.withUnit tx.unit ((s.unit tx.unit).replied true)).handResult tx true .none).goodNotice tx.unit).settle := by
  rw [exec_ack hready hstate hreply htx ha hcmd, State.transactionGood_ack (s := s.collected [a, 0x42, 0]) hlo hhi [] hused hquiet]
  rfl

/-- A first NAK of a PRESENT unit sends the frame again (R63, R68). -/
theorem exec_first_nak (hpresent : (s.unit tx.unit).state = .present) (hattempt : tx.attempt = 1) :
    exec (.replyFrame [a, 0x43, 0, a ^^^ 0x43]) s =
      .next (State.settle ((s.withUnit tx.unit ((s.unit tx.unit).replied false)).resent tx)) := by
  rw [exec_nak hready hstate hreply htx ha, State.attemptFailed_refused_again hattempt,
    State.withNotice_unitReplied (s := s.collected [a, 0x43, 0]) hlo hhi false hpresent]
  rfl

/-- A second NAK of a PRESENT unit fails the transaction with the cause REFUSED (R63, R68). -/
theorem exec_second_nak (hpresent : (s.unit tx.unit).state = .present) (hattempt : tx.attempt = 2) :
    exec (.replyFrame [a, 0x43, 0, a ^^^ 0x43]) s =
      .next (State.settle ((s.busFreed.withUnit tx.unit
        { s.unit tx.unit with misses := 0, failed := satInc (s.unit tx.unit).failed }).handResult tx false .refused)) := by
  rw [exec_nak hready hstate hreply htx ha,
    State.attemptFailed_refused (s := s.collected [a, 0x43, 0]) hlo hhi hattempt hpresent]
  rfl

end Replies

/-- Settles O30: the reply's bytes end the attempt, the unit's record is written, and each originator takes the result. -/
theorem replyFramesEndTheirTransactions : Obligations.ReplyFramesEndTheirTransactions := by
  refine ⟨fun s tx a hready hstate hreply htx hlive hlo hhi ha => ?_, fun s a hpending => ⟨State.goodNotice_probe, fun hrole => ?_⟩⟩
  · intro x ack nak freed heard refused head rewritten
    have hheard (hpresent : x.state = .present) (hcmd : tx.cmd ≠ .query) : ack ((heard.handResult tx true .none).goodNotice tx.unit) := by
      refine (exec_ack_quiet hready hstate hreply htx ha hlo hhi hcmd (by rw [hpresent]; decide) (.inl hpresent.symm)).trans ?_
      rw [State.busFreed_withUnit_of_same_state (s := s) hpresent]
      rfl
    have hrefused (hpresent : x.state = .present) (hattempt : tx.attempt = 2) : nak (refused.handResult tx false .refused) := by
      have hwritten : s.busFreed.withUnit tx.unit { x with misses := 0, failed := satInc x.failed } = refused := by
        rw [State.busFreed_withUnit_of_same_state (s := s) (v := { x with misses := 0, failed := satInc x.failed }) rfl]
        simp only [refused, freed, ← hpresent]
      rw [← hwritten]
      exact exec_second_nak hready hstate hreply htx ha hlo hhi hpresent hattempt
    refine ⟨?_, ?_, ?_, ?_, ?_, ?_, ?_⟩
    · intro src code horig hkept hcmd hsweep hsettle hused hrole
      have hnotlink : x.role ≠ .link := by rw [hrole]; decide
      set t := s.busFreed.withUnit tx.unit (x.replied true) with ht
      have hevents : x.changeEvents (x.replied true) = if x.state = .present then [] else [.probe] := by
        simp only [UnitRec.changeEvents, UnitRec.replied, UnitRec.event, hrole]
        split <;> simp_all
      have hended : t.handResult tx true .none =
          { t with probe := { s.probe with settleTimer := some { start := s.board.time, len := s.probe.settle } } } := by
        simp only [State.handResult_live hlive, horig, hkept]
        exact State.probeTuneEnded_settles (s := t) hsweep hsettle
      have hunit : (t.unit tx.unit).role = .probe := by rw [ht, State.withUnit_unit_same hlo hhi]; exact hrole
      refine (exec_ack_quiet hready hstate hreply htx ha hlo hhi (by rw [hcmd]; exact BusCmd.noConfusion) hused (.inr hnotlink)).trans ?_
      have hkeeps (p : Probe) : State.goodNotice { t with probe := p } tx.unit = { t with probe := p } :=
        State.goodNotice_probe (s := { t with probe := p }) hunit
      rw [hended, hkeeps, ← hevents]
      rfl
    · intro hpresent hattempt
      refine (exec_first_nak hready hstate hreply htx ha hlo hhi hpresent hattempt).trans ?_
      rw [State.withUnit_of_same_state (s := s) hpresent]
      simp only [UnitRec.replied, ← hpresent]
      rfl
    · intro hpresent hattempt horig hsweep
      refine (hrefused hpresent hattempt).trans ?_
      simp only [State.handResult_live hlive, horig]
      rw [State.probeTuneEnded_failed (s := refused) hsweep]
    · intro c hpresent horig hcmd
      refine ⟨(hheard hpresent hcmd).trans ?_, fun hattempt => (hrefused hpresent hattempt).trans ?_⟩
      · simp only [State.handResult_live hlive, horig]
      · simp only [State.handResult_live hlive, horig]
    · intro l b hpresent horig hcmd hfind
      refine ⟨(hheard hpresent hcmd).trans ?_, fun hattempt => (hrefused hpresent hattempt).trans ?_⟩
      · simp only [State.handResult_live hlive, horig, State.linkTxEnded_binding (s := heard) hfind]
      · simp only [State.handResult_live hlive, horig, State.linkTxEnded_binding (s := refused) hfind]
    · intro l hl hpresent horig hcmd hnone hpending
      refine ⟨(hheard hpresent hcmd).trans ?_, fun hattempt => (hrefused hpresent hattempt).trans ?_⟩
      · have hended : heard.linkTxEnded l true .none = heard.withRecord l { s.link l with mutePending := false } :=
          (State.linkTxEnded_unmute (s := heard) hnone).trans (if_pos ⟨rfl, hpending⟩)
        simp only [State.handResult_live hlive, horig, hended]
        rfl
      · simp only [State.handResult_live hlive, horig, State.linkTxEnded_unmute (s := refused) hnone]
        rfl
    · intro l hl ch level hpresent horig hcmd hpending
      have hack : ack ((heard.headEnded l level true).goodNotice tx.unit) := by
        refine (hheard hpresent (by rw [hcmd]; exact BusCmd.noConfusion)).trans ?_
        simp only [State.handResult_live hlive, horig, hcmd]
        rfl
      refine ⟨fun happlied => ?_, fun houtdated => ?_, fun hattempt => (hrefused hpresent hattempt).trans ?_⟩
      · rw [State.headEnded_applied (s := heard) hpending happlied] at hack
        exact hack
      · rw [State.headEnded_outdated (s := heard) hpending houtdated] at hack
        exact hack
      · simp only [State.handResult_live hlive, horig]
        rw [State.headEnded_failed (s := refused) hpending]
        rfl
  · obtain ⟨recs, held, hnotice, hplaces⟩ := State.goodNotice_link hpending hrole
    refine ⟨recs, held, hnotice, fun l hl => ?_⟩
    intro r ours
    obtain ⟨hrecs, hheld⟩ := hplaces l hl
    refine ⟨hrecs.trans ?_, hheld⟩
    have hoffers : (r.mutePending ∧ r.offer.isNone ∧ !s.inFlightOf (.link l)) ↔
        r.mutePending = true ∧ r.offer = none ∧ ∀ tx, s.bus.inFlight = some tx → ¬(tx.orig = .link l ∧ tx.live = true) :=
      and_congr_right' (and_congr Option.isNone_iff_eq_none (s.not_inFlightOf_iff (.link l)))
    by_cases hours : ours
    · rw [if_pos hours, State.unmuted]
      by_cases hwaits : r.mutePending ∧ r.offer.isNone ∧ !s.inFlightOf (.link l)
      · rw [if_pos hwaits, if_pos ⟨hours, hoffers.mp hwaits⟩]
      · rw [if_neg hwaits, if_neg fun h => hwaits (hoffers.mpr h.2)]
    · rw [if_neg hours, if_neg fun h => hours h.1]

end Sys2Proof.Machine
end

section
/-! SUPPORT and the proof on attempts (R58, R62, R63, R66, R68, R71, R72, R85): the reply window, the retry, the failure, and the links of a unit that becomes MISSING or PRESENT. -/

namespace Sys2Proof.Machine

/-! ## EVENTS.LINK stays set (R188) -/

/-- EVENTS.LINK is set (R188). -/
def State.LinkNoted (s : State) : Prop := s.board.events.getLsbD 1 = true

section Noted

variable {s t : State}

namespace State.LinkNoted

theorem of_board (h : LinkNoted s) (hboard : t.board = s.board) : LinkNoted t := by
  unfold LinkNoted
  rwa [hboard]

/-- Another event set keeps it (R188). -/
theorem raise (h : LinkNoted s) (e : Event) : LinkNoted (s.raise e) := by
  unfold LinkNoted at h ⊢
  rw [State.raise_events, BitVec.getLsbD_or, h, Bool.true_or]

theorem branch {c : Prop} [Decidable c] (h : LinkNoted s) (h' : LinkNoted t) : LinkNoted (if c then s else t) := by
  split <;> assumption

theorem foldl {α : Type} {f : State → α → State} (hf : ∀ s a, LinkNoted s → LinkNoted (f s a)) (l : List α) (h : LinkNoted s) :
    LinkNoted (l.foldl f s) :=
  List.foldlRecOn l f (motive := LinkNoted) h fun t ht a _ => hf t a ht

theorem talkRewrites (h : LinkNoted s) (k : Nat) : LinkNoted (s.talkRewrites k) :=
  branch h (.raise (h.of_board rfl) _)

theorem writePoint (h : LinkNoted s) (p v : Nat) : LinkNoted (s.writePoint p v) :=
  branch h (branch (.raise (h.of_board rfl) _) (h.of_board rfl))

theorem settleDest (h : LinkNoted s) (l : Nat) : LinkNoted (s.settleDest l) := by
  have hwritten : LinkNoted (s.writeTalkPoints l) := by
    unfold State.writeTalkPoints
    split
    · exact h
    · exact foldl (fun t st ht => ht.writePoint _ _) _ h
  exact branch (branch hwritten (hwritten.of_board rfl)) hwritten

theorem setDest (h : LinkNoted s) (l : Nat) (f : Dest → Dest) : LinkNoted (s.setDest l f) := h.of_board rfl

theorem recomputeKeys (h : LinkNoted s) : LinkNoted s.recomputeKeys := h.of_board rfl

theorem talkEvent {f : State → State} (h : LinkNoted (f s)) : LinkNoted (s.talkEvent f) := by
  unfold State.talkEvent State.countTalk
  exact talkRewrites (foldl (fun _ l ht => ht.setDest l _) _ h.recomputeKeys) _

theorem talkLinkChange (h : LinkNoted s) (l : Nat) : LinkNoted (s.talkLinkChange l) := by
  unfold State.talkLinkChange
  exact branch h (talkEvent ((h.setDest l _).settleDest l))

theorem lampEvent (h : LinkNoted s) (n : Nat) (f : Lamp → Lamp) : LinkNoted (s.lampEvent n f) :=
  branch (h.of_board rfl) (h.of_board rfl)

theorem lampStateChange (h : LinkNoted s) (l : Nat) : LinkNoted (s.lampStateChange l) :=
  foldl (fun _ n ht => ht.lampEvent n _) _ h

end State.LinkNoted

/-- A change of a link's supervision state sets EVENTS.LINK (R81). -/
theorem State.linkCore_noted (s : State) (l : Nat) (f : LinkRec → LinkRec) : State.LinkNoted (s.linkCore l f) := by
  have hrewritten : State.LinkNoted (s.rewriteLink l fun r => (f r).trimTimers) := Board.note_link_event s.board (es := [.link]) (by simp)
  exact .branch hrewritten ((hrewritten.talkLinkChange l).lampStateChange l)

end Noted

/-! ## A change of a link's state that releases no move (R90, R98) -/

open State.StudioOnly

section Core

variable {s : State} {l : Nat}

/-- A link's context is on that link. -/
theorem State.ctx_link_of_ctxOf {c : Nat} (h : s.ctxOf l = some c) : (s.ctx c).link = l := by
  have hmem := List.mem_of_mem_head? h
  simp only [placesWhere, List.mem_filter, decide_eq_true_eq] at hmem
  exact hmem.2.2

/-- A link outside LIVE, WEAK and MISTUNED releases no move (R98). -/
theorem State.heldTestLink_of_state (h : (s.link l).state ∉ [LinkState.live, .weak, .mistuned]) : s.heldTestLink l = s := by
  unfold State.heldTestLink
  split
  · rfl
  · next c hctx =>
    refine if_neg fun hreleasable => h ?_
    obtain ⟨-, -, hstate, -⟩ := of_decide_eq_true hreleasable
    simpa [State.ctx_link_of_ctxOf hctx] using hstate

/-- A change to such a state is handed to the talkback controller and the lamps only (R90). -/
theorem State.linkChange_eq_linkCore {f : LinkRec → LinkRec} (hl : l < 32) (h : (f (s.link l)).state ∉ [LinkState.live, .weak, .mistuned]) :
    s.linkChange l f = s.linkCore l f := by
  have hstate : ((s.linkCore l f).link l).state = (f (s.link l)).state := by
    rw [State.linkCore_link_same f hl]
    exact LinkRec.trimTimers_state _
  simp only [State.linkChange, State.heldTestLink_of_state (s := s.linkCore l f) (hstate ▸ h), ite_self]

/-- The state u differs from s in no more than the link supervisor, the board, talkback, the matrix line and the lamps. -/
def State.SupervisionOnly (s u : State) : Prop := ∃ links : Links, State.StudioOnly { s with links } u

theorem State.SupervisionOnly.linkCore {t : State} (h : s.SupervisionOnly t) (l : Nat) (f : LinkRec → LinkRec) :
    s.SupervisionOnly (t.linkCore l f) := by
  have htold : (t.rewriteLink l fun r => (f r).trimTimers).StudioOnly (t.linkCore l f) :=
    branch (same _) ((State.talkLinkChange_studioOnly _ l).trans (State.lampStateChange_studioOnly _ l))
  obtain ⟨links, board, talk, matrix, lamps, rfl⟩ := h
  exact ⟨_, .trans ⟨_, _, _, _, rfl⟩ htold⟩

end Core

/-! ## The links of a unit that becomes MISSING or PRESENT (R85) -/

/-- The state a link takes when its unit enters state u, where it changes at all (R85). -/
def UnitState.leads : UnitState → LinkState → Option LinkState
  | .missing, .bound => some .unitMissing
  | .missing, .live => some .unitMissing
  | .missing, .weak => some .unitMissing
  | .missing, .lost => some .unitMissing
  | .missing, .mistuned => some .unitMissing
  | .present, .unitMissing => some .bound
  | _, _ => none

/-- A link's record when its unit enters state u (R84, R85). -/
def LinkRec.told (r : LinkRec) (u : UnitState) : LinkRec :=
  match u.leads r.state with
  | some x => { ({ r with state := x } : LinkRec).trimTimers with edition := r.edition + 1 }
  | none => r

section Told

variable {r : LinkRec}

/-- The links that a MISSING unit takes along (R85). -/
theorem LinkRec.told_missing (h : r.state ∈ [LinkState.bound, .live, .weak, .lost, .mistuned]) : r.told .missing =
    { r with state := .unitMissing, weakTimer := none, lossTimer := none, rescueTimer := .stopped, rescueBarred := false
             edition := r.edition + 1 } := by
  have hleads : UnitState.missing.leads r.state = some .unitMissing := by
    simp only [List.mem_cons, List.not_mem_nil, or_false] at h
    obtain h | h | h | h | h := h <;> rw [h] <;> rfl
  simp only [LinkRec.told, hleads]
  rfl

theorem LinkRec.told_missing_of_other (h : r.state ∉ [LinkState.bound, .live, .weak, .lost, .mistuned]) : r.told .missing = r := by
  have hleads : UnitState.missing.leads r.state = none := by
    revert h
    cases r.state <;> decide
  simp only [LinkRec.told, hleads]

/-- The links that return with their unit (R85). -/
theorem LinkRec.told_present (h : r.state = .unitMissing) : r.told .present =
    { r with state := .bound, rescueTimer := .stopped, rescueBarred := false, edition := r.edition + 1 } := by
  simp only [LinkRec.told, h]
  rfl

theorem LinkRec.told_present_of_other (h : r.state ≠ .unitMissing) : r.told .present = r := by
  have hleads : UnitState.present.leads r.state = none := by
    revert h
    cases r.state <;> decide
  simp only [LinkRec.told, hleads]

end Told

section Notice

variable {s : State} {a : Nat}

/-- A unit's state leads to no state in which a link releases a move (R85, R98). -/
theorem UnitState.leads_releases_none {u : UnitState} {x y : LinkState} (h : u.leads x = some y) : y ∉ [LinkState.live, .weak, .mistuned] := by
  unfold UnitState.leads at h
  split at h
  case h_7 => cases h
  all_goals
    obtain rfl := Option.some.inj h
    decide

/-- The state notice takes each bound link along by the state of its unit (R85). -/
theorem State.stateNotice_eq (s : State) (a : Nat) : s.stateNotice a = (s.linksOfUnit a).foldl (fun t l =>
    match (s.unit a).state.leads (t.link l).state with
    | some x => t.linkChange l fun r => { r with state := x }
    | none => t) s := by
  unfold State.stateNotice
  congr
  funext t l
  cases (s.unit a).state <;> cases (t.link l).state <;> rfl

/-- The links of a unit after its change of state, place by place; other blocks stay (R85). -/
theorem State.stateNotice_links (hnoted : State.LinkNoted s) :
    (s.SupervisionOnly (s.stateNotice a) ∧ State.LinkNoted (s.stateNotice a)) ∧
    (∀ l ∈ s.linksOfUnit a, (s.stateNotice a).link l = (s.link l).told (s.unit a).state) ∧
    ∀ m, m ∉ s.linksOfUnit a → (s.stateNotice a).link m = s.link m := by
  rw [State.stateNotice_eq]
  refine State.foldl_places State.link (R := fun s t => s.SupervisionOnly t ∧ State.LinkNoted t) ⟨⟨_, same s⟩, hnoted⟩
    (s.linksOfUnit_nodup a) fun t l hl ht hlink => ?_
  obtain ⟨hl, -⟩ := (s.mem_linksOfUnit a l).mp hl
  rw [LinkRec.told, ← hlink]
  split
  · next x hleads =>
    rw [State.linkChange_eq_linkCore hl (UnitState.leads_releases_none hleads)]
    exact ⟨⟨ht.1.linkCore l _, t.linkCore_noted l _⟩, State.linkCore_link_same _ hl, fun m hm => State.linkCore_link_ne _ hm.symm⟩
  · exact ⟨ht, rfl, fun _ _ => rfl⟩

end Notice

/-! ## A LINK unit that changes its state (R68, R85) -/

section Tells

variable {s : State} {a : Nat} {v : UnitRec} (hlo : 1 ≤ a) (hrole : (s.unit a).role = .link) (hstate : v.state ≠ (s.unit a).state)
include hrole hstate

theorem State.withUnit_noted : State.LinkNoted (s.withUnit a v) := by
  refine Board.note_link_event s.board ?_
  rw [UnitRec.changeEvents, if_pos hstate.symm, UnitRec.event, hrole]
  exact List.mem_singleton.mpr rfl

variable (hhi : a ≤ 16)
include hlo hhi

/-- A LINK unit's change of state: its record, EVENTS.LINK, its links; the other blocks stay (R67, R68, R85). -/
theorem State.unitTells (s' : State) (hs' : s' = (s.withUnit a v).stateNotice a) :
    (∃ (links : Links) (board : Board) (talk : Talk) (matrix : Matrix) (lamps : Lamps),
      s' = { s with bus := { s.bus with units := put s.bus.units (a - 1) v }, links, board, talk, matrix, lamps }) ∧
    State.LinkNoted s' ∧
    ∀ l < 32, ((s.link l).state ≠ .vacant ∧ (s.link l).unit = a → s'.link l = (s.link l).told v.state) ∧
      (¬((s.link l).state ≠ .vacant ∧ (s.link l).unit = a) → s'.link l = s.link l) := by
  obtain ⟨⟨⟨links, hstudio⟩, hnoted⟩, hours, hothers⟩ := State.stateNotice_links (a := a) (State.withUnit_noted hrole hstate)
  have hlink : (s.withUnit a v).link = s.link := rfl
  rw [State.withUnit_unit_same hlo hhi, hlink] at hours
  rw [hlink] at hothers
  obtain ⟨board, talk, matrix, lamps, hnotice⟩ := hstudio
  subst hs'
  refine ⟨⟨links, board, talk, matrix, lamps, hnotice⟩, hnoted, fun l hl => ⟨fun h => hours l ?_, fun h => hothers l fun hmem => h ?_⟩⟩
  · exact (State.mem_linksOfUnit _ a l).mpr ⟨hl, h⟩
  · exact ((State.mem_linksOfUnit _ a l).mp hmem).2

end Tells

/-! ## The end of the reply window (R62, R63, R72) -/

section Window

variable {s : State} {tx : Tx} {tm : Timer} (hready : s.board.ready = true) (hwindow : s.bus.window = some tm)
  (hdue : tm.len ≤ (s.board.time - tm.start).toNat) (hstate : s.bus.state = .listening ∨ s.bus.state = .draining)
  (htx : s.bus.inFlight = some tx)
include hready hwindow hdue hstate htx

/-- A first attempt is sent again (R63). -/
theorem exec_window_again (hattempt : tx.attempt = 1) : exec .replyWindowEnd s = .next (s.resent tx).settle := by
  rw [exec_replyWindowEnd hready hwindow hdue, State.windowEnd_fails hstate htx,
    State.attemptFailed_again hattempt s.bus.windowCause_ne_refused]

/-- A second attempt fails the transaction (R63, R66, R68). -/
theorem exec_window_failed (hattempt : tx.attempt = 2) : exec .replyWindowEnd s = .next (State.settle
    ((s.busFreed.withNotice tx.unit fun t => t.unitFailed tx.unit true).handResult tx false s.bus.windowCause)) := by
  rw [exec_replyWindowEnd hready hwindow hdue, State.windowEnd_fails hstate htx,
    State.attemptFailed_missed hattempt s.bus.windowCause_ne_refused]

/-- A first miss of a PRESENT unit: its links are not told (R68, R70). -/
theorem exec_window_first_miss (hattempt : tx.attempt = 2) (hlo : 1 ≤ tx.unit) (hhi : tx.unit ≤ 16)
    (hpresent : (s.unit tx.unit).state = .present) (hmisses : (s.unit tx.unit).misses = 0) :
    exec .replyWindowEnd s = .next (State.settle (State.handResult
      { s with bus := { s.bus with
        state := .idle, inFlight := none, reply := [], window := none
        units := put s.bus.units (tx.unit - 1) { s.unit tx.unit with misses := 1, failed := satInc (s.unit tx.unit).failed } } }
      tx false s.bus.windowCause)) := by
  have hunit : s.busFreed.unit tx.unit = s.unit tx.unit := rfl
  have hnotice := State.withNotice_quiet (s := s.busFreed) (f := fun t => t.unitFailed tx.unit true) hlo hhi
    (State.unitFailed_eq (s := s.busFreed) true (by rw [hunit, hpresent]; decide)) (.inl (by rw [hunit, UnitRec.failedBy_first hmisses]))
  rw [exec_window_failed hready hwindow hdue hstate htx hattempt, hnotice, hunit, UnitRec.failedBy_first hmisses,
    State.busFreed_withUnit_of_same_state (s := s)
      (v := { s.unit tx.unit with misses := 1, failed := satInc (s.unit tx.unit).failed }) rfl]

end Window

/-- The poller's QUERY ends on the bus alone (R72). -/
theorem State.pollEnded_bus (s : State) : s.pollEnded = { s with bus := s.pollEnded.bus } := by
  unfold State.pollEnded
  split
  · exact s.pollChoose_bus
  · rfl

/-- The end of the poller's QUERY leaves the units, the line and the transaction in flight (R72). -/
theorem State.pollEnded_line (s : State) : s.pollEnded.bus.units = s.bus.units ∧ s.pollEnded.bus.state = s.bus.state ∧
    s.pollEnded.bus.inFlight = s.bus.inFlight := by
  unfold State.pollEnded State.pollChoose
  split
  · split <;> exact ⟨rfl, rfl, rfl⟩
  · exact ⟨rfl, rfl, rfl⟩

/-- Settles O29, part by part: the reply window, a garbled byte, the retry, the failure for each originator, and the links of a unit that
becomes MISSING or PRESENT. -/
theorem attemptsOnTheUnitBus : Obligations.AttemptsOnTheUnitBus := by
  refine ⟨?_, ?_, ?_, ?_, ?_, ?_⟩
  · intro s hready hstate
    exact (exec_requestFrameSent hready).trans (congrArg Host.Outcome.next (if_pos hstate))
  · intro s b framing hready
    refine ⟨fun tx hstate htx hbad => ?_, fun hstate => ?_⟩
    · have hgarbled : s.busByte b framing = s.drained := by
        obtain rfl | ⟨hreply, hb⟩ := hbad
        · exact State.busByte_heard true hstate htx
        · cases framing with
          | true => exact State.busByte_heard true hstate htx
          | false => exact State.busByte_otherUnit hstate htx hreply hb
      rw [exec_garbledReplyByte b framing hready, hgarbled]
      rfl
    · rw [exec_garbledReplyByte b framing hready, State.busByte_discarded framing hstate]
  · intro s tx tm hready hwindow hdue hstate htx
    refine ⟨exec_window_again hready hwindow hdue hstate htx, fun hattempt horig hlive hlo hhi hpresent hmisses hgap => ?_⟩
    rw [exec_window_first_miss hready hwindow hdue hstate htx hattempt hlo hhi hpresent hmisses]
    simp only [State.handResult_live hlive, horig]
    exact congrArg (fun t => Host.Outcome.next (State.settle t)) (if_neg hgap)
  · intro s tx tm hready hwindow hdue hstate htx hattempt hlo hhi hpresent hmisses u cause failed ends
    have hends : ends (failed.handResult tx false cause) :=
      exec_window_first_miss hready hwindow hdue hstate htx hattempt hlo hhi hpresent hmisses
    refine ⟨fun hdead => ?_, fun c hlive horig => ?_, fun l b hlive horig hfind => ?_, fun l hlive horig hnone => ?_,
      fun l hl hlive horig hpending => ?_, fun hlive horig hsweep => ?_, fun hlive horig hidle => ?_⟩
    · rwa [State.handResult_ended hdead] at hends
    · simpa only [State.handResult_live hlive, horig] using hends
    · simpa only [State.handResult_live hlive, horig, State.linkTxEnded_binding (s := failed) hfind] using hends
    · simp only [State.handResult_live hlive, horig, State.linkTxEnded_unmute (s := failed) hnone] at hends
      exact hends
    · simp only [State.handResult_live hlive, horig, State.headEnded_failed (s := failed) hpending] at hends
      exact hends
    · simp only [State.handResult_live hlive, horig] at hends
      rwa [State.probeTuneEnded_failed (s := failed) hsweep] at hends
    · simp only [State.handResult_live hlive, horig] at hends
      rwa [State.probeTuneEnded_idle (s := failed) hidle] at hends
  · intro s tx tm hready hwindow hdue hstate htx hattempt horig hlive hlo hhi hrole hheard hmisses x lost
    have hfailed : x.failedBy true = { x with state := .missing, misses := satInc x.misses, failed := satInc x.failed } :=
      UnitRec.failedBy_again hmisses
    have hchanged : (x.failedBy true).state ≠ x.state := by
      rw [hfailed]
      intro hsame
      obtain h | h := hheard <;> cases hsame.trans h
    have hused : x.state ≠ .unused := by
      obtain h | h := hheard <;> rw [h] <;> decide
    obtain ⟨⟨links, board, talk, matrix, lamps, hframe⟩, hnoted, hlinks⟩ :=
      State.unitTells (s := s.busFreed) hlo hrole hchanged hhi _ rfl
    have hexec := exec_window_failed hready hwindow hdue hstate htx hattempt
    rw [State.withNotice_told (s := s.busFreed) (f := fun t => t.unitFailed tx.unit true) (v := x.failedBy true) hlo hhi
      (State.unitFailed_eq (s := s.busFreed) true hused) hchanged hrole] at hexec
    set t := (s.busFreed.withUnit tx.unit (x.failedBy true)).stateNotice tx.unit
    simp only [State.handResult_live hlive, horig] at hexec
    have hrest : t.pollEnded = { t with bus := t.pollEnded.bus } := t.pollEnded_bus
    obtain ⟨hunits, hline, hfree⟩ := t.pollEnded_line
    have hunit (c : Nat) : t.pollEnded.unit c = look (put s.bus.units (tx.unit - 1) (x.failedBy true)) (c - 1) := by
      rw [State.unit, hunits, hframe]
      rfl
    refine ⟨t.pollEnded, hexec, ?_, fun c hc _ hne => ?_, ?_, ?_, ?_, fun l hl => ⟨fun hlost => ?_, fun hkept => ?_⟩, ?_⟩
    · rw [hunit, look_put_same _ _ _ (by omega), hfailed]
    · rw [hunit, look_put_ne _ _ _ _ (by omega)]
      rfl
    · rw [hline, hframe]
      rfl
    · rw [hfree, hframe]
      rfl
    · rw [hrest]
      exact hnoted
    · obtain ⟨hstates, hours⟩ := hlost
      have hbound : (s.link l).state ≠ .vacant := fun h => absurd hstates (by rw [h]; decide)
      rw [hrest]
      refine ((hlinks l hl).1 ⟨hbound, hours⟩).trans ?_
      rw [hfailed]
      exact LinkRec.told_missing hstates
    · rw [hrest]
      by_cases hours : (s.link l).state ≠ .vacant ∧ (s.link l).unit = tx.unit
      · refine ((hlinks l hl).1 hours).trans ?_
        rw [hfailed]
        exact LinkRec.told_missing_of_other fun hstates => hkept ⟨hstates, hours.2⟩
      · exact (hlinks l hl).2 hours
    · rw [hrest, hframe]
      exact ⟨rfl, rfl, rfl, rfl, rfl, rfl⟩
  · intro s tx a hready hstate hreply htx hlive hlo hhi ha hrole hmissing hattempt x back
    have hused : x.state ≠ .unused := by rw [hmissing]; decide
    have hchanged : (x.replied false).state ≠ x.state := by rw [hmissing]; exact UnitState.noConfusion
    obtain ⟨⟨links, board, talk, matrix, lamps, hframe⟩, hnoted, hlinks⟩ :=
      State.unitTells (s := s.collected [a, 0x43, 0]) hlo hrole hchanged hhi _ rfl
    have hexec := exec_nak hready hstate hreply htx ha
    rw [State.attemptFailed_refused_again hattempt,
      State.withNotice_told (s := s.collected [a, 0x43, 0]) (f := fun t => t.unitReplied tx.unit false) (v := x.replied false) hlo hhi
        (State.unitReplied_eq (s := s.collected [a, 0x43, 0]) false hused) hchanged hrole] at hexec
    set t := ((s.collected [a, 0x43, 0]).withUnit tx.unit (x.replied false)).stateNotice tx.unit
    refine ⟨t.resent tx, hexec, ?_, rfl, rfl, hnoted, fun l hl => ⟨fun hback => ?_, fun hkept => ?_⟩, ?_⟩
    · rw [hframe]
      exact look_put_same _ _ _ (by omega)
    · obtain ⟨hstates, hours⟩ := hback
      have hbound : (s.link l).state ≠ .vacant := by rw [hstates]; decide
      exact ((hlinks l hl).1 ⟨hbound, hours⟩).trans (LinkRec.told_present hstates)
    · by_cases hours : (s.link l).state ≠ .vacant ∧ (s.link l).unit = tx.unit
      · exact ((hlinks l hl).1 hours).trans (LinkRec.told_present_of_other fun hstates => hkept ⟨hstates, hours.2⟩)
      · exact (hlinks l hl).2 hours
    · rw [hframe]
      exact ⟨rfl, rfl, rfl, rfl, rfl, rfl⟩

end Sys2Proof.Machine
end

section
/-! The refutation on STATUS replies (R70, R82, R140): a link DEFERRED without HEAD_TALLY_PENDING, which nothing in the statement excludes, has its record rewritten by the good-reply notice. -/

namespace Sys2Proof.Machine

/-! ## What a grant leaves of a link's record (R64) -/

/-- A grant leaves HEAD_TALLY_PENDING of every link (R64, R138). -/
theorem State.arbitrate_headPending (s : State) (l : Nat) : (s.arbitrate.link l).headPending = (s.link l).headPending := by
  unfold State.arbitrate
  split
  · split
    · next o unit cmd _ =>
      cases o with
      | link m => exact look_adjust_field LinkRec.headPending s.links.recs m l fun _ => rfl
      | head _ | ctx _ | probe | poller => rfl
    · rfl
  · rfl

/-! ## The counterexample: an ADRIFT link, DEFERRED without the flag, and a STATUS without lock -/

/-- The poller's QUERY to unit 1, in flight. -/
def queryOfUnitOne : Tx :=
  { orig := .poller, unit := 1, cmd := .query, frame := BusCmd.query.frame 1, attempt := 1, live := true, discarded := false }

/-- Link 0 is ADRIFT on unit 1, its origin in plan entry 0 and its target in entry 1. -/
def adriftLink : LinkRec := { LinkRec.vacant with state := .adrift, unit := 1, originEntry := 0, targetEntry := some 1 }

/-- The part with unit 1 PRESENT and asked, and link 0 ADRIFT with its head tally DEFERRED and HEAD_TALLY_PENDING clear. -/
def deferredUnflagged : State :=
  let s := State.reset.initialised
  { s with
    bus := { s.bus with
      state := .listening, inFlight := some queryOfUnitOne, reply := []
      units := put s.bus.units 0 { state := .present, role := .link, misses := 0, good := 0, failed := 0 } }
    links := { s.links with recs := put s.links.recs 0 adriftLink }
    tally := { s.tally with links := put s.tally.links 0 { LinkTally.vacant with head := .deferred } } }

/-- A STATUS of unit 1 without lock on any channel. -/
def statusWithoutLock : List Byte := List.replicate 20 0

/-- HEAD_TALLY_PENDING of link l after a command. -/
def headPendingAfter (c : Instr) (s : State) (l : Nat) : Bool :=
  match exec c s with
  | .next t => (t.link l).headPending
  | .fault _ => false
  | .refused _ => false

/-- The notice makes link 0 WAITING, and its record is rewritten with the flag set (R138, R140). -/
theorem headPendingAfter_deferredUnflagged :
    headPendingAfter (.replyFrame (busFrame (BitVec.ofNat 8 (queryOfUnitOne.unit + 0x80)) 0x41 statusWithoutLock)) deferredUnflagged 0 = true := by
  decide

/-- Refutes O36: the report of an ADRIFT link on neither of its codes is said to leave HEAD_TALLY_PENDING, but the good-reply notice sets it
where the head tally is DEFERRED with the flag clear. -/
theorem not_reportsAreJudgedByTheTable : ¬ Obligations.ReportsAreJudgedByTheTable := by
  rintro ⟨-, hstatus⟩
  have hwaits : ∀ l < 32, (deferredUnflagged.link l).rescueTimer ≠ .waiting := by decide
  have halone : ∀ m < 32, m ≠ 0 → (deferredUnflagged.link m).unit ≠ 1 := by decide
  have hfree : ∀ c < 4, (deferredUnflagged.ctx c).phase = .free := by decide
  obtain ⟨-, hadrift, -⟩ := hstatus deferredUnflagged queryOfUnitOne statusWithoutLock rfl rfl rfl rfl rfl rfl (by decide) (by decide)
    rfl rfl rfl hwaits
  obtain ⟨u, hanswers, -, -, -, hneither⟩ := hadrift 0 (by decide) 1 (by decide) rfl ⟨rfl, halone⟩
    (fun ⟨c, hc, hphase, _⟩ => hphase (hfree c hc)) rfl rfl (by decide) (by decide)
  have hnolock : ¬(reportAt statusWithoutLock (deferredUnflagged.link 0).channel).lock = true := by decide
  obtain ⟨hlink, hplan⟩ := hneither (fun hon => hnolock hon.1) (fun hon => hnolock hon.1)
  have hclear : (u.link 0).headPending = false := congrArg LinkRec.headPending hlink
  have hset : (u.settle.link 0).headPending = true := by
    have hrun := headPendingAfter_deferredUnflagged
    rwa [headPendingAfter, hanswers] at hrun
  have hsettle : u.settle = u.arbitrate := State.settle_of_engine_still (.inr (by rw [hplan]; exact ⟨rfl, rfl⟩))
  rw [hsettle, State.arbitrate_headPending, hclear] at hset
  exact Bool.noConfusion hset

end Sys2Proof.Machine
end

section
/-! SUPPORT and the proof on link options (R73, R76, R81, R87). -/

namespace Sys2Proof.Machine

/-! ## A link's record changed in place (R76, R87) -/

section Touched

variable {s : State} {l : Nat}

/-- What a change in place makes of the record is all that counts of it. -/
theorem State.touchLink_congr {f g : LinkRec → LinkRec} (h : f (s.link l) = g (s.link l)) : s.touchLink l f = s.touchLink l g := by
  have hadjust : adjust s.links.recs l f = adjust s.links.recs l g := congrArg (put s.links.recs l) h
  simp only [State.touchLink, hadjust]

/-- A record rewritten and then changed in place. -/
theorem State.withRecord_touchLink (hl : l < 32) (r : LinkRec) (f : LinkRec → LinkRec) : (s.withRecord l r).touchLink l f = { s with
    links := { s.links with recs := put s.links.recs l (f { r with edition := r.edition + 1 }), edition := s.links.edition + 1 }
    board := s.board.note [.link] } := by
  simp only [State.touchLink, State.withRecord, adjust, look_put_same _ _ _ hl, put_put]

/-- The rescue timer starts for the link's rescue time (R87). -/
theorem State.startRescue_eq : s.startRescue l =
    if (s.link l).state = .weak ∧ (s.link l).options.rescue = true ∧ s.ctxOf l = none
    then s.setRescue l (s.rescueIn (s.link l).options.rescueTime) else s := by
  unfold State.startRescue
  refine if_congr (by rw [Option.isNone_iff_eq_none]) ?_ rfl
  exact State.touchLink_congr rfl

end Touched

/-! ## Fields that may be absent (R76, R192) -/

/-- A field that is given is clamped; an absent one takes the value in force. -/
theorem clampOpt_value {lo hi : Nat} (h : lo ≤ hi) (d : Nat) (v : Option Nat) :
    (clampOpt lo hi d v).value = v.elim d fun x => max lo (min hi x) := by
  cases v with
  | none => rfl
  | some x => exact clamp_eq_max_min h x

/-- A field is noted as clamped when it is given and out of range. -/
theorem clampOpt_was {lo hi : Nat} (h : lo ≤ hi) (d : Nat) (v : Option Nat) :
    (clampOpt lo hi d v).was = true ↔ ∃ x, v = some x ∧ (x < lo ∨ hi < x) := by
  cases v with
  | none => simp [clampOpt]
  | some x => simp [clampOpt, clampTo_eq h]

/-- Rescue is AUTO for every given word but 0 (R76). -/
theorem clampOpt_rescue (d : Bool) (v : Option Nat) :
    decide ((clampOpt 0 1 (if d then 1 else 0) v).value = 1) = v.elim d fun x => decide (x ≠ 0) := by
  rw [clampOpt_value (by decide)]
  cases v with
  | none => cases d <;> rfl
  | some x => exact decide_eq_decide.mpr (by rw [Option.elim_some]; omega)

/-! ## SET_LINK_OPTIONS (R73, R81, R87) -/

section Taken

variable (s : State) (n : Nat)

/-- Taking a slot leaves the bindings. -/
@[simp] theorem State.taken_tuning (l : Nat) : (s.dropAttention.setSlot n .taken).tuning l = s.tuning l := rfl

/-- Taking a slot leaves the move contexts. -/
@[simp] theorem State.taken_ctxOf (l : Nat) : (s.dropAttention.setSlot n .taken).ctxOf l = s.ctxOf l := rfl

/-- Taking a slot leaves the options its words give. -/
@[simp] theorem State.taken_optionWords (m w : Nat) : (s.dropAttention.setSlot n .taken).optionWords m w = s.optionWords m w := rfl

/-- Taking a slot leaves the poll gap its words carry. -/
@[simp] theorem State.taken_gapField (m : Nat) : (s.dropAttention.setSlot n .taken).gapField m = s.gapField m := rfl

end Taken

/-- The rescue timer of a link without a move that takes new options: OFF stops it, AUTO starts it on a WEAK link (R81, R87). -/
def LinkRec.rescueUnder (r : LinkRec) (o : Options) (now : Time) : RescueTimer :=
  if r.options.rescue = true ∧ o.rescue = false then .stopped
  else if r.options.rescue = false ∧ o.rescue = true ∧ r.state = .weak then .running { start := now, len := o.rescueTime }
  else r.rescueTimer

/-- Options that change are one rewrite of the record, the rescue timer with them (R81, R87). -/
theorem State.writeOptions_eq {s : State} {l : Nat} (hl : l < 32) (hctx : s.ctxOf l = none) (o : Options) :
    s.writeOptions l o = if o = (s.link l).options then s
      else s.withRecord l { s.link l with options := o, rescueTimer := (s.link l).rescueUnder o s.board.time } := by
  unfold State.writeOptions
  refine if_congr Iff.rfl rfl ?_
  set r : LinkRec := { s.link l with options := o } with hr
  have hwritten : (s.rewriteLink l fun r => { r with options := o }) = s.withRecord l r := rfl
  have hrecord : (s.withRecord l r).link l = { r with edition := r.edition + 1 } := look_put_same _ _ _ hl
  have htimer (x : RescueTimer) : (s.withRecord l r).setRescue l x = s.withRecord l { r with rescueTimer := x } :=
    State.withRecord_touchLink hl _ _
  have hstarts : (s.withRecord l r).startRescue l = if r.state = .weak ∧ o.rescue = true
      then s.withRecord l { r with rescueTimer := .running { start := s.board.time, len := o.rescueTime } } else s.withRecord l r := by
    have hnone : (s.withRecord l r).ctxOf l = none := hctx
    simp only [State.startRescue_eq, hrecord, hnone, and_true, htimer]
    rfl
  dsimp only
  rw [hwritten, htimer, hstarts]
  unfold LinkRec.rescueUnder
  cases hold : (s.link l).options.rescue <;> cases hnew : o.rescue <;> simp [hr]
  exact (apply_ite (fun x => s.withRecord l { r with rescueTimer := x }) _ _ _).symm

/-- Options written to a link without a move keep the take of the slot. -/
theorem State.writeOptions_taken {s : State} {l : Nat} (n : Nat) (hl : l < 32) (hctx : s.ctxOf l = none) (o : Options) :
    (s.dropAttention.setSlot n .taken).writeOptions l o = (s.writeOptions l o).dropAttention.setSlot n .taken := by
  rw [State.writeOptions_eq hl hctx, State.writeOptions_eq (s := s.dropAttention.setSlot n .taken) hl hctx, State.taken_link]
  split <;> rfl

/-- The poll gap after a request that carries gap (R73). -/
theorem State.writeGap_eq (s : State) (gap : Option Nat) :
    s.writeGap gap = { s with bus := { s.bus with pollGap := gap.elim s.bus.pollGap (min 1000) } } := by
  cases gap with
  | none => rfl
  | some v =>
    have hclamp : clamp 0 1000 v = min 1000 v := by rw [clamp_eq_max_min (by decide)]; omega
    simp only [State.writeGap, hclamp, Option.elim_some]

/-- SET_LINK_OPTIONS in a slot just taken (R73, R81). -/
theorem State.doSetLinkOptions_taken (s : State) (n : Nat) :
    let l := s.param n 4
    let gap := s.gapField n
    let gapWas := (clampOpt 0 1000 0 gap).was
    let f := ((s.optionWords n 6).select (s.param n 5)).read (s.link l).options
    (s.dropAttention.setSlot n .taken).doSetLinkOptions n =
      if l = 0xFFFF then (s.writeGap gap).answered n (okOrClamped gapWas) []
      else if 31 < l then s.answered n .badField []
      else if (s.link l).state = .vacant then s.answered n .notBound []
      else if s.tuning l then s.answered n .busy []
      else if (s.ctxOf l).isSome then s.answered n .inUse []
      else if f.bad then s.answered n .badField []
      else ((s.writeOptions l f.options).writeGap gap).answered n (okOrClamped (f.was || gapWas)) [] := by
  have hgap (t : State) (gap : Option Nat) :
      (t.dropAttention.setSlot n .taken).writeGap gap = (t.writeGap gap).dropAttention.setSlot n .taken := by
    cases gap <;> rfl
  intro l gap gapWas f
  simp only [State.doSetLinkOptions, State.taken_param, State.taken_gapField, optWord]
  by_cases habsent : s.param n 4 = 0xFFFF
  · simp only [l, habsent, if_true, hgap, State.complete_taken]
    rfl
  · simp only [l, habsent, if_false, State.taken_link, State.taken_tuning, State.taken_ctxOf, State.taken_optionWords, State.complete_taken]
    refine if_ctx_congr Iff.rfl (fun _ => rfl) fun hl => ?_
    refine if_congr Iff.rfl rfl (if_congr Iff.rfl rfl ?_)
    refine if_ctx_congr Iff.rfl (fun _ => rfl) fun hctx => ?_
    refine if_congr Iff.rfl rfl ?_
    have hnone : s.ctxOf (s.param n 4) = none := Option.not_isSome_iff_eq_none.mp hctx
    rw [State.writeOptions_taken n (by omega) hnone, hgap, State.complete_taken]

/-- The poll gap carried by select bit 10 (log entry 17). -/
theorem State.gapField_eq (s : State) (n : Nat) :
    s.gapField n = if ((s.param n 5).testBit 10 && decide (s.param n 19 ≠ 0xFFFF)) = true then some (s.param n 19) else none := by
  unfold State.gapField maskBit optWord
  by_cases hbit : (s.param n 5).testBit 10 = true <;> by_cases habsent : s.param n 19 = 0xFFFF <;> simp [hbit, habsent]

/-- Settles O32: each option is a field that may be absent, and a request that is accepted is one rewrite at most. -/
theorem linkOptionsAreClampedAndWritten : Obligations.LinkOptionsAreClampedAndWritten := by
  refine ⟨?_, ?_⟩
  · intro o d f fit off
    have hfit (lo hi cur : Nat) (v : Option Nat) : fit lo hi cur v = v.elim cur fun x => max lo (min hi x) := by
      cases v <;> rfl
    refine ⟨?_, ?_, ?_, rfl⟩
    · simp only [f, OptionWords.read, clampOpt_rescue]
      simp only [Config.maxCode, hfit, clampOpt_value (Nat.zero_le _),
        clampOpt_value (show 50 ≤ 10000 by decide), clampOpt_value (show 1000 ≤ 600000 by decide),
        clampOpt_value (show 500 ≤ 10000 by decide), clampOpt_value (show 1000 ≤ 3600000 by decide)]
      cases o.rescue <;> rfl
    · simp only [f, off, OptionWords.read, Config.maxCode, Bool.or_eq_true, or_assoc, clampOpt_was (Nat.zero_le _),
        clampOpt_was (show 50 ≤ 10000 by decide), clampOpt_was (show 1000 ≤ 600000 by decide),
        clampOpt_was (show 500 ≤ 10000 by decide), clampOpt_was (show 1000 ≤ 3600000 by decide)]
    · exact decide_eq_true_iff
  · intro n s hn ht p l carried gap gapWas old f new timer refuse
    have hgap : s.gapField n = if carried = true then some (p 19) else none := s.gapField_eq n
    have hvalue : (s.gapField n).elim s.bus.pollGap (min 1000) = gap := by
      rw [hgap]
      exact apply_ite (fun v : Option Nat => v.elim s.bus.pollGap (min 1000)) _ _ _
    have hgapped {t : State} (hbus : t.bus = s.bus) :
        t.writeGap (s.gapField n) = { t with bus := { s.bus with pollGap := gap } } := by
      rw [State.writeGap_eq, hbus, hvalue]
    have hwas : (clampOpt 0 1000 0 (s.gapField n)).was = gapWas := by
      rw [hgap, Bool.eq_iff_iff, clampOpt_was (by decide)]
      simp only [gapWas, Bool.and_eq_true, decide_eq_true_eq]
      cases carried <;> simp
    calc exec (.setLinkOptions n) s
        = .next ((s.dropAttention.setSlot n .taken).doSetLinkOptions n).settle := State.request_taken s n 16 _ hn ht
      _ = _ := ?_
    rw [State.doSetLinkOptions_taken, hwas]
    refine congrArg (fun t : State => Host.Outcome.next t.settle) ?_
    refine if_congr Iff.rfl (congrArg (State.answered · n _ []) (hgapped rfl)) (if_ctx_congr Iff.rfl (fun _ => rfl) fun hl => ?_)
    refine if_congr Iff.rfl rfl (if_congr Iff.rfl rfl (if_ctx_congr Iff.rfl (fun _ => rfl) fun hctx => ?_))
    refine if_congr Iff.rfl rfl ?_
    have hwritten := State.writeOptions_eq (Nat.lt_succ_of_le (Nat.le_of_not_lt hl)) (Option.not_isSome_iff_eq_none.mp hctx) new
    show ((s.writeOptions l new).writeGap (s.gapField n)).answered n _ [] = _
    by_cases hsame : new = old
    · rw [hwritten, if_pos hsame, if_pos hsame, hgapped rfl]
      rfl
    · rw [hwritten, if_neg hsame, if_neg hsame, hgapped (t := s.withRecord l _) rfl]
      rfl

end Sys2Proof.Machine
end

section
/-! SUPPORT and the proof on BIND_LINK (R37, R77, R186). -/

namespace Sys2Proof.Machine

/-! ## The fields of a BIND_LINK (R77, R195) -/

/-- The studios by number (R192). -/
theorem studioOf_eq (v : Nat) : studioOf v = if 1 < v then none else some (if v = 0 then .a else .b) := by
  match v with
  | 0 | 1 => rfl
  | v + 2 => simp [studioOf]

/-- A tally source word that is out of range (R195). -/
theorem sourceOf_eq (v : Nat) :
    sourceOf v = if 1 < v / 256 ∨ v % 256 = 0 ∨ 64 < v % 256 then none else some (v / 256, v % 256) := by
  unfold sourceOf highByte lowByte
  rw [← ite_not]
  exact if_congr (by omega) rfl rfl

/-- A list of tally source words stands when each of them does. -/
theorem mapM_sourceOf (vs : List Nat) : vs.mapM sourceOf =
    if ∃ v ∈ vs, 1 < v / 256 ∨ v % 256 = 0 ∨ 64 < v % 256 then none else some (vs.map fun v => (v / 256, v % 256)) := by
  induction vs with
  | nil => rfl
  | cons v vs ih =>
    rw [List.mapM_cons, ih, sourceOf_eq]
    by_cases hv : 1 < v / 256 ∨ v % 256 = 0 ∨ 64 < v % 256 <;>
      by_cases hvs : ∃ v ∈ vs, 1 < v / 256 ∨ v % 256 = 0 ∨ 64 < v % 256 <;> simp [hv, hvs]

/-- The tally sources of a request: at most 4, each in range (R77, R131). -/
theorem State.sourceList_eq (s : State) (n w count : Nat) :
    let source (k : Nat) : Nat × Nat := (s.param n (w + k) / 256, s.param n (w + k) % 256)
    s.sourceList n w count =
      if 4 < count ∨ ∃ k < count, 1 < (source k).1 ∨ (source k).2 = 0 ∨ 64 < (source k).2 then none
      else some ((List.range count).map source) := by
  intro source
  rw [ite_or, State.sourceList, mapM_sourceOf, List.map_map]
  exact if_congr Iff.rfl rfl (if_congr (by simp [source]) rfl rfl)

/-- The matrix output of a CAMERA or IEM link is in range; a MIC link has none (R77). -/
theorem outputField_eq (k : LinkKind) (v : Nat) :
    outputField k v = if k ≠ .mic ∧ 31 < v then none else some (if k = .mic then none else some v) := by
  cases k with
  | mic => rfl
  | camera | iem => simp [outputField, ← ite_not (31 < v)]

/-- A field that fails a test ends the reading of the fields. -/
theorem bind_ite_none {α β : Type} {c : Prop} [Decidable c] (a : α) (f : α → Option β) :
    ((if c then none else some a) >>= f) = if c then none else f a := by
  split <;> rfl

/-- A field of a BIND_LINK is out of range, or FORCE comes without an explicit code (R77, steps 1 to 3). -/
def State.BindRefused (s : State) (n : Nat) : Prop :=
  let p := s.param n
  let source (k : Nat) : Nat × Nat := (p (28 + k) / 256, p (28 + k) % 256)
  31 < p 4 ∨ 2 < p 5 % 256 ∨ 1 < p 5 / 256 ∨ p 6 % 256 = 0 ∨ 16 < p 6 % 256 ∨ 3 < p 6 / 256 ∨ 4 < p 27 ∨
    (∃ k < p 27, 1 < (source k).1 ∨ (source k).2 = 0 ∨ 64 < (source k).2) ∨
    ((p 13).testBit 0 = true ∧ decide (p 9 = 0xFFFF) = true) ∨ (p 5 % 256 ≠ 1 ∧ 31 < p 7) ∨
    ((s.optionWords n 14).read Options.default).bad = true

/-- The binding, plan job work and half-width of a BIND_LINK whose fields stand (R77). -/
def State.bindRead (s : State) (n : Nat) : BindFields :=
  let p := s.param n
  let auto := decide (p 9 = 0xFFFF)
  let o := (s.optionWords n 14).read Options.default
  let g := gridField o.options.searchLo o.options.searchHi (p 10) (p 11) (p 12)
  { binding :=
      { slot := n, link := p 4, kind := if p 5 % 256 = 0 then .camera else if p 5 % 256 = 1 then .mic else .iem
        studio := if p 5 / 256 = 0 then .a else .b, unit := p 6 % 256, channel := p 6 / 256
        output := if p 5 % 256 = 1 then none else some (p 7), options := o.options
        sources := (List.range (p 27)).map fun k => (p (28 + k) / 256, p (28 + k) % 256)
        clamped := decide (p 8 ≠ 0xFFFF ∧ 320 < p 8) || o.was || (if auto then g.was else decide (12799 < p 9))
        stage := .seeking, entry := 0, code := 0, examined := 0, reason := none, farCause := .none }
    work := if auto then .search g.grid else .check (min 12799 (p 9)) ((p 13).testBit 0)
    width := if p 8 = 0 ∨ p 8 = 0xFFFF then 0 else min 320 (p 8) }

/-- The kind read from its number is MIC exactly for 1. -/
theorem linkKind_eq_mic_iff (v : Nat) : (if v = 0 then LinkKind.camera else if v = 1 then .mic else .iem) = .mic ↔ v = 1 := by
  split
  · simp [*]
  · split <;> simp [*]

/-- The fields of a BIND_LINK as its words give them (R77). -/
theorem State.bindFields_eq (s : State) (n : Nat) [Decidable (s.BindRefused n)] :
    s.bindFields n = if s.BindRefused n then none else some (s.bindRead n) := by
  have hwidth : (widthField (s.param n 8)).value = if s.param n 8 = 0 ∨ s.param n 8 = 0xFFFF then 0 else min 320 (s.param n 8) := by
    rw [widthField_eq, apply_ite Clamped.value]
  have hmic := linkKind_eq_mic_iff (s.param n 5 % 256)
  simp only [State.bindFields, linkKindOf_eq, studioOf_eq, s.sourceList_eq, outputField_eq, bind_ite_none, ← ite_or, lowByte, highByte,
    clampTo_code, widthField_was, hwidth, flagForce, maskBit, ne_eq, hmic, Bool.and_eq_true]
  refine if_congr ?_ rfl rfl
  simp only [State.BindRefused, ne_eq, iff_iff_eq]
  ac_rfl

/-! ## Claims (R77) -/

theorem State.someBound_iff (s : State) (p : LinkRec → Bool) :
    s.someBound p = true ↔ ∃ m < 32, (s.link m).state ≠ .vacant ∧ p (s.link m) = true := by
  simp [State.someBound, placesWhere]

/-- The link, the unit and channel pair or the matrix output of a binding is taken (R77, steps 4 to 7). -/
theorem State.claimsTaken_iff (s : State) (b : Binding) :
    let bound (f : LinkRec → Prop) : Prop := ∃ m < 32, (s.link m).state ≠ .vacant ∧ f (s.link m)
    let claimed (f : Binding → Prop) : Prop := ∃ x ∈ s.links.bindings, f x
    s.claimsTaken b = true ↔
      (s.link b.link).state ≠ .vacant ∨ claimed (fun x => x.link = b.link) ∨ s.probe.unit = b.unit ∨
      bound (fun r => r.unit = b.unit ∧ r.channel = b.channel) ∨ claimed (fun x => x.unit = b.unit ∧ x.channel = b.channel) ∨
      (b.output ≠ none ∧ (bound (fun r => r.output = b.output) ∨ claimed (fun x => x.output = b.output))) := by
  simp only [State.claimsTaken, Bool.or_eq_true, Bool.and_eq_true, decide_eq_true_eq, List.any_eq_true, State.someBound_iff, or_assoc,
    Option.isSome_iff_ne_none]

/-! ## BIND_LINK at its take (R37, R77) -/

/-- A BIND_LINK with fields that stand, in a slot just taken (R77). -/
theorem State.doBindLink_taken {s : State} {n : Nat} {f : BindFields} (hfields : s.bindFields n = some f) :
    (s.dropAttention.setSlot n .taken).doBindLink n =
      if s.claimsTaken f.binding then s.answered n .inUse (bindWords none none 0 none .none)
      else if s.hostJobsFull then s.answered n .busy (bindWords none none 0 none .none)
      else { s with
        board := s.board.holding n
        links := { s.links with bindings := s.links.bindings ++ [f.binding] }
        plan := { s.plan with waiting := s.plan.waiting ++
          [{ source := .bind n f.binding.link, work := f.work, kind := .link, width := f.width, linkKind := f.binding.kind, link := none,
             clamped := f.binding.clamped }] } } := by
  have hread : (s.dropAttention.setSlot n .taken).bindFields n = some f := hfields
  simp only [State.doBindLink, hread, State.complete_taken]
  rfl

/-- A BIND_LINK with a field that does not stand, in a slot just taken (R77). -/
theorem State.doBindLink_refused {s : State} {n : Nat} (hfields : s.bindFields n = none) :
    (s.dropAttention.setSlot n .taken).doBindLink n = s.answered n .badField (bindWords none none 0 none .none) := by
  have hread : (s.dropAttention.setSlot n .taken).bindFields n = none := hfields
  simp only [State.doBindLink, hread, State.complete_taken]

open Classical in
/-- Settles O33: the fields read from the words, the claims, the room in the waiting list, and the binding with its job. -/
theorem bindLinkBeginsABinding : Obligations.BindLinkBeginsABinding := by
  intro n s hn ht p link kindN studioN unit channel auto force source o g kind output bad bound claimed inUse full refuse clamped
  have hexec {t : State} (h : (s.dropAttention.setSlot n .taken).doBindLink n = t) : exec (.bindLink n) s = .next t.settle := by
    subst h
    exact State.request_taken s n 14 _ hn ht
  have hrefused (h : bad) : s.bindFields n = none := (s.bindFields_eq n).trans (if_pos h)
  have hread (h : ¬bad) : s.bindFields n = some (s.bindRead n) := (s.bindFields_eq n).trans (if_neg h)
  have htaken : s.claimsTaken (s.bindRead n).binding = true ↔ inUse := s.claimsTaken_iff _
  refine ⟨fun hbad => ?_, fun hbad hclaim => ?_, fun hbad hfree hfull => ?_, fun hbad hfree hroom => ?_⟩
  · exact hexec (State.doBindLink_refused (hrefused hbad))
  · exact hexec ((State.doBindLink_taken (hread hbad)).trans (if_pos (htaken.mpr hclaim)))
  · exact hexec ((State.doBindLink_taken (hread hbad)).trans
      ((if_neg (mt htaken.mp hfree)).trans (if_pos (s.hostJobsFull_iff.mpr hfull))))
  · exact hexec ((State.doBindLink_taken (hread hbad)).trans
      ((if_neg (mt htaken.mp hfree)).trans (if_neg (mt s.hostJobsFull_iff.mp hroom))))

end Sys2Proof.Machine
end

section
/-! SUPPORT and the proof on RESOLVE_LINK (R15, R17, R92). -/

namespace Sys2Proof.Machine

/-! ## Entries freed and adopted (R15, R17) -/

section Entries

variable (s : State) {e o t : Nat}

theorem State.freeEntry_entry_same (he : e < 48) : (s.freeEntry e).entry e = { PlanEntry.free with edition := (s.entry e).edition + 1 } := by
  rw [State.freeEntry_eq]
  exact look_put_same _ _ _ he

theorem State.freeEntry_entry_ne (h : e ≠ t) : (s.freeEntry e).entry t = s.entry t := by
  rw [State.freeEntry_eq]
  exact look_put_ne _ _ _ _ h

@[simp] theorem State.freeEntry_edition (e : Nat) : (s.freeEntry e).plan.edition = s.plan.edition + 1 := rfl

@[simp] theorem State.freeEntry_refreshPending (e : Nat) : (s.freeEntry e).plan.refreshPending = true := rfl

/-- The target as a link adopts it: ACTIVE, with the lock flag of the origin (R15). -/
def State.adopting (s : State) (o t : Nat) : State :=
  (s.setEntry t fun x => { x with status := .active, lock := (s.entry o).lock, edition := x.edition + 1 }).planRewrite

/-- A target is adopted, then the origin takes the removal path (R15, R17). -/
theorem State.adopt_eq (o t : Nat) : s.adopt o t = (s.adopting o t).freeEntry o := rfl

theorem State.adopting_entry_same (ht : t < 48) : (s.adopting o t).entry t =
    { s.entry t with status := .active, lock := (s.entry o).lock, edition := (s.entry t).edition + 1 } :=
  look_adjust_same _ _ _ ht

theorem State.adopting_entry_ne (h : t ≠ e) : (s.adopting o t).entry e = s.entry e := look_adjust_ne _ _ _ _ h

theorem State.adopt_entry_target (ht : t < 48) (hne : t ≠ o) : (s.adopt o t).entry t =
    { s.entry t with status := .active, lock := (s.entry o).lock, edition := (s.entry t).edition + 1 } := by
  rw [State.adopt_eq, State.freeEntry_entry_ne _ hne.symm, State.adopting_entry_same _ ht]

theorem State.adopt_entry_origin (ho : o < 48) (hne : t ≠ o) : (s.adopt o t).entry o =
    { PlanEntry.free with edition := (s.entry o).edition + 1 } := by
  rw [State.adopt_eq, State.freeEntry_entry_same _ ho, State.adopting_entry_ne _ hne]

theorem State.adopt_entry_ne (ht : t ≠ e) (ho : o ≠ e) : (s.adopt o t).entry e = s.entry e := by
  rw [State.adopt_eq, State.freeEntry_entry_ne _ ho, State.adopting_entry_ne _ ht]

/-- An adoption counts twice, for the target and for the origin (R5, R15). -/
@[simp] theorem State.adopt_edition (o t : Nat) : (s.adopt o t).plan.edition = s.plan.edition + 2 := by
  rw [show s.plan.edition + 2 = s.plan.edition + 1 + 1 by rw [BitVec.add_assoc]; rfl]
  rfl

theorem State.settleOrigin_eq {l : Nat} (h : (s.link l).targetEntry = some t) : s.settleOrigin l = s.freeEntry t := by
  simp only [State.settleOrigin, h]

theorem State.settleTarget_eq {l : Nat} (h : (s.link l).targetEntry = some t) : s.settleTarget l = s.adopt (s.link l).originEntry t := by
  simp only [State.settleTarget, h]

end Entries

/-! ## What a change of a link's state leaves (R90) -/

/-- The blocks that a change of supervision state leaves. -/
theorem State.SupervisionOnly.blocks {s u : State} (h : s.SupervisionOnly u) :
    u.plan = s.plan ∧ u.bus = s.bus ∧ u.probe = s.probe ∧ u.moves = s.moves ∧ u.lines = s.lines ∧ u.tally = s.tally ∧ u.ref = s.ref ∧
      u.pending = s.pending := by
  obtain ⟨_, _, _, _, _, rfl⟩ := h
  exact ⟨rfl, rfl, rfl, rfl, rfl, rfl, rfl, rfl⟩

theorem State.linkCore_supervisionOnly (s : State) (l : Nat) (f : LinkRec → LinkRec) : s.SupervisionOnly (s.linkCore l f) :=
  State.SupervisionOnly.linkCore ⟨_, State.StudioOnly.same s⟩ l f

/-- A BOUND link keeps its weak and loss timers, and no rescue timer or bar (R84, R87, R88). -/
theorem LinkRec.trimTimers_bound {r : LinkRec} (h : r.state = .bound) :
    r.trimTimers = { r with rescueTimer := .stopped, rescueBarred := false } := by
  simp only [LinkRec.trimTimers, h, LinkState.stopsTimers, Bool.false_eq_true, if_false, reduceCtorEq]

/-! ## RESOLVE_LINK (R92) -/

/-- The completion of a request in the blocks beside the board. -/
theorem State.complete_blocks (s : State) (n : Nat) (r : Result) : ∃ board, s.complete n r = { s with board } ∧
    (n < 32 → look board.slots n = .done) := by
  rw [State.complete_eq]
  exact ⟨_, rfl, fun hn => look_put_same _ _ _ hn⟩

/-- A link becomes BOUND with its entries settled, and its slot completes: the link, and what is left as it was (R92). -/
theorem State.becomesBound {s p : State} {l n : Nat} {f : LinkRec → LinkRec} (hl : l < 32) (hn : n < 32)
    (hbound : (f (p.link l)).state = .bound) (hsettled : ∃ plan board, p = { s with plan, board }) :
    let u := (p.linkChange l f).complete n .ok
    u.link l = { f (s.link l) with rescueTimer := .stopped, rescueBarred := false, edition := (s.link l).edition + 1 } ∧
    (∀ m < 32, m ≠ l → u.link m = s.link m) ∧ u.plan = p.plan ∧ u.slot n = .done ∧ u.bus = s.bus ∧ u.moves = s.moves ∧ u.probe = s.probe ∧
      u.lines = s.lines ∧ u.tally = s.tally ∧ u.ref = s.ref := by
  obtain ⟨board, hcomplete, hdone⟩ := (p.linkCore l f).complete_blocks n .ok
  obtain ⟨hplan, hbus, hprobe, hmoves, hlines, htally, href, -⟩ := (p.linkCore_supervisionOnly l f).blocks
  have hsame := State.linkCore_link_same (s := p) f hl
  have hother (m : Nat) (hm : m ≠ l) := State.linkCore_link_ne (s := p) f hm.symm
  rw [LinkRec.trimTimers_bound hbound] at hsame
  intro u
  have hu : u = { p.linkCore l f with board } := by
    show (p.linkChange l f).complete n .ok = _
    rw [State.linkChange_eq_linkCore hl (by rw [hbound]; decide), hcomplete]
  obtain ⟨plan, before, rfl⟩ := hsettled
  rw [hu]
  exact ⟨hsame, fun m _ hm => hother m hm, hplan, hdone hn, hbus, hmoves, hprobe, hlines, htally, href⟩

/-- RESOLVE_LINK in a slot just taken: its checks, then the entries settled and the link BOUND (R92). -/
theorem State.doResolveLink_taken (s : State) (n : Nat) :
    let l := s.param n 4
    let taken := s.dropAttention.setSlot n .taken
    taken.doResolveLink n =
      if 31 < l ∨ 1 < s.param n 5 then s.answered n .badField []
      else if (s.link l).state = .vacant then s.answered n .notBound []
      else if (s.link l).state ≠ .adrift then s.answered n .notFound []
      else if s.param n 5 = 0 then ((taken.settleOrigin l).linkChange l fun r => { r.keptOrigin with state := .bound }).complete n .ok
      else ((taken.settleTarget l).linkChange l fun r => { r.keptTarget with state := .bound }).complete n .ok := by
  simp only [State.doResolveLink, State.taken_param, State.taken_link, State.complete_taken]
  rfl

/-- Settles O35: the checks in their order, and each end by the entries it settles. -/
theorem resolveLinkSettlesAnAdriftLink : Obligations.ResolveLinkSettlesAnAdriftLink := by
  intro n s hn ht l keep r refuse
  set taken := s.dropAttention.setSlot n .taken with htaken
  have hexec {u : State} (h : taken.doResolveLink n = u) : exec (.resolveLink n) s = .next u.settle := by
    subst h
    exact State.request_taken s n 17 _ hn ht
  have hdo := s.doResolveLink_taken n
  refine ⟨fun hfield => ?_, fun hl hkeep hvacant => ?_, fun hl hkeep hvacant hadrift => ?_, ?_⟩
  · exact hexec (hdo.trans (if_pos hfield))
  · exact hexec (hdo.trans ((if_neg (by omega)).trans (if_pos hvacant)))
  · exact hexec (hdo.trans ((if_neg (by omega)).trans ((if_neg hvacant).trans (if_pos hadrift))))
  intro t hl hkeep hadrift htarget ht48 ho48 hne
  have hvacant : (s.link l).state ≠ .vacant := by rw [hadrift]; decide
  have hsettles {u : State} (h : taken.doResolveLink n = u) := hexec h
  rw [hdo, if_neg (by omega), if_neg hvacant, if_neg (not_not_intro hadrift)] at hsettles
  by_cases horigin : keep = 0
  · have hentries : taken.settleOrigin l = taken.freeEntry t := taken.settleOrigin_eq htarget
    obtain ⟨hlink, hlinks, hplan, hdone, hrest⟩ := State.becomesBound (s := s) (p := taken.settleOrigin l) (l := l) (n := n)
      (f := fun r => { r.keptOrigin with state := .bound }) (by omega) hn rfl (by rw [hentries]; exact ⟨_, _, rfl⟩)
    have hentry (e : Nat) : State.entry _ e = (taken.settleOrigin l).entry e := congrArg (fun p : Plan => look p.entries e) hplan
    refine ⟨_, hsettles (if_pos horigin), ?_, fun _ => ⟨?_, ?_⟩, fun h => absurd (horigin.symm.trans h) (by decide), fun e _ het _ => ?_,
      hlinks, ?_, ?_, hdone, hrest⟩
    · rw [hlink, if_pos horigin, if_pos horigin]
      rfl
    · rw [hentry, hentries, taken.freeEntry_entry_same ht48]
      rfl
    · rw [hentry, hentries, taken.freeEntry_entry_ne hne]
      rfl
    · rw [hentry, hentries, taken.freeEntry_entry_ne het.symm]
      rfl
    · rw [hplan, hentries, if_pos horigin]
      rfl
    · rw [hplan, hentries]
      rfl
  · have hentries : taken.settleTarget l = taken.adopt r.originEntry t := taken.settleTarget_eq htarget
    obtain ⟨hlink, hlinks, hplan, hdone, hrest⟩ := State.becomesBound (s := s) (p := taken.settleTarget l) (l := l) (n := n)
      (f := fun r => { r.keptTarget with state := .bound }) (by omega) hn rfl (by rw [hentries]; exact ⟨_, _, rfl⟩)
    have hentry (e : Nat) : State.entry _ e = (taken.settleTarget l).entry e := congrArg (fun p : Plan => look p.entries e) hplan
    refine ⟨_, hsettles (if_neg horigin), ?_, fun h => absurd h horigin, fun _ => ⟨?_, ?_⟩, fun e _ het heo => ?_,
      hlinks, ?_, ?_, hdone, hrest⟩
    · rw [hlink, if_neg horigin, if_neg horigin, LinkRec.keptTarget, htarget]
      rfl
    · rw [hentry, hentries, taken.adopt_entry_target ht48 hne]
      rfl
    · rw [hentry, hentries, taken.adopt_entry_origin ho48 hne]
      rfl
    · rw [hentry, hentries, taken.adopt_entry_ne het.symm heo.symm]
      rfl
    · rw [hplan, hentries, if_neg horigin]
      exact taken.adopt_edition _ _
    · rw [hplan, hentries]
      rfl

end Sys2Proof.Machine
end

section
/-! SUPPORT on what a link's change of state or unbinding hands to talkback, the matrix line and the lamps (R148, R166, R167, R169, R171). -/

namespace Sys2Proof.Machine

/-! ## Operations of talkback and the duck ramp (chapters 10 and 11) -/

/-- Two link records are one to talkback and the duck ramp. -/
structure LinkRec.TalksAs (r q : LinkRec) : Prop where
  state : q.state = r.state
  kind : q.kind = r.kind
  studio : q.studio = r.studio
  output : q.output = r.output
  applied : q.applied = r.applied

/-- Two states are one to talkback and the duck ramp. -/
structure State.TalksAs (s t : State) : Prop where
  talk : t.talk = s.talk
  matrix : t.matrix = s.matrix
  time : t.board.time = s.board.time
  links : ∀ m, (s.link m).TalksAs (t.link m)

/-- Talkback and the matrix line written, and events noted. -/
def State.withTalk (s : State) (es : List Event) (talk : Talk) (matrix : Matrix) : State :=
  { s with board := s.board.note es, talk, matrix }

/-- An operation of talkback or the duck ramp: it touches talkback and the matrix line, notes events, and does so by no more than what `TalksAs` compares. -/
def State.TalkOp (f : State → State) : Prop := ∀ s t : State, s.TalksAs t → ∃ (es : List Event) (talk : Talk) (matrix : Matrix),
  f s = s.withTalk es talk matrix ∧ f t = t.withTalk es talk matrix

theorem LinkRec.TalksAs.refl (r : LinkRec) : r.TalksAs r := ⟨rfl, rfl, rfl, rfl, rfl⟩

theorem State.TalksAs.refl (s : State) : s.TalksAs s := ⟨rfl, rfl, rfl, fun _ => .refl _⟩

theorem State.TalksAs.dest {s t : State} (h : s.TalksAs t) (l : Nat) : t.dest l = s.dest l := by
  rw [State.dest, h.talk, State.dest]

theorem State.TalksAs.carriesTalk {s t : State} (h : s.TalksAs t) (l : Nat) : (t.link l).carriesTalk = (s.link l).carriesTalk := by
  rw [LinkRec.carriesTalk, (h.links l).state, LinkRec.carriesTalk]

namespace State.TalkOp

variable {f g : State → State}

theorem id : TalkOp fun s => s :=
  fun s t h => ⟨[], s.talk, s.matrix, rfl, by rw [← h.talk, ← h.matrix]; rfl⟩

/-- One such operation after another. -/
theorem comp (hf : TalkOp f) (hg : TalkOp g) : TalkOp fun s => g (f s) := by
  intro s t h
  obtain ⟨es, talk, matrix, hs, ht⟩ := hf s t h
  obtain ⟨fs, talk', matrix', hs', ht'⟩ := hg (f s) (f t) (by rw [hs, ht]; exact ⟨rfl, rfl, h.time, h.links⟩)
  refine ⟨es ++ fs, talk', matrix', hs'.trans ?_, ht'.trans ?_⟩
  · rw [hs, State.withTalk, State.withTalk, Board.note_note, State.withTalk]
  · rw [ht, State.withTalk, State.withTalk, Board.note_note, State.withTalk]

/-- Such operations one by one over a list. -/
theorem foldl {α : Type} {f : State → α → State} (hf : ∀ a, TalkOp (f · a)) (l : List α) : TalkOp fun s => l.foldl f s := by
  induction l with
  | nil => exact id
  | cons a l ih => exact (hf a).comp ih

/-- An operation that goes by a value that both states read alike. -/
theorem reads {β : Type} {v : State → β} {f : β → State → State} (hv : ∀ s t : State, s.TalksAs t → v t = v s) (hf : ∀ b, TalkOp (f b)) :
    TalkOp fun s => f (v s) s := by
  intro s t h
  dsimp only
  rw [hv s t h]
  exact hf (v s) s t h

/-- Such an operation under a test. -/
theorem branch {c : State → Prop} [∀ s, Decidable (c s)] (hc : ∀ s t : State, s.TalksAs t → (c t ↔ c s)) (hf : TalkOp f) (hg : TalkOp g) :
    TalkOp fun s => if c s then f s else g s := by
  intro s t h
  have hct := hc s t h
  by_cases hs : c s
  · simp only [hs, hct.mpr hs, if_true]
    exact hf s t h
  · simp only [hs, mt hct.mp hs, if_false]
    exact hg s t h

/-- What such an operation leaves beside talkback and the matrix line. -/
theorem notes (hf : TalkOp f) (s : State) : ∃ (es : List Event) (talk : Talk) (matrix : Matrix),
    f s = s.withTalk es talk matrix := by
  obtain ⟨es, talk, matrix, h, -⟩ := hf s s (.refl s)
  exact ⟨es, talk, matrix, h⟩

end State.TalkOp

section Talk

open State.TalkOp

theorem State.setDest_talkOp (l : Nat) (f : Dest → Dest) : TalkOp (·.setDest l f) :=
  fun s t h => ⟨[], (s.setDest l f).talk, s.matrix, rfl, by
    rw [← h.matrix, show (s.setDest l f).talk = (t.setDest l f).talk by simp only [State.setDest, h.talk]]
    rfl⟩

theorem State.talkRewrites_talkOp (k : Nat) : TalkOp (·.talkRewrites k) := by
  refine branch (fun _ _ _ => Iff.rfl) id fun s t h => ?_
  exact ⟨[.talk], { s.talk with edition := s.talk.edition + BitVec.ofNat 16 k }, s.matrix, rfl, by rw [← h.matrix, ← h.talk]; rfl⟩

theorem State.writePoint_talkOp (p v : Nat) : TalkOp (·.writePoint p v) := by
  intro s t h
  have hdiffers : s.imageAt p = t.imageAt p := by rw [State.imageAt, State.imageAt, h.matrix]
  dsimp only [State.writePoint]
  rw [h.matrix, ← hdiffers]
  split
  · exact id s t h
  · split
    · exact ⟨[.matrix], s.talk, _, rfl, by rw [← h.talk]; rfl⟩
    · exact ⟨[], s.talk, _, rfl, by rw [← h.talk]; rfl⟩

theorem State.rewriteDest_talkOp (l : Nat) (f : Dest → Dest) : TalkOp (·.rewriteDest l f) :=
  (State.setDest_talkOp l _).comp (State.talkRewrites_talkOp 1)

/-! ### Ducking (R171, R173) -/

theorem State.writeProgramme_talkOp (l : Nat) : TalkOp (·.writeProgramme l) := by
  refine reads (v := fun s => ((s.link l).output, (s.link l).studio, (s.dest l).current)) (f := fun b s => match b.1 with
    | none => s
    | some o => s.writePoint (pointOf o (programmeInput b.2.1)) b.2.2) (fun s t h => ?_) fun b => ?_
  · rw [(h.links l).output, (h.links l).studio, h.dest]
  · cases b.1 with
    | none => exact id
    | some o => exact State.writePoint_talkOp _ _

theorem State.duckRecompute_talkOp (l : Nat) : TalkOp (·.duckRecompute l) := by
  refine reads (v := fun s => ((s.link l).applied, s.timer Config.rampMs)) (f := fun b s => s.setDest l fun d => d.recompute b.1 b.2)
    (fun s t h => ?_) fun b => State.setDest_talkOp l _
  rw [(h.links l).applied, State.timer, State.now, h.time]
  rfl

theorem State.duckNotice_talkOp (l : Nat) (talking : Bool) : TalkOp (·.duckNotice l talking) :=
  branch (fun _ _ h => by rw [h.dest]) id ((State.setDest_talkOp l _).comp (State.duckRecompute_talkOp l))

theorem State.vacateProgramme_talkOp (l : Nat) : TalkOp (·.vacateProgramme l) :=
  branch (fun _ _ h => by rw [h.dest]) (State.setDest_talkOp l _) (State.rewriteDest_talkOp l _)

theorem State.duckUnbind_talkOp (l : Nat) : TalkOp (·.duckUnbind l) :=
  branch (fun _ _ h => by rw [(h.links l).kind]) ((State.vacateProgramme_talkOp l).comp (State.writeProgramme_talkOp l)) id

/-! ### Talk events (R154, R162, R166, R167, R169) -/

theorem State.writeTalkPoints_talkOp (l : Nat) : TalkOp (·.writeTalkPoints l) := by
  refine reads (v := fun s => (s.link l).output) (f := fun b s => match b with
    | none => s
    | some o => forPlaces 16 (fun st s => s.writePoint (pointOf o st) ((s.dest l).stationValue st)) s)
    (fun s t h => (h.links l).output) fun b => ?_
  cases b with
  | none => exact id
  | some o =>
    refine foldl (fun st => ?_) _
    exact reads (v := fun s => (s.dest l).stationValue st) (fun s t h => by rw [h.dest]) fun b => State.writePoint_talkOp _ b

theorem State.settleDest_talkOp (l : Nat) : TalkOp (·.settleDest l) := by
  have hnotice : TalkOp fun s => s.duckNotice l (s.dest l).anyTalking :=
    reads (v := fun s => (s.dest l).anyTalking) (f := fun b s => s.duckNotice l b) (fun _ _ h => by rw [h.dest])
      fun b => State.duckNotice_talkOp l b
  exact branch (fun _ _ h => by rw [(h.links l).kind]) ((State.writeTalkPoints_talkOp l).comp hnotice) (State.writeTalkPoints_talkOp l)

/-- The keys rewritten from the talkback controller's own records. -/
theorem State.withKeys_talkOp (keys : Talk → Vector Key 192) : TalkOp fun s => { s with talk := { s.talk with keys := keys s.talk } } :=
  fun s t h => ⟨[], { s.talk with keys := keys s.talk }, s.matrix, rfl, by rw [← h.talk, ← h.matrix]; rfl⟩

theorem State.recomputeKeys_talkOp : TalkOp State.recomputeKeys := by
  have hkeys := State.withKeys_talkOp fun talk => ({ State.reset with talk } : State).recomputeKeys.talk.keys
  exact hkeys

/-- The editions of a talk event are counted from the talkback controller's records before and after it. -/
theorem State.countTalk_talkOp (before : Talk) : TalkOp fun s => ({ State.reset with talk := before } : State).countTalk s := by
  refine reads (v := State.talk) (f := fun (after : Talk) s =>
    let changed := placesWhere 32 fun l => (look before.dests l).talkChanged (look after.dests l)
    let rewritten := placesWhere 192 fun p => decide ((look before.keys p).published ≠ (look after.keys p).published)
    (changed.foldl (fun t l => t.setDest l fun d => { d with edition := d.edition + 1 }) s).talkRewrites (changed.length + rewritten.length))
    (fun _ _ h => h.talk) fun after => ?_
  exact (foldl (fun l => State.setDest_talkOp l _) _).comp (State.talkRewrites_talkOp _)

theorem State.talkEvent_talkOp {f : State → State} (hf : TalkOp f) : TalkOp (·.talkEvent f) :=
  reads (v := State.talk) (f := fun before s => ({ State.reset with talk := before } : State).countTalk (f s).recomputeKeys)
    (fun _ _ h => h.talk) fun before => (hf.comp State.recomputeKeys_talkOp).comp (State.countTalk_talkOp before)

theorem State.talkLinkChange_talkOp (l : Nat) : TalkOp (·.talkLinkChange l) := by
  refine reads (v := fun s => (s.link l).carriesTalk) (f := fun b s =>
    if ((s.dest l).setTalking b).slots = (s.dest l).slots then s
    else s.talkEvent fun s => (s.setDest l fun d => d.setTalking b).settleDest l) (fun _ _ h => h.carriesTalk l) fun b => ?_
  exact branch (fun _ _ h => by rw [h.dest]) id (State.talkEvent_talkOp ((State.setDest_talkOp l _).comp (State.settleDest_talkOp l)))

theorem State.talkUnbind_talkOp (l : Nat) : TalkOp (·.talkUnbind l) :=
  State.talkEvent_talkOp (((State.setDest_talkOp l _).comp (State.writeTalkPoints_talkOp l)).comp
    (State.withKeys_talkOp fun talk => mapTable (fun _ key => key.without l) talk.keys))

end Talk

/-! ## Lamps that name a link (R144, R148) -/

/-- The lamp driver after an event of lamp n (R141). -/
def Lamps.event (ls : Lamps) (n : Nat) (f : Lamp → Lamp) : Lamps :=
  if (f (look ls.recs n)).state = (look ls.recs n).state then { ls with recs := adjust ls.recs n f }
  else { ls with recs := adjust ls.recs n fun p => { f p with edition := p.edition + 1 }, edition := ls.edition + 1 }

/-- The lamps in LINK mode naming link l, rising. -/
def Lamps.naming (ls : Lamps) (l : Nat) : List Nat :=
  placesWhere 24 fun n => decide ((look ls.recs n).mode = .link ∧ (look ls.recs n).link = l)

theorem State.lampEvent_eq (s : State) (n : Nat) (f : Lamp → Lamp) : s.lampEvent n f = { s with lamps := s.lamps.event n f } := by
  by_cases h : (f (s.lamp n)).state = (s.lamp n).state
  · rw [State.lampEvent, if_pos h, show s.lamps.event n f = _ from if_pos h]
    rfl
  · rw [State.lampEvent, if_neg h, show s.lamps.event n f = _ from if_neg h]
    rfl

/-- Events of lamps that go by a link's record and the device time. -/
theorem State.foldl_lampEvent (g : LinkRec → Time → Lamp → Lamp) (l : Nat) (ns : List Nat) (s : State) :
    ns.foldl (fun s n => s.lampEvent n (g (s.link l) s.now)) s =
      { s with lamps := ns.foldl (fun ls n => ls.event n (g (s.link l) s.now)) s.lamps } := by
  induction ns generalizing s with
  | nil => rfl
  | cons n ns ih => rw [List.foldl_cons, State.lampEvent_eq, ih]; rfl

/-- A change of supervision state as the lamps take it, one by one (R148). -/
theorem State.lampStateChange_eq (s : State) (l : Nat) : s.lampStateChange l = { s with
    lamps := (s.lamps.naming l).foldl (fun ls n => ls.event n fun p =>
      p.alarmTest (s.link l) (some { start := s.now, len := Config.blinkMs })) s.lamps } :=
  State.foldl_lampEvent (fun r now p => p.alarmTest r (some { start := now, len := Config.blinkMs })) l _ s

/-- A change of level as the lamps take it, one by one (R144). -/
theorem State.lampLevelChange_eq (s : State) (l : Nat) : s.lampLevelChange l = { s with
    lamps := (s.lamps.naming l).foldl (fun ls n => ls.event n fun p => p.levelChange (s.link l)
      (some { start := s.now, len := p.fadeN * Config.fadeUnitMs }) (some { start := s.now, len := Config.blinkMs })) s.lamps } :=
  State.foldl_lampEvent (fun r now p => p.levelChange r (some { start := now, len := p.fadeN * Config.fadeUnitMs })
    (some { start := now, len := Config.blinkMs })) l _ s

/-- The alarm goes by a link's supervision state and applied tally (R148). -/
theorem Lamp.alarmTest_congr {r q : LinkRec} (h : r.TalksAs q) (p : Lamp) (blinkTimer : Option Timer) :
    p.alarmTest q blinkTimer = p.alarmTest r blinkTimer := by
  have halarms : p.alarms q = p.alarms r := by simp only [Lamp.alarms, h.state, h.applied]
  simp only [Lamp.alarmTest, halarms]

/-! ## A change of a link's supervision state (R90, R148, R166) -/

section Changed

variable {s : State} {l : Nat} {f : LinkRec → LinkRec}

/-- A change of supervision state is a rewrite of the record that talkback and the lamps are told of. -/
theorem State.linkCore_changed (hl : l < 32) (h : (f (s.link l)).state ≠ (s.link l).state) :
    s.linkCore l f = ((s.rewriteLink l fun r => (f r).trimTimers).talkLinkChange l).lampStateChange l := by
  refine if_neg ?_
  rw [State.rewriteLink_link_same _ hl]
  exact (LinkRec.trimTimers_state _).symm ▸ h

/-- Talkback and the lamps are told of link l's change of supervision state, as u holds it (R148, R166). -/
def State.Told (s u : State) (l : Nat) : Prop :=
  u.talk = (State.talkLinkChange { s with links := u.links } l).talk ∧ u.matrix = (State.talkLinkChange { s with links := u.links } l).matrix ∧
    u.lamps = (State.lampStateChange { s with links := u.links } l).lamps

/-- What is told of a change goes by the link records as they talk. -/
theorem State.linkCore_told (hl : l < 32) (h : (f (s.link l)).state ≠ (s.link l).state) {links : Links}
    (hlinks : ∀ m, ((s.linkCore l f).link m).TalksAs (look links.recs m)) : s.Told { s.linkCore l f with links } l := by
  set t := s.rewriteLink l fun r => (f r).trimTimers with ht
  have hrecs (m : Nat) : (s.linkCore l f).link m = t.link m := by rw [State.link, (State.linkCore_links_moves f).1, State.link]
  have halike : t.TalksAs { s with links } := ⟨rfl, rfl, rfl, fun m => hrecs m ▸ hlinks m⟩
  obtain ⟨es, talk, matrix, htalk, htalk'⟩ := State.talkLinkChange_talkOp l t _ halike
  dsimp only at htalk htalk'
  rw [State.linkCore_changed hl h, State.Told, htalk, htalk', State.lampStateChange_eq, State.lampStateChange_eq]
  refine ⟨rfl, rfl, ?_⟩
  have halarm (p : Lamp) (b : Option Timer) : p.alarmTest (look links.recs l) b = p.alarmTest (t.link l) b :=
    Lamp.alarmTest_congr (halike.links l) p b
  exact congrArg (fun g => (s.lamps.naming l).foldl g s.lamps) (funext fun ls => funext fun n => congrArg (ls.event n)
    (funext fun p => (halarm p _).symm))

/-- A change of a link's record notes EVENTS.LINK, and what talkback notes. -/
theorem State.linkCore_board (s : State) (l : Nat) (f : LinkRec → LinkRec) : ∃ es, (s.linkCore l f).board = s.board.note (.link :: es) := by
  unfold State.linkCore
  dsimp only
  split
  · exact ⟨[], rfl⟩
  · obtain ⟨es, talk, matrix, htalk⟩ := (State.talkLinkChange_talkOp l).notes (s.rewriteLink l fun r => (f r).trimTimers)
    refine ⟨es, ?_⟩
    rw [State.lampStateChange_eq, htalk]
    exact Board.note_note s.board [.link] es

/-- Link l's record is rewritten once; beside it no more than talkback, the matrix line, the lamps and EVENTS may change (R84). -/
def State.RewrittenOnce (s u : State) (l : Nat) : Prop :=
  (∀ m < 32, m ≠ l → u.link m = s.link m) ∧ u.links.edition = s.links.edition + 1 ∧ u.plan = s.plan ∧ u.bus = s.bus ∧ u.probe = s.probe ∧
    u.moves = s.moves ∧ u.lines = s.lines ∧ u.ref = s.ref ∧ u.tally = s.tally ∧ u.board.slots = s.board.slots ∧
    u.board.body = s.board.body ∧ u.board.events.getLsbD 1 = true

theorem State.linkCore_rewrittenOnce (s : State) (l : Nat) (f : LinkRec → LinkRec) : s.RewrittenOnce (s.linkCore l f) l := by
  obtain ⟨hplan, hbus, hprobe, hmoves, hlines, htally, href, -⟩ := (s.linkCore_supervisionOnly l f).blocks
  obtain ⟨es, hboard⟩ := s.linkCore_board l f
  have hedition : (s.linkCore l f).links.edition = s.links.edition + 1 := by rw [(State.linkCore_links_moves f).1]; rfl
  refine ⟨fun m _ hm => State.linkCore_link_ne _ hm.symm, hedition, hplan, hbus, hprobe, hmoves, hlines, href, htally, ?_, ?_,
    s.linkCore_noted l f⟩
  · rw [hboard]; rfl
  · rw [hboard]; rfl

/-- A change of the record in place counts no rewrite. -/
theorem State.RewrittenOnce.touchLink {u : State} (h : s.RewrittenOnce u l) (g : LinkRec → LinkRec) : s.RewrittenOnce (u.touchLink l g) l := by
  obtain ⟨hlinks, hrest⟩ := h
  exact ⟨fun m hm hne => (State.touchLink_link_ne g hne.symm).trans (hlinks m hm hne), hrest⟩

end Changed

end Sys2Proof.Machine
end

section
/-! SUPPORT and the proof on a link's timers (R84, R87 to R89, R94, R98). -/

namespace Sys2Proof.Machine

/-! ## The timers a link keeps (R84, R87) -/

/-- A WEAK link keeps its timers (R84, R87). -/
theorem LinkRec.trimTimers_weak {r : LinkRec} (h : r.state = .weak) : r.trimTimers = r := by
  simp only [LinkRec.trimTimers, h, LinkState.stopsTimers, Bool.false_eq_true, if_false, if_true]

/-- A LOST link keeps no rescue timer and no bar (R84, R87). -/
theorem LinkRec.trimTimers_lost {r : LinkRec} (h : r.state = .lost) :
    r.trimTimers = { r with rescueTimer := .stopped, rescueBarred := false } := by
  simp only [LinkRec.trimTimers, h, LinkState.stopsTimers, Bool.false_eq_true, if_false, reduceCtorEq]

/-- A link keeps none of the three timers (R84). -/
def LinkRec.Untimed (r : LinkRec) : Prop := r.weakTimer = none ∧ r.lossTimer = none ∧ r.rescueTimer = .stopped

/-- A MOVING link keeps no timer (R84). -/
theorem LinkRec.trimTimers_moving {r : LinkRec} (h : r.state = .moving) : r.trimTimers.Untimed := by
  simp only [LinkRec.Untimed, LinkRec.trimTimers, h, LinkState.stopsTimers, if_true, if_false, reduceCtorEq, and_self]

/-! ## A move that leaves HELD, its link's timers (R98) -/

section Leaves

variable {s : State} {c l m : Nat}

theorem State.setRetuned_untimed : ((s.setRetuned l).link m).Untimed ↔ (s.link m).Untimed := by
  unfold State.setRetuned
  split
  · rfl
  · exact iff_of_eq (look_adjust_field LinkRec.Untimed _ _ _ fun _ => rfl)

theorem State.enterTuneFar_untimed : ((s.enterTuneFar c).link m).Untimed ↔ (s.link m).Untimed := by
  unfold State.enterTuneFar
  dsimp only
  split
  · exact State.setRetuned_untimed
  · rfl

/-- A link whose move leaves HELD keeps no timer (R84, R98). -/
theorem State.leaveHeld_untimed (hl : (s.ctx c).link < 32) : ((s.leaveHeld c).link (s.ctx c).link).Untimed := by
  have hhold (t : State) (m : Nat) : t.updateAutoHold.link m = t.link m := by rw [State.link, State.updateAutoHold_links, State.link]
  by_cases hkind : (s.link (s.ctx c).link).kind = .camera
  · rw [State.leaveHeld_camera hkind, hhold, State.enterTuneFar_untimed]
    show (State.link (s.linkCore _ _) _).Untimed
    rw [State.linkCore_link_same _ hl]
    exact LinkRec.trimTimers_moving rfl
  · rw [State.leaveHeld_other hkind, hhold]
    show (State.link ((s.dropUnmute _).linkCore _ _) _).Untimed
    rw [State.linkCore_link_same _ hl]
    exact LinkRec.trimTimers_moving rfl

theorem State.releasable_iff : s.releasable c = true ↔
    (s.ctx c).phase = .held ∧ ((s.link (s.ctx c).link).applied ≠ .program ∨ (s.ctx c).urgent = true) ∧
    ((s.link (s.ctx c).link).state = .live ∨ (s.link (s.ctx c).link).state = .weak ∨ (s.link (s.ctx c).link).state = .mistuned) ∧
    ((s.ctx c).manualGo = true → (s.ctx c).go = true) := decide_eq_true_iff

theorem State.ctxOf_congr {t : State} (h : t.moves = s.moves) : t.ctxOf l = s.ctxOf l := by
  have hctx : t.ctx = s.ctx := funext fun c => congrArg (fun v : Moves => look v.ctxs c) h
  rw [State.ctxOf, hctx, State.ctxOf]

end Leaves

/-! ## Weak and loss timer expiry (R84) -/

/-- A 16-bit counter stops at its largest value (R1). -/
theorem satInc_word (x : Word) : satInc x = if x = 65535#16 then 65535#16 else x + 1 := by
  unfold satInc
  exact if_ctx_congr Iff.rfl (fun h => h) fun _ => rfl

/-- A link's record as its weak timer expires. -/
def LinkRec.weakened (r : LinkRec) : LinkRec := { r with state := .weak, weakTimer := none }

/-- A link's record as its loss timer expires. -/
def LinkRec.gone (r : LinkRec) (now : Time) : LinkRec :=
  { r with state := .lost, lossTimer := none, lossCount := satInc r.lossCount, lastLoss := now }

section Expiries

variable {s u : State} {l : Nat} {tm : Timer}

theorem exec_weakTimerExpiry (hl : l < 32) (hready : s.board.ready = true) (hrun : (s.link l).weakTimer = some tm)
    (hdue : tm.len ≤ (s.board.time - tm.start).toNat) (hu : s.weakExpiry l = u) : exec (.weakTimerExpiry l) s = .next u.settle := by
  subst hu
  have h : timerDue (s.link l).weakTimer s.now = true := by rw [hrun]; exact decide_eq_true hdue
  exact (if_pos hl).trans (congrArg Host.Outcome.next ((if_pos hready).trans (if_pos h)))

theorem exec_lossTimerExpiry (hl : l < 32) (hready : s.board.ready = true) (hrun : (s.link l).lossTimer = some tm)
    (hdue : tm.len ≤ (s.board.time - tm.start).toNat) (hu : s.lossExpiry l = u) : exec (.lossTimerExpiry l) s = .next u.settle := by
  subst hu
  have h : timerDue (s.link l).lossTimer s.now = true := by rw [hrun]; exact decide_eq_true hdue
  exact (if_pos hl).trans (congrArg Host.Outcome.next ((if_pos hready).trans (if_pos h)))

theorem State.weakened_link (hl : l < 32) :
    (s.linkCore l LinkRec.weakened).link l = { (s.link l).weakened with edition := (s.link l).edition + 1 } := by
  rw [State.linkCore_link_same _ hl, LinkRec.trimTimers_weak rfl]

/-- A LIVE or BOUND link weakens: its move is tested for its release, and its rescue timer may start (R84, R87, R98). -/
theorem State.weakExpiry_eq (hl : l < 32) (hstate : (s.link l).state = .live ∨ (s.link l).state = .bound) :
    s.weakExpiry l = ((s.linkCore l LinkRec.weakened).heldTestLink l).startRescue l := by
  have hchanged : ¬((s.linkCore l LinkRec.weakened).link l).state = (s.link l).state := by
    rw [State.weakened_link hl]
    obtain h | h := hstate <;> rw [h] <;> exact LinkState.noConfusion
  rw [State.weakExpiry, if_pos hstate, State.linkChange]
  exact congrArg (State.startRescue · l) (if_neg hchanged)

/-- A link without a move weakens, and with rescue AUTO its rescue timer starts (R84, R87). -/
theorem State.weakExpiry_alone (hl : l < 32) (hstate : (s.link l).state = .live ∨ (s.link l).state = .bound) (hctx : s.ctxOf l = none) :
    s.weakExpiry l = if (s.link l).options.rescue = true
      then (s.linkCore l LinkRec.weakened).setRescue l (.running { start := s.board.time, len := (s.link l).options.rescueTime })
      else s.linkCore l LinkRec.weakened := by
  set w := s.linkCore l LinkRec.weakened with hw
  have hnone : w.ctxOf l = none := (State.ctxOf_congr (State.linkCore_links_moves _).2).trans hctx
  have htested : w.heldTestLink l = w := by rw [State.heldTestLink, hnone]
  have hweak : (w.link l).state = .weak := congrArg LinkRec.state (State.weakened_link hl)
  have hoptions : (w.link l).options = (s.link l).options := (congrArg LinkRec.options (State.weakened_link hl)).trans rfl
  obtain ⟨es, hboard⟩ := s.linkCore_board l LinkRec.weakened
  have hnow : w.now = s.board.time := by rw [State.now, hw, hboard]; rfl
  rw [State.weakExpiry_eq hl hstate, htested, State.startRescue_eq, hweak, hoptions, State.rescueIn, hnow]
  simp only [hnone, true_and, and_true]

/-- A link with a move weakens, and its rescue timer is left alone; a move that may go leaves HELD (R84, R87, R98). -/
theorem State.weakExpiry_moved {c : Nat} (hl : l < 32) (hc : c < 4) (hstate : (s.link l).state = .live ∨ (s.link l).state = .bound)
    (hctx : s.ctxOf l = some c) : s.weakExpiry l = (s.linkCore l LinkRec.weakened).heldTest c := by
  set w := s.linkCore l LinkRec.weakened with hw
  have hmoves : w.moves = s.moves := (State.linkCore_links_moves _).2
  have hsome : w.ctxOf l = some c := (State.ctxOf_congr hmoves).trans hctx
  have hlink : (w.ctx c).link = l := State.ctx_link_of_ctxOf hsome
  have hidle : ¬(((w.heldTest c).link l).state = .weak ∧ ((w.heldTest c).link l).options.rescue = true ∧ (w.heldTest c).ctxOf l = none) := by
    unfold State.heldTest
    split
    · obtain ⟨p, o, hleft, -, -⟩ := w.leaveHeld_leftHeld hc (hlink ▸ hl)
      rintro ⟨hweak, -⟩
      exact LinkState.noConfusion ((hlink ▸ hleft.state).symm.trans hweak)
    · rintro ⟨-, -, hnone⟩
      cases hnone.symm.trans hsome
  rw [State.weakExpiry_eq hl hstate, State.heldTestLink, hsome, State.startRescue_eq]
  exact if_neg hidle

theorem State.lossExpiry_eq (hl : l < 32) : s.lossExpiry l = s.linkCore l fun r => r.gone s.board.time :=
  State.linkChange_eq_linkCore hl (show LinkState.lost ∉ _ by decide)

theorem State.gone_link (hl : l < 32) : (s.linkCore l fun r => r.gone s.board.time).link l = { s.link l with
    state := .lost, lossTimer := none, rescueTimer := .stopped, rescueBarred := false, lastLoss := s.board.time
    edition := (s.link l).edition + 1
    lossCount := if (s.link l).lossCount = 65535#16 then 65535#16 else (s.link l).lossCount + 1 } := by
  rw [State.linkCore_link_same _ hl, LinkRec.trimTimers_lost rfl, LinkRec.gone, satInc_word]

end Expiries

/-! ## The tests of a rescue start (R88, R89, R94) -/

/-- No context is FREE (R94). -/
theorem State.freeCtx_eq_none {s : State} (h : ∀ c < 4, (s.ctx c).phase ≠ .free) : s.freeCtx = none :=
  head?_placesWhere_eq_none fun c hc => decide_eq_false (h c hc)

/-- The lowest FREE context (R94). -/
theorem State.freeCtx_eq_some {s : State} {c : Nat} (hc : c < 4) (hfree : (s.ctx c).phase = .free) (hbelow : ∀ d < c, (s.ctx d).phase ≠ .free) :
    s.freeCtx = some c :=
  head?_placesWhere_eq_some hc (decide_eq_true hfree) fun d hd => decide_eq_false (hbelow d hd)

section Rescue

variable {s u : State} {l : Nat} {tm : Timer}

theorem exec_rescueTimerExpiry (hl : l < 32) (hready : s.board.ready = true) (hrun : (s.link l).rescueTimer = .running tm)
    (hdue : tm.len ≤ (s.board.time - tm.start).toNat) (hu : s.attemptRescue l = u) : exec (.rescueTimerExpiry l) s = .next u.settle := by
  subst hu
  have h : timerDue (some tm) s.now = true := decide_eq_true hdue
  refine (if_pos hl).trans (congrArg Host.Outcome.next ?_)
  simp only [State.rescueExpiry, hrun]
  exact (if_pos hready).trans (if_pos h)

theorem exec_rescueTimerExpiry_waiting (hl : l < 32) (hready : s.board.ready = true) (hwait : (s.link l).rescueTimer = .waiting) :
    exec (.rescueTimerExpiry l) s = .next s.serveRescues.settle := by
  refine (if_pos hl).trans (congrArg Host.Outcome.next ?_)
  simp only [State.rescueExpiry, hwait]
  exact if_pos hready

theorem exec_rescueTimerExpiry_stopped (hl : l < 32) (hstop : (s.link l).rescueTimer = .stopped) :
    exec (.rescueTimerExpiry l) s = .next s := by
  refine (if_pos hl).trans (congrArg Host.Outcome.next ?_)
  simp only [State.rescueExpiry, hstop]

theorem State.attemptRescue_tuning (h : s.tuning l = true) :
    s.attemptRescue l = s.setRescue l (s.rescueIn (s.link l).options.rescueTime) := if_pos h

variable (htuning : s.tuning l = false)
include htuning

theorem State.attemptRescue_locked (h : (s.link l).rescueBarred = true ∨ (s.entry (s.link l).originEntry).lock = true) :
    s.attemptRescue l = s.touchLink l fun r => { r with rescueTimer := .stopped, rescueBarred := true } := by
  simp only [State.attemptRescue, htuning, Bool.false_eq_true, if_false, if_pos h]

variable (hopen : ¬((s.link l).rescueBarred = true ∨ (s.entry (s.link l).originEntry).lock = true))
include hopen

theorem State.attemptRescue_backoff (h : 0 < s.backoffLeft l) : s.attemptRescue l = s.setRescue l (s.rescueIn (s.backoffLeft l)) := by
  simp only [State.attemptRescue, htuning, Bool.false_eq_true, if_false, if_neg hopen, if_pos h]

theorem State.attemptRescue_waits (h : s.backoffLeft l = 0) (hfull : s.freeCtx = none) : s.attemptRescue l = s.setRescue l .waiting := by
  simp only [State.attemptRescue, htuning, Bool.false_eq_true, if_false, if_neg hopen, h, Nat.lt_irrefl, hfull]

theorem State.attemptRescue_starts {c : Nat} (h : s.backoffLeft l = 0) (hfree : s.freeCtx = some c) :
    s.attemptRescue l = s.startRescueMove c l := by
  simp only [State.attemptRescue, htuning, Bool.false_eq_true, if_false, if_neg hopen, h, Nat.lt_irrefl, hfree]

end Rescue

/-- The state with link l's rescue begun in context c: the record's counts, the context and the plan job (R88, R94). -/
def State.rescuing (s : State) (c l : Nat) : State :=
  { s with
    board := s.board.note [.link]
    links := { s.links with
      recs := put s.links.recs l { s.link l with
        rescueCount := satInc (s.link l).rescueCount, lastRescue := some s.board.time, rescueTimer := .stopped
        edition := (s.link l).edition + 1 }
      edition := s.links.edition + 1 }
    moves := { s.moves with
      ctxs := put s.moves.ctxs c { Ctx.free with
        phase := .seeking, link := l, slot := none, origin := .rescue, target := .auto 1 (s.link l).options.searchLo 12800
        edition := (s.ctx c).edition + 1 }
      edition := s.moves.edition + 1 }
    plan := { s.plan with waiting := s.plan.waiting ++
      [moveJob c l (.auto 1 (s.link l).options.searchLo 12800) false (s.link l).options] } }

theorem State.startRescueMove_eq {s : State} {l : Nat} (hl : l < 32) (c : Nat) : s.startRescueMove c l = s.rescuing c l := by
  set r : LinkRec := { s.link l with rescueCount := satInc (s.link l).rescueCount, lastRescue := some s.board.time } with hr
  have hrecord : (s.withRecord l r).link l = { r with edition := r.edition + 1 } := look_put_same _ _ _ hl
  calc s.startRescueMove c l
      = ((((s.withRecord l r).touchLink l fun r => { r with rescueTimer := .stopped }).rewriteCtx c fun x =>
          { Ctx.free with
            phase := .seeking, link := l, slot := none, origin := .rescue, target := .auto 1 (s.link l).options.searchLo 12800
            edition := x.edition }).pushJob
          (moveJob c l (.auto 1 (s.link l).options.searchLo 12800) false ((s.withRecord l r).link l).options)) := rfl
    _ = { s.rescuing c l with board := (s.board.note [.link]).note [.link] } := by
      rw [State.withRecord_touchLink hl, hrecord]
      rfl
    _ = s.rescuing c l := by rw [Board.note_twice]; rfl

/-- The rescue timer is nothing that talkback reads of a link. -/
theorem State.talksAs_setRescue (s : State) (l : Nat) (x : RescueTimer) (m : Nat) : (s.link m).TalksAs ((s.setRescue l x).link m) where
  state := look_adjust_field LinkRec.state _ _ _ fun _ => rfl
  kind := look_adjust_field LinkRec.kind _ _ _ fun _ => rfl
  studio := look_adjust_field LinkRec.studio _ _ _ fun _ => rfl
  output := look_adjust_field LinkRec.output _ _ _ fun _ => rfl
  applied := look_adjust_field LinkRec.applied _ _ _ fun _ => rfl

/-- Settles O37: each timer by the state or the tests its expiry finds. -/
theorem linkTimersChangeTheLink : Obligations.LinkTimersChangeTheLink := by
  refine ⟨?_, ?_, ?_⟩
  · intro s l tm hl hready hdue r same told
    set w := s.linkCore l LinkRec.weakened with hw
    have hweak : w.link l = _ := State.weakened_link hl
    have hchanged (hstate : r.state = .live ∨ r.state = .bound) : r.weakened.state ≠ r.state := by
      obtain h | h := hstate <;> rw [h] <;> exact LinkState.noConfusion
    have hsame : same w := s.linkCore_rewrittenOnce l _
    have htold (hstate : r.state = .live ∨ r.state = .bound) : told w := State.linkCore_told hl (hchanged hstate) fun m => .refl _
    refine ⟨fun hrun hstate hctx => ?_, fun c hc hrun hstate hctx => ?_, fun hrun => ?_⟩
    · have halone := State.weakExpiry_alone hl hstate hctx
      by_cases hrescue : r.options.rescue = true
      · refine ⟨_, exec_weakTimerExpiry hl hready hrun hdue (halone.trans (if_pos hrescue)),
          State.RewrittenOnce.touchLink hsame _, State.linkCore_told hl (hchanged hstate) (w.talksAs_setRescue l _), ?_⟩
        rw [if_pos hrescue, State.setRescue, State.touchLink_link_same _ hl, hweak]
        rfl
      · refine ⟨_, exec_weakTimerExpiry hl hready hrun hdue (halone.trans (if_neg hrescue)), hsame, htold hstate, ?_⟩
        rw [if_neg hrescue, hweak]
        rfl
    · intro x goes
      have hmoves : w.moves = s.moves := (State.linkCore_links_moves _).2
      have hx (d : Nat) : w.ctx d = s.ctx d := by rw [State.ctx, hmoves, State.ctx]
      have hlink : (w.ctx c).link = l := (hx c).symm ▸ State.ctx_link_of_ctxOf hctx
      have hreleasable : w.releasable c = true ↔ goes := by
        rw [State.releasable_iff, hlink, hweak, hx]
        simp only [LinkRec.weakened, reduceCtorEq, true_or, or_true, true_and, goes]
        rfl
      have hmoved := State.weakExpiry_moved hl hc hstate hctx
      refine ⟨fun hstays => ?_, fun hgoes => ?_⟩
      · exact ⟨_, exec_weakTimerExpiry hl hready hrun hdue (hmoved.trans (if_neg (mt hreleasable.mp hstays))), hsame,
          htold hstate, hweak⟩
      · obtain ⟨p, o, hleft, hother, hcamera⟩ := w.leaveHeld_leftHeld hc (hlink ▸ hl)
        have huntimed := w.leaveHeld_untimed (c := c) (hlink ▸ hl)
        rw [hlink] at hleft hother hcamera huntimed
        obtain ⟨hweakTimer, hlossTimer, hrescueTimer⟩ := huntimed
        have hkind : (w.link l).kind = r.kind := (congrArg LinkRec.kind hweak).trans rfl
        have hchannel : (w.link l).channel = r.channel := (congrArg LinkRec.channel hweak).trans rfl
        have hcode : (w.ctx c).targetCodeD = x.targetCode.getD 0 := by rw [hx]; rfl
        rw [hkind, hchannel] at hother
        rw [hkind, hchannel, hcode] at hcamera
        refine ⟨_, exec_weakTimerExpiry hl hready hrun hdue (hmoved.trans (if_pos (hreleasable.mpr hgoes))), hleft.state, hweakTimer, hlossTimer, hrescueTimer, ?_, hleft.hold, fun h => ?_, fun h => ?_, fun m _ hm => ?_, fun d _ hd => ?_, ?_⟩
        · rw [hleft.ctx]
        · obtain ⟨rfl, rfl⟩ := hother h
          rw [hleft.ctx]
          exact ⟨rfl, rfl⟩
        · obtain ⟨rfl, rfl⟩ := hcamera h
          rw [hleft.ctx]
          exact ⟨rfl, rfl⟩
        · exact (hleft.links m hm.symm).trans (State.linkCore_link_ne _ hm.symm)
        · exact (hleft.ctxs d hd.symm).trans (hx d)
        · exact (w.leaveHeld_plan c).trans (s.linkCore_plan l _)
    · exact ⟨_, exec_lossTimerExpiry hl hready hrun hdue (State.lossExpiry_eq hl), s.linkCore_rewrittenOnce l _,
        fun hstate => State.linkCore_told hl hstate.symm fun m => .refl _, State.gone_link hl⟩
  · intro s l tm hl hready hrun hdue r now withTimer left locked
    have hexec {u : State} (hu : s.attemptRescue l = u) := exec_rescueTimerExpiry hl hready hrun hdue hu
    refine ⟨fun htuning => ?_, fun htuning hlocked => ?_, fun htuning hopen hleft => ?_, fun htuning hopen hleft hfull => ?_,
      fun c hc htuning hopen hleft hfree hbelow => ?_⟩
    · exact hexec (State.attemptRescue_tuning htuning)
    · exact hexec (State.attemptRescue_locked htuning hlocked)
    · exact hexec (State.attemptRescue_backoff htuning hopen hleft)
    · exact hexec (State.attemptRescue_waits htuning hopen hleft (State.freeCtx_eq_none hfull))
    · refine (hexec ((State.attemptRescue_starts htuning hopen hleft (State.freeCtx_eq_some hc hfree hbelow)).trans
        (State.startRescueMove_eq hl c))).trans ?_
      rw [State.rescuing, satInc_word]
      rfl
  · intro s l hl hready
    exact ⟨exec_rescueTimerExpiry_waiting hl hready, exec_rescueTimerExpiry_stopped hl⟩

end Sys2Proof.Machine
end

section
/-! SUPPORT and the proof on UNBIND_LINK (R17, R69, R74, R80, R128, R144, R169, R171). -/

namespace Sys2Proof.Machine

/-! ## Events and the completion of a request (R186, R188) -/

/-- An event is set where it is among the events noted (R188). -/
theorem Board.note_event (b : Board) {e : Event} {es : List Event} (h : e ∈ es) : (b.note es).events.getLsbD e.ctorIdx = true := by
  have hbit : e.bit.getLsbD e.ctorIdx = true := by cases e <;> rfl
  have hkeeps (fs : List Event) : ∀ v : BitVec 9, v.getLsbD e.ctorIdx = true →
      (fs.foldl (fun v e => v ||| e.bit) v).getLsbD e.ctorIdx = true := by
    induction fs with
    | nil => exact fun v hv => hv
    | cons f fs ih => exact fun v hv => ih _ (by rw [BitVec.getLsbD_or, hv, Bool.true_or])
  obtain ⟨fs, gs, rfl⟩ := List.append_of_mem h
  rw [Board.note, List.foldl_append, List.foldl_cons]
  exact hkeeps gs _ (by rw [BitVec.getLsbD_or, hbit, Bool.or_true])

/-- The board as a request that answers OK leaves it (R186). -/
theorem State.complete_ok (s : State) {n : Nat} (hn : n < 32) : ∃ board, s.complete n .ok = { s with board } ∧ look board.slots n = .done ∧
    board.events = (s.board.note [.board]).events ∧ (s.board.body.wf = true → board.body.read (slotAddr n 3) = 0) := by
  rw [State.complete_eq]
  exact ⟨_, rfl, look_put_same _ _ _ hn, rfl, fun hwf =>
    (Memory.read_write_same s.board.body (slotAddr n 3) (resultNat Result.ok.ctorIdx) hwf :)⟩

/-! ## The image of a muted point (R167, R171, R176) -/

/-- A write keeps the image in canonical form. -/
theorem State.writePoint_image_wf {s : State} (himage : Cells.wf Config.mute s.matrix.image = true) (p v : Nat) :
    Cells.wf Config.mute (s.writePoint p v).matrix.image = true := by
  rw [State.writePoint_matrix, Matrix.written]
  split
  · exact himage
  · rw [Matrix.enqueue_image]
    exact Cells.wf_put _ _ _ _ himage

@[simp] theorem State.writePoint_talk (s : State) (p v : Nat) : (s.writePoint p v).talk = s.talk := by
  obtain ⟨es, h⟩ := s.writePoint_notes p v
  rw [h]

/-- The image is in canonical form, and the points in ps read MUTE. -/
def State.Muted (s : State) (ps : Nat → Prop) : Prop := Cells.wf Config.mute s.matrix.image = true ∧ ∀ p, ps p → s.imageAt p = 127

section Muted

variable {s : State} {ps qs : Nat → Prop}

theorem State.Muted.mono (h : s.Muted ps) (hps : ∀ p, qs p → ps p) : s.Muted qs := ⟨h.1, fun p hp => h.2 p (hps p hp)⟩

theorem State.Muted.of_matrix {t : State} (h : s.Muted ps) (hmatrix : t.matrix = s.matrix) : t.Muted ps := by
  refine ⟨hmatrix ▸ h.1, fun p hp => ?_⟩
  rw [State.imageAt, hmatrix]
  exact h.2 p hp

/-- MUTE written into a point keeps the points that read MUTE. -/
theorem State.Muted.writePoint (h : s.Muted ps) (p : Nat) : (s.writePoint p 127).Muted fun q => q = p ∨ ps q := by
  obtain ⟨himage, hmuted⟩ := h
  refine ⟨State.writePoint_image_wf himage p 127, fun q hq => ?_⟩
  rw [State.writePoint_imageAt himage]
  split
  · rfl
  · next hne => exact hmuted q (hq.resolve_left hne)

/-- An empty destination has its stations' points written MUTE (R167). -/
theorem State.Muted.talkPoints {o l : Nat} (hvalue : ∀ st, (s.dest l).stationValue st = 127) (sts : List Nat) (h : s.Muted ps) :
    (sts.foldl (fun s st => s.writePoint (pointOf o st) ((s.dest l).stationValue st)) s).Muted
      fun q => (∃ st ∈ sts, q = pointOf o st) ∨ ps q := by
  induction sts generalizing s ps with
  | nil => exact h.mono fun q hq => hq.resolve_left (by simp)
  | cons st sts ih =>
    rw [List.foldl_cons, hvalue st]
    have hdest : (s.writePoint (pointOf o st) 127).dest l = s.dest l := by rw [State.dest, State.writePoint_talk, State.dest]
    refine (ih (by rw [hdest]; exact hvalue) (h.writePoint (pointOf o st))).mono fun q hq => ?_
    simpa [or_assoc, or_left_comm, or_comm] using hq

end Muted

/-! ## Talkback and ducking as a link is unbound (R169, R171) -/

section Emptied

variable (s : State) (l : Nat)

@[simp] theorem State.talkRewrites_matrix (k : Nat) : (s.talkRewrites k).matrix = s.matrix := by
  unfold State.talkRewrites
  split <;> rfl

@[simp] theorem State.talkRewrites_dests (k : Nat) : (s.talkRewrites k).talk.dests = s.talk.dests := by
  unfold State.talkRewrites
  split <;> rfl

/-- The editions that a talk event counts leave the matrix line and the slots and wait lists (R162). -/
theorem State.countTalk_keeps (t : State) : (s.countTalk t).matrix = t.matrix ∧
    ((s.countTalk t).dest l).slots = (t.dest l).slots ∧ ((s.countTalk t).dest l).waiters = (t.dest l).waiters := by
  have hcounted (ls : List Nat) : let u := ls.foldl (fun t l => t.setDest l fun d => { d with edition := d.edition + 1 }) t
      u.matrix = t.matrix ∧ (u.dest l).slots = (t.dest l).slots ∧ (u.dest l).waiters = (t.dest l).waiters := by
    refine List.foldlRecOn ls _ (motive := fun u : State => u.matrix = t.matrix ∧ (u.dest l).slots = (t.dest l).slots ∧
      (u.dest l).waiters = (t.dest l).waiters) ⟨rfl, rfl, rfl⟩ fun u ⟨hmatrix, hslots, hwaiters⟩ m _ => ⟨hmatrix, ?_, ?_⟩
    · refine .trans ?_ hslots
      exact look_adjust_field Dest.slots _ _ _ fun _ => rfl
    · refine .trans ?_ hwaiters
      exact look_adjust_field Dest.waiters _ _ _ fun _ => rfl
  simp only [State.countTalk, State.talkRewrites_matrix, State.dest, State.talkRewrites_dests]
  exact hcounted _

/-- A talk event leaves on the matrix line and at the destinations what its own changes do. -/
theorem State.talkEvent_keeps (f : State → State) : (s.talkEvent f).matrix = (f s).matrix ∧
    ((s.talkEvent f).dest l).slots = ((f s).dest l).slots ∧ ((s.talkEvent f).dest l).waiters = ((f s).dest l).waiters :=
  s.countTalk_keeps l (f s).recomputeKeys

@[simp] theorem State.writeTalkPoints_talk : (s.writeTalkPoints l).talk = s.talk := by
  unfold State.writeTalkPoints
  split
  · rfl
  · exact List.foldlRecOn _ _ (motive := fun u : State => u.talk = s.talk) rfl fun u hu st _ => (u.writePoint_talk _ _).trans hu

@[simp] theorem State.writeProgramme_talk : (s.writeProgramme l).talk = s.talk := by
  unfold State.writeProgramme
  split
  · rfl
  · exact s.writePoint_talk _ _

/-- A destination without talkers and waiters (R169). -/
def Dest.emptied (d : Dest) : Dest := { d with slots := Vector.replicate 4 none, grant := [], waiters := [] }

/-- A destination without talkers gives every station MUTE (R167). -/
theorem Dest.emptied_stationValue (d : Dest) (st : Nat) : d.emptied.stationValue st = 127 := rfl

end Emptied

section Unbound

variable {s : State} {l : Nat}

/-- A link being unbound leaves its destination empty and its talk crosspoints MUTE (R169). -/
theorem State.talkUnbind_empties (hl : l < 32) (himage : Cells.wf Config.mute s.matrix.image = true) :
    ((s.talkUnbind l).dest l).slots = Vector.replicate 4 none ∧ ((s.talkUnbind l).dest l).waiters = [] ∧
    (s.talkUnbind l).Muted fun p => ∃ o, (s.link l).output = some o ∧ ∃ st < 16, p = pointOf o st := by
  set t := s.setDest l Dest.emptied with ht
  have hdest : t.dest l = (s.dest l).emptied := look_adjust_same _ _ _ hl
  obtain ⟨hmatrix, hslots, hwaiters⟩ := s.talkEvent_keeps l fun s =>
    let s1 := s.setDest l Dest.emptied
    let s2 := s1.writeTalkPoints l
    { s2 with talk := { s2.talk with keys := mapTable (fun _ key => key.without l) s2.talk.keys } }
  have hwritten : (look (t.writeTalkPoints l).talk.dests l) = (s.dest l).emptied := by rw [State.writeTalkPoints_talk]; exact hdest
  refine ⟨hslots.trans (congrArg Dest.slots hwritten), hwaiters.trans (congrArg Dest.waiters hwritten), .of_matrix ?_ hmatrix⟩
  show (t.writeTalkPoints l).Muted _
  have hkept : t.Muted fun _ => False := ⟨himage, fun _ h => h.elim⟩
  unfold State.writeTalkPoints
  split
  · next hnone => exact hkept.mono fun p ⟨o, ho, _⟩ => by cases hnone.symm.trans ho
  · next o ho =>
    refine (hkept.talkPoints (fun st => by rw [hdest]; exact Dest.emptied_stationValue _ st) (List.range 16)).mono fun p ⟨o', ho', st, hst, hp⟩ => ?_
    cases ho.symm.trans ho'
    exact .inl ⟨st, List.mem_range.mpr hst, hp⟩

/-- The programme part takes its VACANT values, up to the edition (R170). -/
theorem State.vacateProgramme_dest (hl : l < 32) : ∃ edition, (s.vacateProgramme l).dest l = { (s.dest l).programmeVacant with edition } := by
  unfold State.vacateProgramme
  dsimp only
  split
  · exact ⟨_, look_adjust_same _ _ _ hl⟩
  · refine ⟨(s.dest l).edition + 1, ?_⟩
    rw [State.dest, State.rewriteDest, State.talkRewrites_dests]
    exact look_adjust_same _ _ _ hl

@[simp] theorem State.vacateProgramme_matrix : (s.vacateProgramme l).matrix = s.matrix := by
  unfold State.vacateProgramme
  dsimp only
  split
  · rfl
  · exact State.talkRewrites_matrix _ _

/-- The duck ramp's unbinding keeps talkers, waiters and muted points; it mutes an IEM link's programme crosspoint (R171). -/
theorem State.duckUnbind_mutes {ps : Nat → Prop} (hl : l < 32) (h : s.Muted ps) :
    ((s.duckUnbind l).dest l).slots = (s.dest l).slots ∧ ((s.duckUnbind l).dest l).waiters = (s.dest l).waiters ∧
    ((s.link l).kind = .iem → ((s.duckUnbind l).dest l).current = 127) ∧
    (s.duckUnbind l).Muted fun p => ps p ∨
      ∃ o, (s.link l).output = some o ∧ (s.link l).kind = .iem ∧ p = pointOf o (programmeInput (s.link l).studio) := by
  by_cases hkind : (s.link l).kind = .iem
  · obtain ⟨edition, hdest⟩ := s.vacateProgramme_dest hl
    have hcurrent : ((s.vacateProgramme l).dest l).current = 127 := congrArg Dest.current hdest
    have hlink : (s.vacateProgramme l).link l = s.link l := congrArg (fun v : Links => look v.recs l) (s.vacateProgramme_studioOnly l).links
    have hunbound : (s.duckUnbind l).dest l = (s.vacateProgramme l).dest l := by
      rw [State.duckUnbind, if_pos hkind, State.dest, State.writeProgramme_talk, State.dest]
    rw [hunbound]
    refine ⟨(congrArg Dest.slots hdest).trans rfl, (congrArg Dest.waiters hdest).trans rfl, fun _ => hcurrent, ?_⟩
    have hkept : (s.vacateProgramme l).Muted ps := h.of_matrix State.vacateProgramme_matrix
    rw [State.duckUnbind, if_pos hkind, State.writeProgramme, hlink, hcurrent]
    cases hout : (s.link l).output with
    | none => exact hkept.mono fun p hp => hp.resolve_right fun ⟨o, ho, _⟩ => by cases ho
    | some o =>
      refine (hkept.writePoint _).mono fun p hp => ?_
      obtain hp | ⟨o', ho', -, hp⟩ := hp
      · exact .inr hp
      · cases ho'
        exact .inl hp
  · rw [State.duckUnbind, if_neg hkind]
    exact ⟨rfl, rfl, fun h => absurd h hkind, h.mono fun p hp => hp.resolve_right fun ⟨o, _, hiem, _⟩ => hkind hiem⟩

end Unbound

/-! ## UNBIND_LINK (R80) -/

section Stages

variable (s : State) (l : Nat)

/-- A link being unbound has freed its origin entry, and its target where it has one (R17, R80). -/
def State.unbindSettled : State := (s.freeEntry (s.link l).originEntry).settleOrigin l

/-- A link being unbound has withdrawn its transactions, and left the resolver, talkback and the duck ramp (R80, R128, R169, R171). -/
def State.unbindSilenced : State :=
  ((((s.unbindSettled l).dropLinkTransactions l).tallyUnbind l).talkUnbind l).duckUnbind l

/-- The links with link l's record VACANT, its edition counted (R74, R80). -/
def Links.unbound (ls : Links) : Links :=
  { ls with recs := put ls.recs l { LinkRec.vacant with edition := (look ls.recs l).edition + 1 }, edition := ls.edition + 1 }

theorem State.unbind_eq : s.unbind l =
    (((s.unbindSilenced l).rewriteLink l fun _ => LinkRec.vacant).lampLevelChange l).releaseUnit (s.link l).unit := rfl

theorem State.unbindSettled_none (h : (s.link l).targetEntry = none) : s.unbindSettled l = s.freeEntry (s.link l).originEntry := by
  have htarget : ((s.freeEntry (s.link l).originEntry).link l).targetEntry = none := h
  simp only [State.unbindSettled, State.settleOrigin, htarget]

theorem State.unbindSettled_some {t : Nat} (h : (s.link l).targetEntry = some t) :
    s.unbindSettled l = (s.freeEntry (s.link l).originEntry).freeEntry t :=
  State.settleOrigin_eq _ h

/-- The entries are settled on the plan alone, and note EVENTS.PLAN (R17). -/
theorem State.unbindSettled_blocks : ∃ es plan, s.unbindSettled l = { s with plan, board := s.board.note (.plan :: es) } := by
  cases h : (s.link l).targetEntry with
  | none => exact ⟨[], _, s.unbindSettled_none l h⟩
  | some t => exact ⟨[.plan], _, s.unbindSettled_some l h⟩

/-- The poller lets go of a unit on the bus alone (R72). -/
theorem State.pollDrop_bus (a : Nat) : s.pollDrop a = { s with bus := (s.pollDrop a).bus } ∧ (s.pollDrop a).bus.units = s.bus.units := by
  unfold State.pollDrop
  split
  · exact ⟨s.pollChoose_bus, s.pollChoose_units⟩
  · exact ⟨rfl, rfl⟩

/-- A unit is released on the bus, and by what that notes (R69). -/
theorem State.releaseUnit_blocks (a : Nat) : ∃ es bus, s.releaseUnit a = { s with bus, board := s.board.note es } := by
  unfold State.releaseUnit
  split
  · rw [(State.pollDrop_bus _ a).1, State.unitReleased, State.setUnit_eq]
    exact ⟨_, _, rfl⟩
  · exact ⟨[], s.bus, rfl⟩

/-- A unit without bound links becomes UNUSED (R69). -/
theorem State.releaseUnit_unit {a : Nat} (hlo : 1 ≤ a) (hhi : a ≤ 16) (hnone : ∀ m < 32, (s.link m).state ≠ .vacant → (s.link m).unit ≠ a) :
    (s.releaseUnit a).unit a = UnitRec.unused := by
  have hempty : (s.linksOfUnit a).isEmpty = true := by
    refine List.isEmpty_iff.mpr (List.eq_nil_iff_forall_not_mem.mpr fun m hm => ?_)
    obtain ⟨hm32, hbound, hunit⟩ := (s.mem_linksOfUnit a m).mp hm
    exact hnone m hm32 hbound hunit
  rw [State.releaseUnit, if_pos hempty, State.unit, (State.pollDrop_bus _ a).2, State.unitReleased, State.setUnit_eq]
  exact look_put_same _ _ _ (by omega)

end Stages

/-- What the unbinding of link l leaves, block by block (R80). -/
structure State.Unbound (s u : State) (l : Nat) : Prop where
  links : u.links = s.links.unbound l
  plan : u.plan = (s.unbindSettled l).plan
  tally : u.tally = { s.tally with links := put s.tally.links l LinkTally.vacant }
  talk : u.talk = (s.unbindSilenced l).talk
  matrix : u.matrix = (s.unbindSilenced l).matrix
  lamps : u.lamps = (State.lampLevelChange { s with links := s.links.unbound l } l).lamps
  rest : u.moves = s.moves ∧ u.lines = s.lines ∧ u.ref = s.ref ∧ u.probe = s.probe ∧ u.pending = s.pending
  board : ∃ es, u.board = s.board.note es ∧ .plan ∈ es ∧ .link ∈ es

section Unbind

variable {s : State} {l : Nat}

/-- The stage before the record is rewritten, block by block. -/
theorem State.unbindSilenced_blocks : ∃ es bus talk matrix, s.unbindSilenced l = { s with
    board := s.board.note (.plan :: es), plan := (s.unbindSettled l).plan, bus, talk, matrix
    links := { s.links with recs := adjust s.links.recs l fun r => { r with offer := none } }
    tally := { s.tally with links := put s.tally.links l LinkTally.vacant } } := by
  obtain ⟨es, plan, hsettled⟩ := s.unbindSettled_blocks l
  obtain ⟨fs, talk, matrix, hsilenced⟩ := ((State.talkUnbind_talkOp l).comp (State.duckUnbind_talkOp l)).notes
    (((s.unbindSettled l).dropLinkTransactions l).tallyUnbind l)
  refine ⟨es ++ fs, (((s.unbindSettled l).dropLinkTransactions l).tallyUnbind l).bus, talk, matrix, hsilenced.trans ?_⟩
  rw [← List.cons_append, ← Board.note_note, hsettled]
  rfl

theorem State.unbind_unbound (hl : l < 32) : s.Unbound (s.unbind l) l := by
  obtain ⟨es, bus, talk, matrix, hsilenced⟩ := State.unbindSilenced_blocks (s := s) (l := l)
  set w := s.unbindSilenced l with hw
  set t := w.rewriteLink l fun _ => LinkRec.vacant with ht
  obtain ⟨fs, bus', hreleased⟩ := (t.lampLevelChange l).releaseUnit_blocks (s.link l).unit
  have hlinks : t.links = s.links.unbound l := by
    rw [ht, hsilenced]
    simp only [State.rewriteLink, State.raise_links, adjust, look_put_same _ _ _ hl, put_put]
    rfl
  have hlamps : (t.lampLevelChange l).lamps = (State.lampLevelChange { s with links := s.links.unbound l } l).lamps := by
    have hlink : t.link l = look (s.links.unbound l).recs l := by rw [State.link, hlinks]
    have hnow : t.now = s.now := (congrArg State.now hsilenced :)
    have hown : t.lamps = s.lamps := (congrArg State.lamps hsilenced :)
    rw [State.lampLevelChange_eq, State.lampLevelChange_eq, hlink, hnow, hown]
    rfl
  have hu : s.unbind l = { t with bus := bus', lamps := (t.lampLevelChange l).lamps, board := t.board.note fs } := by
    rw [State.unbind_eq, hreleased, State.lampLevelChange_eq]
  have hboard : t.board = s.board.note (.plan :: es ++ [.link]) := by
    rw [← Board.note_note]
    exact congrArg (fun v : State => v.board.note [.link]) hsilenced
  rw [hu]
  refine ⟨hlinks, (congrArg State.plan hsilenced :), (congrArg State.tally hsilenced :), rfl, rfl, hlamps,
    ⟨(congrArg State.moves hsilenced :), (congrArg State.lines hsilenced :), (congrArg State.ref hsilenced :),
      (congrArg State.probe hsilenced :), (congrArg State.pending hsilenced :)⟩,
    .plan :: es ++ [.link] ++ fs, ?_, by simp, by simp⟩
  rw [← Board.note_note, ← hboard]

/-- The links beside the one unbound stay (R80). -/
theorem State.Unbound.link_ne {u : State} {m : Nat} (h : s.Unbound u l) (hm : m ≠ l) : u.link m = s.link m := by
  rw [State.link, h.links]
  exact look_put_ne _ _ _ _ hm.symm

theorem State.Unbound.link_same {u : State} (h : s.Unbound u l) (hl : l < 32) :
    u.link l = { LinkRec.vacant with edition := (s.link l).edition + 1 } := by
  rw [State.link, h.links]
  exact look_put_same _ _ _ hl

/-- The unit of a link being unbound becomes UNUSED where no other bound link uses it (R69, R80). -/
theorem State.unbind_unit (hl : l < 32) (hlo : 1 ≤ (s.link l).unit) (hhi : (s.link l).unit ≤ 16)
    (hnone : ∀ m < 32, m ≠ l → (s.link m).state ≠ .vacant → (s.link m).unit ≠ (s.link l).unit) :
    (s.unbind l).unit (s.link l).unit = UnitRec.unused := by
  have hunbound := State.unbind_unbound (s := s) hl
  rw [State.unbind_eq] at hunbound ⊢
  set t := ((s.unbindSilenced l).rewriteLink l fun _ => LinkRec.vacant).lampLevelChange l
  obtain ⟨es, bus, hreleased⟩ := t.releaseUnit_blocks (s.link l).unit
  have hlink (m : Nat) : (t.releaseUnit (s.link l).unit).link m = t.link m := by rw [hreleased]; rfl
  refine t.releaseUnit_unit hlo hhi fun m hm hbound => ?_
  rw [← hlink] at hbound ⊢
  by_cases hm' : m = l
  · subst hm'
    exact absurd (congrArg LinkRec.state (hunbound.link_same hl)) hbound
  · rw [hunbound.link_ne hm'] at hbound ⊢
    exact hnone m hm hm' hbound

/-- The plan entries a link being unbound had: the origin and the target are freed, the others stay (R17, R80). -/
theorem State.unbindSettled_entries (ho : (s.link l).originEntry < 48) :
    let o := (s.link l).originEntry
    let p := s.unbindSettled l
    (p.entry o).status = .free ∧
    ((s.link l).targetEntry = none → p.entry o = { PlanEntry.free with edition := (s.entry o).edition + 1 }) ∧
    (∀ t < 48, (s.link l).targetEntry = some t → t ≠ o → p.entry t = { PlanEntry.free with edition := (s.entry t).edition + 1 }) ∧
    (∀ e < 48, e ≠ o → (s.link l).targetEntry ≠ some e → p.entry e = s.entry e) ∧
    p.plan.edition = s.plan.edition + (if (s.link l).targetEntry = none then 1 else 2) ∧ p.plan.refreshPending = true := by
  intro o p
  have horigin : (s.freeEntry o).entry o = { PlanEntry.free with edition := (s.entry o).edition + 1 } := s.freeEntry_entry_same ho
  cases htarget : (s.link l).targetEntry with
  | none =>
    have hp : p = s.freeEntry o := s.unbindSettled_none l htarget
    rw [hp]
    refine ⟨congrArg PlanEntry.status horigin, fun _ => horigin, fun t _ h => ?_, fun e _ hne _ => ?_, rfl, rfl⟩
    · cases h
    · exact s.freeEntry_entry_ne (Ne.symm hne)
  | some t =>
    have hp : p = (s.freeEntry o).freeEntry t := s.unbindSettled_some l htarget
    have htwo : s.plan.edition + 1 + 1 = s.plan.edition + 2 := by rw [BitVec.add_assoc]; rfl
    rw [hp]
    refine ⟨?_, fun h => ?_, fun t' ht' h hne => ?_, fun e _ hne h => ?_, htwo, rfl⟩
    · by_cases hto : t = o
      · rw [hto]
        exact congrArg PlanEntry.status ((s.freeEntry o).freeEntry_entry_same ho)
      · rw [State.freeEntry_entry_ne _ hto]
        exact congrArg PlanEntry.status horigin
    · cases h
    · cases h
      rw [State.freeEntry_entry_same _ ht', State.freeEntry_entry_ne _ (Ne.symm hne)]
    · rw [State.freeEntry_entry_ne _ (fun hte => h (congrArg some hte)), State.freeEntry_entry_ne _ (Ne.symm hne)]

/-- The destination and the crosspoints of a link being unbound (R169, R171). -/
theorem State.unbindSilenced_dest (hl : l < 32) (himage : Cells.wf Config.mute s.matrix.image = true) :
    let w := s.unbindSilenced l
    (w.dest l).slots = Vector.replicate 4 none ∧ (w.dest l).waiters = [] ∧
    (∀ x, (s.link l).output = some x → ∀ st < 16, w.imageAt (pointOf x st) = 127) ∧
    (∀ x, (s.link l).output = some x → (s.link l).kind = .iem →
      w.imageAt (pointOf x (programmeInput (s.link l).studio)) = 127 ∧ (w.dest l).current = 127) := by
  intro w
  obtain ⟨es, plan, hsettled⟩ := s.unbindSettled_blocks l
  set b := ((s.unbindSettled l).dropLinkTransactions l).tallyUnbind l with hb
  have hlink : b.link l = { s.link l with offer := none } := by
    rw [hb, hsettled]
    exact State.touchLink_link_same _ hl
  have hmatrix : b.matrix = s.matrix := by rw [hb, hsettled]; rfl
  obtain ⟨hslots, hwaiters, htalk⟩ := State.talkUnbind_empties (s := b) hl (hmatrix ▸ himage)
  obtain ⟨hslots', hwaiters', hcurrent, hmuted⟩ := State.duckUnbind_mutes hl htalk
  have hkept : (b.talkUnbind l).link l = b.link l := congrArg (fun v : Links => look v.recs l) (b.talkUnbind_studioOnly l).links
  rw [hkept, hlink] at hcurrent hmuted
  exact ⟨hslots'.trans hslots, hwaiters'.trans hwaiters, fun x hx st hst => hmuted.2 _ (.inl ⟨x, hx, st, hst, rfl⟩),
    fun x hx hiem => ⟨hmuted.2 _ (.inr ⟨x, hx, hiem, rfl⟩), hcurrent hiem⟩⟩

end Unbind

/-- UNBIND_LINK in a slot just taken (R80). -/
theorem State.doUnbindLink_taken (s : State) {n l : Nat} (hl : s.param n 4 = l) :
    (s.dropAttention.setSlot n .taken).doUnbindLink n =
      if 31 < l then s.answered n .badField []
      else if (s.link l).state = .vacant then s.answered n .notBound []
      else if s.tuning l then s.answered n .busy []
      else if (s.ctxOf l).isSome then s.answered n .inUse []
      else if s.lockRefuses (s.link l).originEntry (flagOverride (s.param n 5)) then s.answered n .locked []
      else ((s.dropAttention.setSlot n .taken).unbind l).complete n .ok := by
  subst hl
  simp only [State.doUnbindLink, State.taken_param, State.taken_link, State.taken_tuning, State.taken_ctxOf, State.taken_lockRefuses,
    State.complete_taken]

theorem State.tuning_iff (s : State) (l : Nat) : s.tuning l = true ↔ ∃ b ∈ s.links.bindings, b.link = l ∧ b.stage ≠ .seeking := by
  simp only [State.tuning, List.any_eq_true, decide_eq_true_eq]

theorem State.ctxOf_isSome_iff (s : State) (l : Nat) : (s.ctxOf l).isSome = true ↔ ∃ c < 4, (s.ctx c).phase ≠ .free ∧ (s.ctx c).link = l := by
  simp [State.ctxOf, placesWhere]

/-- Settles O34: the checks in their order, and what an accepted request frees block by block. -/
theorem unbindLinkFreesEverythingTheLinkHeld : Obligations.UnbindLinkFreesEverythingTheLinkHeld := by
  intro n s hn ht l r o refuse override tuning moving locked
  set taken := s.dropAttention.setSlot n .taken with htaken
  have hexec {u : State} (h : taken.doUnbindLink n = u) : exec (.unbindLink n) s = .next u.settle := by
    subst h
    exact State.request_taken s n 15 _ hn ht
  have htuning : s.tuning l = true ↔ tuning := s.tuning_iff l
  have hmoving : (s.ctxOf l).isSome = true ↔ moving := s.ctxOf_isSome_iff l
  have hlocked : s.lockRefuses o (flagOverride (s.param n 5)) = true ↔ locked := by
    simp only [State.lockRefuses, flagOverride, maskBit, Bool.and_eq_true, Bool.not_eq_true', locked, override]
  have hdo := s.doUnbindLink_taken (n := n) (l := l) rfl
  refine ⟨fun hfield => ?_, fun hl hvacant => ?_, fun hl hbound htunes => ?_, fun hl hbound htunes hmoves => ?_,
    fun hl hbound htunes hmoves hlock => ?_, fun hl hbound htunes hmoves hlock ho htables => ?_⟩
  · exact hexec (hdo.trans (if_pos hfield))
  all_goals rw [if_neg (Nat.not_lt.mpr hl)] at hdo
  · exact hexec (hdo.trans (if_pos hvacant))
  all_goals rw [if_neg hbound] at hdo
  · exact hexec (hdo.trans (if_pos (htuning.mpr htunes)))
  all_goals rw [if_neg (mt htuning.mp htunes)] at hdo
  · exact hexec (hdo.trans (if_pos (hmoving.mpr hmoves)))
  all_goals rw [if_neg (mt hmoving.mp hmoves)] at hdo
  · exact hexec (hdo.trans (if_pos (hlocked.mpr hlock)))
  replace hl : l < 32 := Nat.lt_succ_of_le hl
  obtain ⟨hbody, -, -, himage, -⟩ := htables
  obtain ⟨board, hcomplete, hdone, hevents, hresult⟩ := (taken.unbind l).complete_ok hn
  have hunbound := State.unbind_unbound (s := taken) hl
  obtain ⟨es, hboard, hplanNoted, hlinkNoted⟩ := hunbound.board
  obtain ⟨hmovesKept, hlines, href, hprobe, hpending⟩ := hunbound.rest
  obtain ⟨horigin, hfreed, htarget, hothers, hedition, hrefresh⟩ := State.unbindSettled_entries (s := taken) (l := l) ho
  obtain ⟨hslots, hwaiters, hpoints, hprogramme⟩ := State.unbindSilenced_dest (s := taken) hl himage
  have hentry (e : Nat) : (taken.unbind l).entry e = (taken.unbindSettled l).entry e :=
    congrArg (fun p : Plan => look p.entries e) hunbound.plan
  have hdest : (taken.unbind l).dest l = (taken.unbindSilenced l).dest l := congrArg (fun v : Talk => look v.dests l) hunbound.talk
  have himageAt (p : Nat) : (taken.unbind l).imageAt p = (taken.unbindSilenced l).imageAt p :=
    congrArg (fun m : Matrix => m.image.get Config.mute p) hunbound.matrix
  have hnoted : board.events = (taken.board.note (es ++ [.board])).events := by rw [hevents, hboard, Board.note_note]
  have hevent {e : Event} (he : e ∈ es ++ [.board]) : board.events.getLsbD e.ctorIdx = true := by
    rw [hnoted]
    exact taken.board.note_event he
  have hunit := State.unbind_unit (s := taken) hl
  have hanswer := hexec (hdo.trans ((if_neg (mt hlocked.mp hlock)).trans hcomplete))
  have hwf : (taken.unbind l).board.body.wf = true := (congrArg (fun b : Board => b.body.wf) hboard).trans hbody
  have hlamps : (taken.unbind l).lamps = (State.lampLevelChange { s with links := (taken.unbind l).links } l).lamps := by
    rw [hunbound.lamps, hunbound.links, State.lampLevelChange_eq, State.lampLevelChange_eq]
    rfl
  generalize taken.unbind l = v at *
  refine ⟨{ v with board }, hanswer, hunbound.link_same hl,
    congrArg Links.edition hunbound.links, fun m _ hm => hunbound.link_ne hm, (congrArg Links.bindings hunbound.links :),
    (congrArg PlanEntry.status (hentry o)).trans horigin, fun h => (hentry o).trans (hfreed h),
    fun t ht' h hne => (hentry t).trans (htarget t ht' h hne), fun e he hne h => (hentry e).trans (hothers e he hne h),
    (congrArg Plan.edition hunbound.plan).trans hedition, (congrArg Plan.refreshPending hunbound.plan).trans hrefresh,
    ?_, (congrArg Dest.slots hdest).trans hslots, (congrArg Dest.waiters hdest).trans hwaiters,
    fun x hx st hst => (himageAt _).trans (hpoints x hx st hst),
    fun x hx hiem => ⟨(himageAt _).trans (hprogramme x hx hiem).1, (congrArg Dest.current hdest).trans (hprogramme x hx hiem).2⟩,
    hunit, hevent (e := .board) (by simp),
    hevent (e := .link) (by simp [hlinkNoted]), hevent (e := .plan) (by simp [hplanNoted]), hdone, hresult hwf, hlamps, hmovesKept, hlines, href,
    hprobe, hpending⟩
  exact (congrArg (fun b : Resolver => look b.links l) hunbound.tally).trans (look_put_same _ _ _ hl)

end Sys2Proof.Machine
end

section
/-! SUPPORT and the proof on MOVE_LINK (R34, R37, R94 to R96). -/

namespace Sys2Proof.Machine

/-! ## MOVE_LINK (R94 to R96) -/

/-- The first place at which p holds. -/
theorem head?_placesWhere_eq_some_iff {n i : Nat} {p : Nat → Bool} :
    (placesWhere n p).head? = some i ↔ i < n ∧ p i = true ∧ ∀ j < i, p j = false := by
  rw [placesWhere, List.head?_filter, List.find?_range_eq_some]
  simp [and_left_comm]

/-- The context chosen is the lowest FREE one (R94). -/
theorem State.freeCtx_eq_some_iff (s : State) (c : Nat) :
    s.freeCtx = some c ↔ c < 4 ∧ (s.ctx c).phase = .free ∧ ∀ d < c, (s.ctx d).phase ≠ .free := by
  simp only [State.freeCtx, head?_placesWhere_eq_some_iff, decide_eq_true_eq, decide_eq_false_iff_not, ne_eq]

/-- Taking a slot leaves which context is FREE. -/
theorem State.taken_freeCtx (s : State) (n : Nat) : (s.dropAttention.setSlot n .taken).freeCtx = s.freeCtx := rfl

/-- The target of a MOVE_LINK (R34, R95). -/
theorem State.moveTarget_eq (s : State) (n : Nat) (o : Options) :
    let absent (v : Nat) : Prop := v = 0 ∨ v = 0xFFFF
    let start := startField o.searchLo o.searchHi (s.param n 7)
    s.moveTarget n o = if s.param n 5 = 0xFFFF then
        (.auto (if s.param n 6 = 0 ∨ s.param n 6 = 0xFFFF then 1 else min 64 (s.param n 6)) start.value
            (if s.param n 8 = 0 ∨ s.param n 8 = 0xFFFF then 12800 else min 12800 (s.param n 8)),
          decide (¬absent (s.param n 6) ∧ 64 < s.param n 6) || start.was || decide (¬absent (s.param n 8) ∧ 12800 < s.param n 8))
      else (.code (min 12799 (s.param n 5)), decide (12799 < s.param n 5)) := by
  intro absent start
  have hwas (v d x lim : Nat) : (if v = 0 ∨ v = 0xFFFF then Clamped.mk d false else Clamped.mk x (decide (lim < v))).was =
      decide (¬absent v ∧ lim < v) := Bool.eq_iff_iff.mpr ((default_was _ _ d x).trans decide_eq_true_iff.symm)
  simp only [State.moveTarget, stepField_eq, limitField_eq, clampTo_code, hwas, apply_ite Clamped.value]
  rfl

/-- A MOVE_LINK's context opened (R37, R94, R96). -/
theorem State.openCtx_eq {s : State} {c : Nat} (m : MoveReq) : s.openCtx c m = { s with
    board := s.board.note [.link]
    links := { s.links with recs := put s.links.recs m.link { s.link m.link with rescueTimer := .stopped } }
    moves := { s.moves with
      ctxs := put s.moves.ctxs c (m.context ((s.ctx c).edition + 1)), edition := s.moves.edition + 1 }
    plan := { s.plan with waiting := s.plan.waiting ++ [moveJob c m.link m.target m.force (s.link m.link).options] } } := rfl

/-- MOVE_LINK in a slot just taken (R94, R95). -/
theorem State.doMoveLink_taken (s : State) (n : Nat) :
    let l := s.param n 4
    let flags := s.param n 9
    let t := s.moveTarget n (s.link l).options
    let refuse (x : Result) : State := s.answered n x (moveWords none none 0 none .none 0)
    (s.dropAttention.setSlot n .taken).doMoveLink n =
      if 31 < l ∨ (flagForce flags = true ∧ s.param n 5 = 0xFFFF) then refuse .badField
      else if (s.link l).state = .vacant then refuse .notBound
      else if s.tuning l then refuse .busy
      else if (s.link l).state = .adrift then refuse .adrift
      else if (s.ctxOf l).isSome then refuse .inUse
      else if s.lockRefuses (s.link l).originEntry (flagOverride flags) then refuse .locked
      else match s.freeCtx with
        | none => refuse .busy
        | some c => (s.dropAttention.setSlot n .taken).openCtx c
          { link := l, slot := some n, origin := .host, target := t.1, urgent := flagUrgent flags, manualGo := flagManualGo flags,
            force := flagForce flags, override := flagOverride flags, clamped := t.2 } := by
  simp only [State.doMoveLink, State.complete_taken]
  rfl

/-- Settles O38: the checks in their order, and the context that an accepted request opens. -/
theorem moveLinkOpensAContext : Obligations.MoveLinkOpensAContext := by
  intro n s hn ht p l r flags auto absent step limit start override refuse accept
  refine ⟨s.freeCtx_eq_some_iff, ?_⟩
  calc exec (.moveLink n) s
      = .next ((s.dropAttention.setSlot n .taken).doMoveLink n).settle := State.request_taken s n 18 _ hn ht
    _ = _ := ?_
  refine congrArg (fun t : State => Host.Outcome.next t.settle) ?_
  rw [State.doMoveLink_taken]
  refine if_congr (or_congr_right (and_congr_right' decide_eq_true_iff.symm)) rfl ?_
  refine if_congr Iff.rfl rfl (if_congr Iff.rfl rfl (if_congr Iff.rfl rfl (if_congr Iff.rfl rfl (if_congr Iff.rfl rfl ?_))))
  cases s.freeCtx with
  | none => rfl
  | some c =>
    show State.openCtx _ c _ = accept c
    rw [State.openCtx_eq, State.moveTarget_eq]
    by_cases hauto : s.param n 5 = 0xFFFF
    · simp only [accept, show auto = true from decide_eq_true hauto, hauto, if_true]
      rfl
    · simp only [accept, show auto = false from decide_eq_false hauto, hauto, if_false]
      rfl

end Sys2Proof.Machine
end

section
/-! SUPPORT on the parts of the end of a move (R15, R17, R52, R54, R84, R87 to R90, R186): result words, plan entries, the link, the probe and waiting rescues. -/

namespace Sys2Proof.Machine

/-! ## The words of a completion (R186) -/

/-- The bodies after words are written into slot n one after another. -/
def Memory.writes (m : Memory) (n : Nat) (ws : List (Nat × Word)) : Memory :=
  ws.foldl (fun m w => m.write (slotAddr n w.1) w.2) m

theorem Memory.read_writes_ne {m : Memory} {n a : Nat} {ws : List (Nat × Word)} (h : ∀ w ∈ ws, slotAddr n w.1 ≠ a) :
    (m.writes n ws).read a = m.read a :=
  List.foldlRecOn ws _ (motive := fun u : Memory => u.read a = m.read a) rfl
    fun u hu w hw => (Memory.read_write_ne u _ _ _ (h w hw)).trans hu

/-- A slot's words written one after another, each once, are read back. -/
theorem Memory.read_writes_mem {m : Memory} {n : Nat} {ws : List (Nat × Word)} (hwf : m.wf = true) (hnodup : (ws.map (·.1)).Nodup)
    {k : Nat} {v : Word} (h : (k, v) ∈ ws) : (m.writes n ws).read (slotAddr n k) = v := by
  induction ws generalizing m with
  | nil => cases h
  | cons w ws ih =>
    obtain ⟨hw, hws⟩ := List.nodup_cons.mp hnodup
    cases h with
    | head =>
      have hlater : ∀ w ∈ ws, slotAddr n w.1 ≠ slotAddr n k := fun w hmem haddr => hw (List.mem_map.mpr ⟨w, hmem, Nat.add_left_cancel haddr⟩)
      show Memory.read (Memory.writes (m.write (slotAddr n k) v) n ws) (slotAddr n k) = v
      rw [Memory.read_writes_ne hlater, Memory.read_write_same m _ _ hwf]
    | tail _ h => exact ih (Memory.wf_write m _ _ hwf) hws h

/-- The board as a completion of slot n leaves it (R186). -/
def Board.completed (b : Board) (n : Nat) (r : Result) (ws : List (Nat × Word)) : Board :=
  { b with slots := put b.slots n .done, body := b.body.writes n (ws ++ [(3, resultNat r.ctorIdx)]), events := b.events ||| Event.board.bit }

theorem State.complete_board (s : State) (n : Nat) (r : Result) (ws : List (Nat × Word)) :
    s.complete n r ws = { s with board := s.board.completed n r ws } := s.complete_eq n r ws

/-! ## The plan entries at the end of a move (R15, R17, R109) -/

section Entries

variable {s : State} {x : Ctx} {o : Outcome} {t : Nat}

/-- A move that ends OK adopts its target. -/
theorem State.endEntries_adopts (h : x.targetEntry = some t) : s.endEntries x .ok = s.adopt (s.link x.link).originEntry t := by
  simp only [State.endEntries, h]

/-- A move that ends otherwise, but not ADRIFT, frees its target. -/
theorem State.endEntries_frees (h : x.targetEntry = some t) (hok : o ≠ .ok) (hadrift : o ≠ .adrift) : s.endEntries x o = s.freeEntry t := by
  cases o <;> simp only [State.endEntries, h, ne_eq, not_true_eq_false] at hok hadrift ⊢

/-- A move without a target, or one that ends ADRIFT, leaves the entries. -/
theorem State.endEntries_keeps (h : x.targetEntry = none ∨ o = .adrift) : s.endEntries x o = s := by
  obtain h | rfl := h
  · cases o <;> simp only [State.endEntries, h]
  · simp only [State.endEntries]

/-- The entries settled touch the plan, and note no more than EVENTS.PLAN. -/
theorem State.endEntries_blocks (s : State) (x : Ctx) (o : Outcome) : ∃ es, s.endEntries x o =
    { s with plan := (s.endEntries x o).plan, board := s.board.note es } := by
  by_cases hkeeps : x.targetEntry = none ∨ o = .adrift
  · exact ⟨[], by rw [State.endEntries_keeps hkeeps]; rfl⟩
  · obtain ⟨hsome, hadrift⟩ := not_or.mp hkeeps
    obtain ⟨t, htarget⟩ := Option.ne_none_iff_exists'.mp hsome
    by_cases hok : o = .ok
    · subst hok
      exact ⟨[.plan, .plan], by rw [State.endEntries_adopts htarget]; rfl⟩
    · exact ⟨[.plan], by rw [State.endEntries_frees htarget hok hadrift]; rfl⟩

end Entries

/-! ## The link at the end of a move (R84, R87, R90) -/

/-- The timers a link keeps go by its state alone (R84, R87, R88). -/
theorem LinkRec.trimTimers_eq (r : LinkRec) : r.trimTimers = { r with
    weakTimer := if r.state.stopsTimers then none else r.weakTimer
    lossTimer := if r.state.stopsTimers then none else r.lossTimer
    rescueTimer := if r.state = .weak then r.rescueTimer else .stopped
    rescueBarred := r.rescueBarred && decide (r.state = .weak) } := by
  obtain ⟨state⟩ := r
  cases state <;> simp [LinkRec.trimTimers, LinkState.stopsTimers]

theorem LinkState.stopsTimers_eq (x : LinkState) :
    x.stopsTimers = decide (x = .moving ∨ x = .mistuned ∨ x = .unitMissing ∨ x = .adrift ∨ x = .vacant) := by
  cases x <;> rfl

/-- What a change of a link's record touches (R90). -/
theorem State.linkCore_blocks (s : State) (l : Nat) (f : LinkRec → LinkRec) : ∃ es talk matrix lamps, s.linkCore l f = { s with
    board := s.board.note (.link :: es)
    links := { s.links with
      recs := put s.links.recs l { (f (s.link l)).trimTimers with edition := (s.link l).edition + 1 }, edition := s.links.edition + 1 }
    talk, matrix, lamps } := by
  obtain ⟨es, hboard⟩ := s.linkCore_board l f
  have hlinks := (State.linkCore_links_moves (s := s) (l := l) f).1
  obtain ⟨links, board, talk, matrix, lamps, h⟩ := s.linkCore_supervisionOnly l f
  rw [h] at hboard hlinks
  exact ⟨es, talk, matrix, lamps, h.trans (by rw [show board = _ from hboard, show links = _ from hlinks]; rfl)⟩

/-- A change that keeps the supervision state is handed to no other block (R90). -/
theorem State.linkCore_same_state {s : State} {l : Nat} {f : LinkRec → LinkRec} (hl : l < 32) (h : (f (s.link l)).state = (s.link l).state) :
    s.linkCore l f = s.rewriteLink l fun r => (f r).trimTimers := by
  refine if_pos ?_
  rw [State.rewriteLink_link_same _ hl]
  exact (LinkRec.trimTimers_state _).trans h

/-! ## The probe at the end of a move (R52, R54) -/

section Hold

variable {s : State}

/-- The automatic hold touches the probe and its transaction in flight, and notes events (R52). -/
theorem State.updateAutoHold_blocks (s : State) : ∃ es bus probe, s.updateAutoHold = { s with board := s.board.note es, bus, probe } := by
  unfold State.updateAutoHold State.holdEffect State.releaseEffect
  dsimp only
  split
  · exact ⟨[], s.bus, s.probe, rfl⟩
  · split <;> split <;> exact ⟨[.probe], _, _, rfl⟩

/-- The probe as its automatic hold ends: a sweep that no other hold keeps begins its phase again (R54). -/
def Probe.unheld (p : Probe) : Probe :=
  if p.state = .held ∧ p.hostHold = false then ({ p with autoHold := false } : Probe).beginPhase p.phase else { p with autoHold := false }

/-- The automatic hold ends with the last retuning context (R52). -/
theorem State.updateAutoHold_ends (hheld : s.probe.autoHold = true) (hnone : s.retuning = false) :
    s.updateAutoHold = { s with board := s.board.note [.probe], probe := s.probe.unheld } := by
  set t : State := { s with board := s.board.note [.probe], probe := { s.probe with autoHold := false } } with ht
  have hreleases : s.updateAutoHold = t.releaseEffect := by
    simp only [State.updateAutoHold, hheld, hnone, Bool.false_eq_true, if_false]
    rfl
  have hbegins : (t.probe.state = .held ∧ (!t.probe.holding) = true) ↔ s.probe.state = .held ∧ s.probe.hostHold = false := by
    simp [ht, Probe.holding]
  rw [hreleases, State.releaseEffect, Probe.unheld]
  by_cases h : s.probe.state = .held ∧ s.probe.hostHold = false
  · rw [if_pos (hbegins.mpr h), if_pos h]
    rfl
  · rw [if_neg (mt hbegins.mp h), if_neg h]

/-- The automatic hold that stands as the contexts have it stays (R52). -/
theorem State.updateAutoHold_stays (h : s.retuning = s.probe.autoHold) : s.updateAutoHold = s := if_pos h

end Hold

/-! ## Waiting rescues (R88, R89) -/

section Served

variable {s : State} {l : Nat}

/-- A rescue's tests change no other link. -/
theorem State.attemptRescue_link_ne {m : Nat} (hl : l < 32) (h : l ≠ m) : (s.attemptRescue l).link m = s.link m := by
  unfold State.attemptRescue
  split
  · exact State.touchLink_link_ne _ h
  split
  · exact State.touchLink_link_ne _ h
  split
  · exact State.touchLink_link_ne _ h
  split
  · exact State.touchLink_link_ne _ h
  · rw [State.startRescueMove_eq hl]
    exact look_put_ne _ _ _ _ h

/-- One place of the service of waiting rescues. -/
def State.serveRescue (s : State) (l : Nat) : State :=
  if (s.link l).rescueTimer = .waiting ∧ s.freeCtx.isSome then s.attemptRescue l else s

theorem State.serveRescues_eq (s : State) : s.serveRescues = (List.range 32).foldl State.serveRescue s := rfl

/-- Links that do not wait, and links that wait while no context is FREE, are passed by. -/
theorem State.foldl_serveRescue_none {ls : List Nat} (h : ∀ l ∈ ls, (s.link l).rescueTimer ≠ .waiting ∨ s.freeCtx = none) :
    ls.foldl State.serveRescue s = s :=
  List.foldlRecOn ls _ (motive := fun u : State => u = s) rfl fun u hu l hl => by
    subst hu
    refine if_neg fun ⟨hwaits, hfree⟩ => (h l hl).elim (absurd hwaits) fun hnone => ?_
    rw [hnone] at hfree
    cases hfree

/-- With no rescue waiting there is none to serve. -/
theorem State.serveRescues_none (h : ∀ l < 32, (s.link l).rescueTimer ≠ .waiting) : s.serveRescues = s :=
  State.foldl_serveRescue_none fun l hl => .inl (h l (List.mem_range.mp hl))

/-- While no context is FREE the rescues wait on. -/
theorem State.serveRescues_full (h : ∀ c < 4, (s.ctx c).phase ≠ .free) : s.serveRescues = s :=
  State.foldl_serveRescue_none fun _ _ => .inr (State.freeCtx_eq_none h)

/-- A rescue that waits alone makes its tests where a context is FREE. -/
theorem State.serveRescues_single (hl : l < 32) (hwaits : (s.link l).rescueTimer = .waiting)
    (hothers : ∀ m < 32, m ≠ l → (s.link m).rescueTimer ≠ .waiting) (hfree : s.freeCtx.isSome = true) :
    s.serveRescues = s.attemptRescue l := by
  obtain ⟨before, after, hsplit⟩ := List.append_of_mem (List.mem_range.mpr hl)
  have hnodup : (before ++ l :: after).Nodup := hsplit ▸ List.nodup_range
  obtain ⟨hbefore, hafter⟩ : l ∉ before ∧ l ∉ after := by
    have hperm := List.nodup_middle.mp hnodup
    exact not_or.mp (mt List.mem_append.mpr (List.nodup_cons.mp hperm).1)
  have hlt {m : Nat} (hm : m ∈ before ∨ m ∈ after) : m < 32 :=
    List.mem_range.mp (hsplit ▸ List.mem_append.mpr (hm.imp_right (List.mem_cons_of_mem l)))
  rw [State.serveRescues_eq, hsplit, List.foldl_append, List.foldl_cons,
    State.foldl_serveRescue_none fun m hm => .inl (hothers m (hlt (.inl hm)) fun h => hbefore (h ▸ hm)),
    show s.serveRescue l = s.attemptRescue l from if_pos ⟨hwaits, hfree⟩]
  refine State.foldl_serveRescue_none fun m hm => .inl ?_
  have hne : m ≠ l := fun h => hafter (h ▸ hm)
  rw [State.attemptRescue_link_ne hl hne.symm]
  exact hothers m (hlt (.inr hm)) hne

end Served

end Sys2Proof.Machine
end

section
/-! SUPPORT on the end of a move as a whole (R109): its stages, the blocks it touches, and what it publishes. -/

namespace Sys2Proof.Machine

/-! ## The end of a move, stage by stage (R109) -/

/-- Steps 1 to 4 of the end of a move: the entries, the link, the context and the probe. -/
def State.moveClosed (s : State) (c : Nat) (o : Outcome) : State :=
  let x := s.ctx c
  let linked := (s.endEntries x o).linkCore x.link fun r => r.moveEnded x o
  ((linked.rewriteCtx c fun y => { Ctx.free with edition := y.edition }).endInstance (.ctx c)).updateAutoHold

/-- The board after a host move's slot is completed; a rescue has none (R109, step 5). -/
def Board.moveAnswered (b : Board) (x : Ctx) (o : Outcome) (cause : Cause) (flags : Word) : Board :=
  match x.slot with
  | none => b
  | some n => b.completed n (o.result x.clamped) (moveWords x.targetEntry x.targetCode x.examined x.checkReason cause flags)

/-- The end of a move before the freed context is offered to the waiting rescues. -/
def State.moveOver (s : State) (c : Nat) (o : Outcome) (cause : Cause) : State :=
  let x := s.ctx c
  let closed := s.moveClosed c o
  State.startRescue { closed with board := closed.board.moveAnswered x o cause (closed.link x.link).moveFlags } x.link

theorem State.endMove_eq (s : State) (c : Nat) (o : Outcome) (cause : Cause) : s.endMove c o cause = (s.moveOver c o cause).offerFreed := by
  have hanswered (t : State) (x : Ctx) (flags : Word) : (match x.slot with
      | none => t
      | some n => t.complete n (o.result x.clamped) (moveWords x.targetEntry x.targetCode x.examined x.checkReason cause flags)) =
      { t with board := t.board.moveAnswered x o cause flags } := by
    unfold Board.moveAnswered
    cases x.slot with
    | none => rfl
    | some n => exact t.complete_board _ _ _
  exact congrArg (fun t : State => (t.startRescue (s.ctx c).link).offerFreed) (hanswered (s.moveClosed c o) (s.ctx c) _)

/-! ### The link and the context -/

/-- A record put where it stands. -/
theorem put_look {α : Type} {n : Nat} [Inhabited α] (v : Vector α n) (i : Nat) : put v i (look v i) = v := by
  ext j hj
  by_cases h : i = j
  · subst h
    simp [put, look, hj]
  · simp [put, h]

/-- The record of context c's link as its move ends with outcome o, its rescue timer apart (R84, R90). -/
def State.movedRecord (s : State) (c : Nat) (o : Outcome) : LinkRec :=
  { ((s.link (s.ctx c).link).moveEnded (s.ctx c) o).trimTimers with edition := (s.link (s.ctx c).link).edition + 1 }

/-- A record with its rescue timer started where the link is WEAK with rescue AUTO (R87). -/
def LinkRec.rescueStarted (r : LinkRec) (now : Time) : LinkRec :=
  { r with rescueTimer := if r.state = .weak ∧ r.options.rescue = true then .running { start := now, len := r.options.rescueTime } else r.rescueTimer }

/-- The rescue timer of a link whose only move has ended (R87). -/
theorem State.startRescue_alone {s : State} {l : Nat} (h : (s.link l).state = .weak → s.ctxOf l = none) : s.startRescue l =
    { s with links := { s.links with recs := put s.links.recs l ((s.link l).rescueStarted s.board.time) } } := by
  by_cases hstarts : (s.link l).state = .weak ∧ (s.link l).options.rescue = true
  · obtain ⟨hweak, hrescue⟩ := hstarts
    rw [State.startRescue_eq, if_pos ⟨hweak, hrescue, h hweak⟩, LinkRec.rescueStarted, if_pos ⟨hweak, hrescue⟩]
    rfl
  · rw [State.startRescue_eq, if_neg fun ⟨hweak, hrescue, _⟩ => hstarts ⟨hweak, hrescue⟩, LinkRec.rescueStarted, if_neg hstarts]
    exact congrArg (fun recs => ({ s with links := { s.links with recs } } : State)) (put_look _ _).symm

/-- The contexts with context c FREE (R93). -/
def State.ctxsWithout (s : State) (c : Nat) : Vector Ctx 4 := put s.moves.ctxs c { Ctx.free with edition := (s.ctx c).edition + 1 }

/-- Some context beside c is in a retuning phase. -/
def State.retuningBeside (s : State) (c : Nat) : Bool := (List.range 4).any fun d => decide (d ≠ c) && (s.ctx d).phase.retuning

theorem State.retuning_without {s t : State} {c : Nat} (hc : c < 4) (h : t.moves.ctxs = s.ctxsWithout c) : t.retuning = s.retuningBeside c := by
  have hphase (d : Nat) : (t.ctx d).phase.retuning = (decide (d ≠ c) && (s.ctx d).phase.retuning) := by
    rw [State.ctx, h, State.ctxsWithout]
    by_cases hd : d = c
    · subst hd
      rw [look_put_same _ _ _ hc, decide_eq_false (not_not_intro rfl)]
      rfl
    · rw [look_put_ne _ _ _ _ (Ne.symm hd), decide_eq_true hd]
      rfl
  simp only [State.retuning, State.retuningBeside, hphase]

/-- A link that no other context moves has no context once c is FREE. -/
theorem State.ctxOf_without {s t : State} {c l : Nat} (hc : c < 4) (h : t.moves.ctxs = s.ctxsWithout c)
    (halone : ∀ d < 4, d ≠ c → (s.ctx d).phase ≠ .free → (s.ctx d).link ≠ l) : t.ctxOf l = none := by
  refine Option.not_isSome_iff_eq_none.mp fun hsome => ?_
  obtain ⟨d, hd, hbusy, hlink⟩ := (t.ctxOf_isSome_iff l).mp hsome
  rw [State.ctx, h, State.ctxsWithout] at hbusy hlink
  by_cases hdc : d = c
  · subst hdc
    rw [look_put_same _ _ _ hc] at hbusy
    exact hbusy rfl
  · rw [look_put_ne _ _ _ _ (Ne.symm hdc)] at hbusy hlink
    exact halone d hd hdc hbusy hlink

/-! ### The blocks -/

/-- The transaction in flight reports to context c no more (R66). -/
def Bus.without (b : Bus) (c : Nat) : Bus :=
  { b with inFlight := b.inFlight.map fun t => if t.orig = .ctx c then { t with live := false } else t }

/-- What steps 1 to 4 of the end of context c's move with outcome o make of s: u. -/
structure State.MoveClosed (s u : State) (c : Nat) (o : Outcome) : Prop where
  plan : u.plan = (s.endEntries (s.ctx c) o).plan
  links : u.links = { s.links with
    recs := put s.links.recs (s.ctx c).link (s.movedRecord c o), edition := s.links.edition + 1 }
  moves : u.moves = { s.moves with ctxs := s.ctxsWithout c, edition := s.moves.edition + 1 }
  board : ∃ es, Event.link ∈ es ∧ u.board = s.board.note es
  rest : u.lines = s.lines ∧ u.tally = s.tally ∧ u.ref = s.ref ∧ u.pending = s.pending
  hold : s.retuning = s.probe.autoHold →
    u.probe = (if s.probe.autoHold = s.retuningBeside c then s.probe else s.probe.unheld) ∧ u.bus = s.bus.without c
  quiet : (s.movedRecord c o).state = (s.link (s.ctx c).link).state → u.talk = s.talk ∧ u.matrix = s.matrix ∧ u.lamps = s.lamps
  told : (s.movedRecord c o).state ≠ (s.link (s.ctx c).link).state → ∀ links : Links,
    (∀ m, (u.link m).TalksAs (look links.recs m)) → s.Told { u with links } (s.ctx c).link

/-- What is told of a change goes by no block but talkback, the matrix line, the lamps, the links and the time. -/
theorem State.Told.of_planned {s u : State} {l : Nat} {plan : Plan} {es : List Event}
    (h : State.Told { s with plan, board := s.board.note es } u l) : s.Told u l := by
  obtain ⟨htalk, hmatrix, hlamps⟩ := h
  obtain ⟨_, talk, matrix, hown, hplanned⟩ := State.talkLinkChange_talkOp l { s with links := u.links }
    { s with links := u.links, plan := plan, board := s.board.note es } ⟨rfl, rfl, rfl, fun _ => .refl _⟩
  dsimp only at hown hplanned
  rw [hplanned] at htalk hmatrix
  rw [State.lampStateChange_eq] at hlamps
  rw [State.Told, hown, State.lampStateChange_eq]
  exact ⟨htalk, hmatrix, hlamps⟩

theorem State.moveClosed_closes {s : State} {c : Nat} (hc : c < 4) (hl : (s.ctx c).link < 32) (o : Outcome) :
    s.MoveClosed (s.moveClosed c o) c o := by
  set x := s.ctx c
  set f : LinkRec → LinkRec := fun r => r.moveEnded x o
  obtain ⟨es, hentries⟩ := s.endEntries_blocks x o
  set planned : State := { s with plan := (s.endEntries x o).plan, board := s.board.note es } with hplanned
  obtain ⟨fs, talk, matrix, lamps, hlinked⟩ := planned.linkCore_blocks x.link f
  have hstate : (s.movedRecord c o).state = (f (planned.link x.link)).state := LinkRec.trimTimers_state _
  set freed : State := { planned.linkCore x.link f with
    board := (planned.linkCore x.link f).board.note [.link]
    moves := { s.moves with ctxs := s.ctxsWithout c, edition := s.moves.edition + 1 }
    bus := s.bus.without c } with hfreed
  have hclosed : s.moveClosed c o = freed.updateAutoHold := by
    rw [State.moveClosed, hentries, hfreed, hlinked]
    rfl
  have hretuning : freed.retuning = s.retuningBeside c := State.retuning_without hc rfl
  obtain ⟨gs, bus, probe, hheld⟩ := freed.updateAutoHold_blocks
  have hblocks : s.moveClosed c o = { freed with board := freed.board.note gs, bus, probe } := hclosed.trans hheld
  have hlinks (m : Nat) : (s.moveClosed c o).link m = (planned.linkCore x.link f).link m := by rw [hblocks]; rfl
  have hstudio : (s.moveClosed c o).talk = (planned.linkCore x.link f).talk ∧ (s.moveClosed c o).matrix = (planned.linkCore x.link f).matrix ∧
      (s.moveClosed c o).lamps = (planned.linkCore x.link f).lamps := by rw [hblocks]; exact ⟨rfl, rfl, rfl⟩
  obtain ⟨htalk, hmatrix, hlamps⟩ := hstudio
  refine ⟨?_, ?_, ?_, ⟨es ++ (.link :: fs) ++ [.link] ++ gs, List.mem_append_left gs (List.mem_append_right _ (List.mem_singleton_self _)), ?_⟩,
    ?_, fun hstands => ?_, fun hsame => ?_, fun hchanged links halike => ?_⟩
  · rw [hblocks, hfreed, hlinked]
  · rw [hblocks, hfreed, hlinked]
    rfl
  · rw [hblocks]
  · rw [hblocks, hfreed, hlinked, ← Board.note_note, ← Board.note_note, ← Board.note_note]
  · rw [hblocks, hfreed, hlinked]
    exact ⟨rfl, rfl, rfl, rfl⟩
  · have hprobe : freed.probe = s.probe := by rw [hfreed, hlinked]
    rw [hclosed]
    by_cases hstays : s.probe.autoHold = s.retuningBeside c
    · rw [State.updateAutoHold_stays (by rw [hretuning, hprobe, hstays]), if_pos hstays]
      exact ⟨hprobe, rfl⟩
    · have hends : s.probe.autoHold = true ∧ s.retuningBeside c = false := by
        have hbeside : s.retuningBeside c = true → s.retuning = true := fun h => by
          obtain ⟨d, hd, hretunes⟩ := List.any_eq_true.mp h
          exact s.retuning_of_ctx (List.mem_range.mp hd) (Bool.and_eq_true_iff.mp hretunes).2
        rw [← hstands] at hstays ⊢
        cases hothers : s.retuningBeside c with
        | false => exact ⟨(Bool.not_eq_false _).mp fun h => hstays (h.trans hothers.symm), rfl⟩
        | true => exact absurd ((hbeside hothers).trans hothers.symm) hstays
      obtain ⟨hheld, hnone⟩ := hends
      rw [State.updateAutoHold_ends (by rw [hprobe, hheld]) (hretuning.trans hnone), if_neg hstays]
      exact ⟨congrArg Probe.unheld hprobe, rfl⟩
  · have hrewritten := State.linkCore_same_state (s := planned) hl (hstate.symm.trans hsame)
    rw [htalk, hmatrix, hlamps, hrewritten]
    exact ⟨rfl, rfl, rfl⟩
  · obtain ⟨htold, htold', htold''⟩ := State.linkCore_told (s := planned) hl (fun h => hchanged (hstate.trans h)) fun m => hlinks m ▸ halike m
    exact State.Told.of_planned ⟨htalk.trans htold, hmatrix.trans htold', hlamps.trans htold''⟩

/-- What the end of context c's move with outcome o makes of s, the freed context not yet offered: u (R109). -/
structure State.MoveOver (s u : State) (c : Nat) (o : Outcome) (cause : Cause) : Prop where
  plan : u.plan = (s.endEntries (s.ctx c) o).plan
  links : u.links = { s.links with
    recs := put s.links.recs (s.ctx c).link ((s.movedRecord c o).rescueStarted s.board.time), edition := s.links.edition + 1 }
  moves : u.moves = { s.moves with ctxs := s.ctxsWithout c, edition := s.moves.edition + 1 }
  board : ∃ es, Event.link ∈ es ∧ u.board = (s.board.note es).moveAnswered (s.ctx c) o cause (s.link (s.ctx c).link).moveFlags
  rest : u.lines = s.lines ∧ u.tally = s.tally ∧ u.ref = s.ref ∧ u.pending = s.pending
  hold : s.retuning = s.probe.autoHold →
    u.probe = (if s.probe.autoHold = s.retuningBeside c then s.probe else s.probe.unheld) ∧ u.bus = s.bus.without c
  quiet : (s.movedRecord c o).state = (s.link (s.ctx c).link).state → u.talk = s.talk ∧ u.matrix = s.matrix ∧ u.lamps = s.lamps
  told : (s.movedRecord c o).state ≠ (s.link (s.ctx c).link).state → s.Told u (s.ctx c).link

theorem Board.moveAnswered_time (b : Board) (x : Ctx) (o : Outcome) (cause : Cause) (flags : Word) :
    (b.moveAnswered x o cause flags).time = b.time := by
  unfold Board.moveAnswered
  split <;> rfl

/-- The end of a move leaves its link's flags (R109). -/
theorem State.movedRecord_moveFlags (s : State) (c : Nat) (o : Outcome) :
    (s.movedRecord c o).moveFlags = (s.link (s.ctx c).link).moveFlags := by
  rw [State.movedRecord, LinkRec.trimTimers_eq]
  rfl

theorem State.moveOver_ends {s : State} {c : Nat} (hc : c < 4) (hl : (s.ctx c).link < 32) (o : Outcome) (cause : Cause)
    (halone : (s.movedRecord c o).state = .weak → ∀ d < 4, d ≠ c → (s.ctx d).phase ≠ .free → (s.ctx d).link ≠ (s.ctx c).link) :
    s.MoveOver (s.moveOver c o cause) c o cause := by
  have hstarts : s.moveOver c o cause = State.startRescue { s.moveClosed c o with
    board := (s.moveClosed c o).board.moveAnswered (s.ctx c) o cause ((s.moveClosed c o).link (s.ctx c).link).moveFlags } (s.ctx c).link := rfl
  obtain ⟨hplan, hlinks, hmoves, ⟨es, hes, hboard⟩, hrest, hhold, hquiet, htold⟩ := State.moveClosed_closes hc hl o
  generalize s.moveClosed c o = closed at *
  have hrecord : closed.link (s.ctx c).link = s.movedRecord c o := by
    rw [State.link, hlinks]
    exact look_put_same _ _ _ hl
  rw [hrecord, s.movedRecord_moveFlags c o, hboard] at hstarts
  set board := (s.board.note es).moveAnswered (s.ctx c) o cause (s.link (s.ctx c).link).moveFlags with hanswered
  have hnow : board.time = s.board.time := Board.moveAnswered_time _ _ _ _ _
  clear_value board
  set links : Links := { s.links with
    recs := put s.links.recs (s.ctx c).link ((s.movedRecord c o).rescueStarted s.board.time), edition := s.links.edition + 1 } with hfinal
  have hover : s.moveOver c o cause = { closed with board, links } := by
    have hanswers : State.link { closed with board } (s.ctx c).link = s.movedRecord c o := hrecord
    refine hstarts.trans ((State.startRescue_alone (s := { closed with board }) fun hweak =>
      State.ctxOf_without hc (congrArg Moves.ctxs hmoves) (halone (hanswers ▸ hweak))).trans ?_)
    rw [hanswers, hlinks, hfinal, ← hnow]
    exact congrArg (fun recs => ({ closed with board, links := { s.links with recs, edition := s.links.edition + 1 } } : State))
      (put_put _ _ _ _)
  rw [hover]
  refine ⟨hplan, rfl, hmoves, ⟨es, hes, hanswered⟩, hrest, hhold, hquiet, fun hchanged => htold hchanged links fun m => ?_⟩
  rw [State.link, hlinks, hfinal]
  by_cases hm : (s.ctx c).link = m
  · subst hm
    rw [look_put_same _ _ _ hl, look_put_same _ _ _ hl]
    exact ⟨rfl, rfl, rfl, rfl, rfl⟩
  · rw [look_put_ne _ _ _ _ hm, look_put_ne _ _ _ _ hm]
    exact .refl _

/-! ### What the end of a move publishes -/

theorem Board.moveAnswered_none {b : Board} {x : Ctx} {o : Outcome} {cause : Cause} {flags : Word} (h : x.slot = none) :
    b.moveAnswered x o cause flags = b := by simp only [Board.moveAnswered, h]

theorem Board.moveAnswered_some {b : Board} {x : Ctx} {o : Outcome} {cause : Cause} {flags : Word} {m : Nat} (h : x.slot = some m) :
    b.moveAnswered x o cause flags = b.completed m (o.result x.clamped)
      (moveWords x.targetEntry x.targetCode x.examined x.checkReason cause flags) := by simp only [Board.moveAnswered, h]

/-- The words a completion writes are words of its own slot. -/
theorem Board.completed_body_ne {b : Board} {m n k : Nat} {r : Result} {ws : List (Nat × Word)} (hws : ∀ w ∈ ws, w.1 < 32) (hk : k < 32)
    (h : m ≠ n ∨ k ≠ 3 ∧ ∀ w ∈ ws, w.1 ≠ k) : (b.completed m r ws).body.read (slotAddr n k) = b.body.read (slotAddr n k) := by
  refine Memory.read_writes_ne fun w hw => ?_
  have hplace : w.1 < 32 ∧ (m ≠ n ∨ w.1 ≠ k) := by
    obtain hw | hw := List.mem_append.mp hw
    · exact ⟨hws w hw, h.imp_right fun h => h.2 w hw⟩
    · cases List.mem_singleton.mp hw
      exact ⟨show 3 < 32 by decide, h.imp_right fun h => Ne.symm h.1⟩
  obtain ⟨hlt, hne⟩ := hplace
  simp only [slotAddr]
  omega

theorem moveWords_place {entry code : Option Nat} {examined : Nat} {reason : Option Reason} {cause : Cause} {flags : Word} {w : Nat × Word}
    (h : w ∈ moveWords entry code examined reason cause flags) : 10 ≤ w.1 ∧ w.1 ≤ 15 := by
  have hplaces : ∀ k ∈ [10, 11, 12, 13, 14, 15], 10 ≤ k ∧ k ≤ 15 := by decide
  exact hplaces w.1 (List.mem_map_of_mem h)

/-- The record of the link of a move that ended (R84, R87, R88, R90). -/
theorem State.movedRecord_rescueStarted (s : State) (c : Nat) (o : Outcome) (now : Time) :
    let x := s.ctx c
    let r := s.link x.link
    let q := r.moveEnded x o
    (s.movedRecord c o).rescueStarted now = { q with
      edition := r.edition + 1
      weakTimer := if q.state.stopsTimers then none else q.weakTimer
      lossTimer := if q.state.stopsTimers then none else q.lossTimer
      rescueBarred := q.rescueBarred && decide (q.state = .weak)
      rescueTimer := if q.state ≠ .weak then .stopped
        else if q.options.rescue then .running { start := now, len := q.options.rescueTime } else q.rescueTimer } := by
  intro x r q
  have hrecord : s.movedRecord c o = { q.trimTimers with edition := r.edition + 1 } := rfl
  rw [hrecord, LinkRec.trimTimers_eq, LinkRec.rescueStarted]
  by_cases hweak : q.state = .weak <;> simp [hweak]

theorem State.movedRecord_state (s : State) (c : Nat) (o : Outcome) :
    (s.movedRecord c o).state = ((s.link (s.ctx c).link).moveEnded (s.ctx c) o).state := LinkRec.trimTimers_state _

namespace State.MoveOver

variable {s u : State} {c m n : Nat} {o : Outcome} {cause : Cause} (h : s.MoveOver u c o cause)
include h

theorem link_same (hl : (s.ctx c).link < 32) : u.link (s.ctx c).link = (s.movedRecord c o).rescueStarted s.board.time := by
  rw [State.link, h.links]
  exact look_put_same _ _ _ hl

theorem link_ne (hm : m ≠ (s.ctx c).link) : u.link m = s.link m := by
  rw [State.link, h.links]
  exact look_put_ne _ _ _ _ hm.symm

theorem ctx_same (hc : c < 4) : u.ctx c = { Ctx.free with edition := (s.ctx c).edition + 1 } := by
  rw [State.ctx, h.moves]
  exact look_put_same _ _ _ hc

theorem ctx_ne {d : Nat} (hd : d ≠ c) : u.ctx d = s.ctx d := by
  rw [State.ctx, h.moves]
  exact look_put_ne _ _ _ _ hd.symm

theorem entry (e : Nat) : u.entry e = (s.endEntries (s.ctx c) o).entry e := by
  rw [State.entry, h.plan, State.entry]

/-- The slots and words of a rescue's end: a rescue has no slot. -/
theorem unanswered (hslot : (s.ctx c).slot = none) : u.board.slots = s.board.slots ∧ u.board.body = s.board.body := by
  obtain ⟨es, -, hboard⟩ := h.board
  rw [hboard, Board.moveAnswered_none hslot]
  exact ⟨rfl, rfl⟩

theorem slot_done (hslot : (s.ctx c).slot = some m) (hm : m < 32) : u.slot m = .done := by
  obtain ⟨es, -, hboard⟩ := h.board
  rw [State.slot, hboard, Board.moveAnswered_some hslot]
  exact look_put_same _ _ _ hm

theorem slot_ne (hn : (s.ctx c).slot ≠ some n) : u.slot n = s.slot n := by
  obtain ⟨es, -, hboard⟩ := h.board
  rw [State.slot, hboard]
  cases hslot : (s.ctx c).slot with
  | none => rw [Board.moveAnswered_none hslot]; rfl
  | some m =>
    rw [Board.moveAnswered_some hslot]
    exact look_put_ne _ _ _ _ fun hmn => hn (hmn ▸ hslot)

/-- A slot's words beside its own results stay. -/
theorem word_ne {k : Nat} (hk : k < 32) (hn : (s.ctx c).slot ≠ some n ∨ k ≠ 3 ∧ k < 10) : u.slotWord n k = s.slotWord n k := by
  obtain ⟨es, -, hboard⟩ := h.board
  rw [State.slotWord, hboard]
  cases hslot : (s.ctx c).slot with
  | none => rw [Board.moveAnswered_none hslot]; rfl
  | some m =>
    rw [Board.moveAnswered_some hslot]
    refine Board.completed_body_ne (fun w hw => Nat.lt_of_le_of_lt (moveWords_place hw).2 (by decide)) hk ?_
    exact hn.imp (fun hn hmn => hn (hmn ▸ hslot)) fun ⟨hthree, hten⟩ => ⟨hthree, fun w hw => by have := (moveWords_place hw).1; omega⟩

/-- The result code and the result words stand in the slot of a host move (R109, R195). -/
theorem results (hslot : (s.ctx c).slot = some m) (hbody : s.board.body.wf = true) :
    u.slotWord m 3 = resultNat (o.result (s.ctx c).clamped).ctorIdx ∧
    u.slotWord m 10 = resultOpt (s.ctx c).targetEntry ∧ u.slotWord m 11 = resultOpt (s.ctx c).targetCode ∧
    u.slotWord m 12 = resultNat (s.ctx c).examined ∧ u.slotWord m 13 = resultOpt ((s.ctx c).checkReason.map (·.ctorIdx)) ∧
    u.slotWord m 14 = resultNat cause.ctorIdx ∧ u.slotWord m 15 = (s.link (s.ctx c).link).moveFlags := by
  obtain ⟨es, -, hboard⟩ := h.board
  have hnodup : [10, 11, 12, 13, 14, 15, 3].Nodup := by decide
  have hread {k : Nat} {v : Word} (hv : (k, v) ∈ moveWords (s.ctx c).targetEntry (s.ctx c).targetCode (s.ctx c).examined
      (s.ctx c).checkReason cause (s.link (s.ctx c).link).moveFlags ++ [(3, resultNat (o.result (s.ctx c).clamped).ctorIdx)]) :
      u.slotWord m k = v := by
    rw [State.slotWord, hboard, Board.moveAnswered_some hslot]
    refine Memory.read_writes_mem hbody ?_ hv
    exact hnodup
  refine ⟨hread ?_, hread ?_, hread ?_, hread ?_, hread ?_, hread ?_, hread ?_⟩ <;> simp [moveWords]

theorem link_noted : u.board.events.getLsbD 1 = true := by
  obtain ⟨es, hes, hboard⟩ := h.board
  rw [hboard]
  cases hslot : (s.ctx c).slot with
  | none =>
    rw [Board.moveAnswered_none hslot]
    exact s.board.note_event hes
  | some m =>
    rw [Board.moveAnswered_some hslot]
    exact (BitVec.getLsbD_or ..).trans (Bool.or_eq_true_iff.mpr (.inl (s.board.note_event hes)))

theorem board_noted (hslot : (s.ctx c).slot = some m) : u.board.events.getLsbD 0 = true := by
  obtain ⟨es, -, hboard⟩ := h.board
  rw [hboard, Board.moveAnswered_some hslot]
  exact (BitVec.getLsbD_or ..).trans (Bool.or_true _)

/-- What competes with the waiting rescues for the freed context (R89). -/
theorem moveLinkPosted_iff : u.moveLinkPosted = true ↔
    ∃ m ∈ s.board.attention, s.slot m = .posted ∧ s.param m 1 = 18 ∧ (s.ctx c).slot ≠ some m := by
  have hattention : u.board.attention = s.board.attention := by
    obtain ⟨es, -, hboard⟩ := h.board
    rw [hboard, Board.moveAnswered]
    split <;> rfl
  have hown (m : Nat) (hslot : (s.ctx c).slot = some m) : u.slot m ≠ .posted := fun hposted => by
    by_cases hm : m < 32
    · cases (h.slot_done hslot hm).symm.trans hposted
    · have hfree : u.slot m = .free := by simp [State.slot, look, hm]; rfl
      cases hfree.symm.trans hposted
  have hparam (m : Nat) : u.param m 1 = s.param m 1 := congrArg BitVec.toNat (h.word_ne (by decide) (.inr (by decide)))
  simp only [State.moveLinkPosted, List.any_eq_true, decide_eq_true_eq, hattention, hparam]
  refine exists_congr fun m => and_congr_right fun _ => ?_
  by_cases hslot : (s.ctx c).slot = some m
  · exact iff_of_false (fun h => hown m hslot h.1) fun h => h.2.2 hslot
  · rw [h.slot_ne hslot]
    simp [hslot]

/-- The end of a move starts no wait for a context. -/
theorem serveRescues_none (hl : (s.ctx c).link < 32) (hwaits : ∀ m < 32, (s.link m).rescueTimer ≠ .waiting) : u.serveRescues = u := by
  refine State.serveRescues_none fun m hm => ?_
  by_cases hown : m = (s.ctx c).link
  · subst hown
    rw [h.link_same hl, State.movedRecord_rescueStarted]
    dsimp only
    split
    · exact RescueTimer.noConfusion
    · split
      · exact RescueTimer.noConfusion
      · exact hwaits _ hl
  · rw [h.link_ne hown]
    exact hwaits m hm

end State.MoveOver

/-- A freed context is offered to the waiting rescues, where no MOVE_LINK competes for it (R89, R109). -/
theorem State.offerFreed_none {u : State} (h : u.serveRescues = u) : u.offerFreed = u := by
  rw [State.offerFreed, h, ite_self]

end Sys2Proof.Machine
end

section
/-! SUPPORT and the proof on the confirm and query timers (R103, R105 to R107). -/

namespace Sys2Proof.Machine

/-! ## A context rewritten, phase by phase (R93, R101 to R108) -/

/-- Context c rewritten as y (R93). -/
def State.withContext (s : State) (c : Nat) (y : Ctx) : State :=
  { s with
    board := s.board.note [.link]
    moves := { s.moves with ctxs := put s.moves.ctxs c { y with edition := (s.ctx c).edition + 1 }, edition := s.moves.edition + 1 } }

section Phases

variable (s : State) (c : Nat)

/-- Entering TUNE_FAR; on a link at PROGRAM the retune on air is recorded, once (R102, R110). -/
theorem State.enterTuneFar_eq (hc : c < 4) :
    let x := s.ctx c
    let r := s.link x.link
    let u := s.withContext c { x with phase := .tuneFar, offer := some (.tuneFar r.channel x.targetCodeD) }
    s.enterTuneFar c = if r.applied = .program ∧ r.retunedOnAir = false then u.withRecord x.link { r with retunedOnAir := true } else u := by
  intro x r u
  have hctx : u.ctx c = _ := look_put_same _ _ _ hc
  have hlink : (u.ctx c).link = x.link := (congrArg Ctx.link hctx).trans rfl
  have hentered : s.enterTuneFar c = if (u.link (u.ctx c).link).applied = .program then u.setRetuned (u.ctx c).link else u := rfl
  have hrecord : u.link x.link = r := rfl
  rw [hentered, hlink, hrecord, State.setRetuned, hrecord]
  cases hair : r.retunedOnAir with
  | true => simp
  | false =>
    simp only [and_true]
    rfl

/-- Entering REVERT_FAR (R105). -/
theorem State.enterRevertFar_eq (cause : Cause) : s.enterRevertFar c cause = s.withContext c { s.ctx c with
    phase := .revertFar, confirmTimer := none, queryTimer := none, cause := if cause = .none then (s.ctx c).cause else cause
    offer := some (.tuneFar (s.link (s.ctx c).link).channel (s.entry (s.link (s.ctx c).link).originEntry).code) } := rfl

/-- A move that goes ADRIFT ends so, with MUTE_PENDING set for a MIC or IEM link (R107). -/
theorem State.goAdrift_eq (cause : Cause) : s.goAdrift c cause =
    State.endMove (if (s.link (s.ctx c).link).kind = .camera then s
      else s.withRecord (s.ctx c).link { s.link (s.ctx c).link with mutePending := true }) c .adrift
      (if cause = .none then (s.ctx c).cause else cause) := rfl

end Phases

/-! ## Timers of a context (R99, R103, R106) -/

section Expiries

variable {s u : State} {c : Nat} {tm : Timer}

/-- A timer's expiry that is taken. -/
theorem State.onExpiry_due (hready : s.board.ready = true) (hdue : tm.len ≤ (s.board.time - tm.start).toNat) :
    s.onExpiry (some tm) u = u :=
  (if_pos hready).trans (if_pos (decide_eq_true hdue))

theorem exec_holdTimerExpiry (hc : c < 4) (hready : s.board.ready = true) (hrun : (s.ctx c).holdTimer = some tm)
    (hdue : tm.len ≤ (s.board.time - tm.start).toNat) :
    exec (.holdTimerExpiry c) s = .next (s.endMove c .holdTimeout .none).settle :=
  (if_pos hc).trans (congrArg Host.Outcome.next (by rw [hrun, State.onExpiry_due hready hdue]))

theorem exec_confirmTimerExpiry (hc : c < 4) (hready : s.board.ready = true) (hrun : (s.ctx c).confirmTimer = some tm)
    (hdue : tm.len ≤ (s.board.time - tm.start).toNat) : exec (.confirmTimerExpiry c) s = .next (s.confirmExpiry c).settle :=
  (if_pos hc).trans (congrArg Host.Outcome.next (by rw [hrun, State.onExpiry_due hready hdue]))

theorem exec_queryTimerExpiry (hc : c < 4) (hready : s.board.ready = true) (hrun : (s.ctx c).queryTimer = some tm)
    (hdue : tm.len ≤ (s.board.time - tm.start).toNat) : exec (.queryTimerExpiry c) s = .next (s.queryAgain c).settle :=
  (if_pos hc).trans (congrArg Host.Outcome.next (by rw [hrun, State.onExpiry_due hready hdue]))

end Expiries

/-- With no rescue waiting, the end of a move offers its context to none. -/
theorem State.endMove_unwaited {s : State} {c : Nat} {o : Outcome} {cause : Cause} (h : s.MoveOver (s.moveOver c o cause) c o cause)
    (hl : (s.ctx c).link < 32) (hwaits : ∀ m < 32, (s.link m).rescueTimer ≠ .waiting) : s.endMove c o cause = s.moveOver c o cause := by
  rw [State.endMove_eq, State.offerFreed_none (h.serveRescues_none hl hwaits)]

/-- A link whose move ends ADRIFT is ADRIFT (R90). -/
theorem State.movedRecord_adrift (s : State) (c : Nat) : (s.movedRecord c .adrift).state = .adrift := s.movedRecord_state c .adrift

/-- Settles O40: the timer's phase decides between REVERT_FAR, the next QUERY and ADRIFT. -/
theorem confirmationExpiries : Obligations.ConfirmationExpiries := by
  refine ⟨?_, ?_⟩
  · intro s c tm hc hready hdue x rewritten
    refine ⟨fun hrun hphase => ?_, fun hrun => exec_queryTimerExpiry hc hready hrun hdue⟩
    rw [exec_confirmTimerExpiry hc hready hrun hdue, State.confirmExpiry, show (s.ctx c).phase = .confirm from hphase]
    exact congrArg (fun t : State => Host.Outcome.next t.settle) (s.enterRevertFar_eq c .none)
  · intro s c tm hc hready hrun hdue hphase hl hwaits x r
    set pending : State := if r.kind = .camera then s else s.withRecord x.link { r with mutePending := true } with hpending
    have hadrift : s.confirmExpiry c = pending.endMove c .adrift x.cause := by
      rw [State.confirmExpiry, hphase]
      exact s.goAdrift_eq c .none
    have hmoves : pending.moves = s.moves := by rw [hpending]; split <;> rfl
    have hplan : pending.plan = s.plan := by rw [hpending]; split <;> rfl
    have hother (m : Nat) (hm : m ≠ x.link) : pending.link m = s.link m := by
      rw [hpending]
      split
      · rfl
      · exact look_put_ne _ _ _ _ hm.symm
    have hown : ∃ edition, pending.link x.link =
        { r with mutePending := if r.kind = .camera then r.mutePending else true, edition := edition } := by
      rw [hpending]
      split
      · exact ⟨r.edition, rfl⟩
      · exact ⟨_, look_put_same _ _ _ hl⟩
    obtain ⟨edition, hown⟩ := hown
    have hctx (d : Nat) : pending.ctx d = s.ctx d := congrArg (fun v : Moves => look v.ctxs d) hmoves
    have hlink : (pending.ctx c).link = x.link := congrArg Ctx.link (hctx c)
    clear_value pending
    have hover : pending.MoveOver (pending.moveOver c .adrift x.cause) c .adrift x.cause :=
      State.moveOver_ends hc (hlink ▸ hl) _ _ fun hweak => by
        cases (pending.movedRecord_adrift c).symm.trans hweak
    have hends := State.endMove_unwaited hover (hlink ▸ hl) fun m hm => by
      by_cases hne : m = x.link
      · subst hne
        rw [hown]
        exact hwaits _ hm
      · rw [hother m hne]
        exact hwaits m hm
    have hrecord := hover.link_same (hlink ▸ hl)
    rw [State.movedRecord_rescueStarted, hlink, hown, hctx] at hrecord
    refine ⟨pending.moveOver c .adrift x.cause, ?_, ?_, ?_⟩
    · rw [exec_confirmTimerExpiry hc hready hrun hdue, hadrift, hends]
    · rw [hover.plan, State.endEntries_keeps (.inr rfl), hplan]
    · rw [hrecord]
      refine ⟨rfl, rfl, rfl, rfl, rfl, rfl, rfl, rfl, rfl, ?_, fun d _ hd => ?_, fun m _ hm => ?_, fun m hslot hm => ?_⟩
      · rw [hover.ctx_same hc, hctx]
      · rw [hover.ctx_ne hd, hctx]
      · rw [hover.link_ne (hlink ▸ hm), hother m hm]
      · exact hover.slot_done ((congrArg Ctx.slot (hctx c)).trans hslot) hm

end Sys2Proof.Machine
end

section
/-! SUPPORT and the proof on the transactions of a move and its end (R89, R101 to R112, R195). -/

namespace Sys2Proof.Machine

/-! ## The transactions of a move (R101 to R108) -/

theorem Phase.retuning_eq (p : Phase) : p.retuning = decide (p ≠ .free ∧ p ≠ .seeking ∧ p ≠ .held) := by
  cases p <;> rfl

section Transactions

variable {s : State} {c : Nat} {cmd : BusCmd} {ok : Bool} {cause : Cause}

theorem State.ctxTxEnded_muting (h : (s.ctx c).phase = .muting) : s.ctxTxEnded c cmd ok cause =
    if ok then (if (s.ctx c).abort then s.enterUnmuting c .aborted else s.enterTuneFar c)
    else if (s.ctx c).abort then s.endMove c .aborted .none else s.endMove c .unitFailed cause := by
  simp only [State.ctxTxEnded, h]

theorem State.ctxTxEnded_tuneFar (h : (s.ctx c).phase = .tuneFar) : s.ctxTxEnded c cmd ok cause =
    if ok = true ∧ (!(s.ctx c).abort) = true then s.enterTuneLocal c else s.enterRevertFar c (if ok then .none else cause) := by
  simp only [State.ctxTxEnded, h]

theorem State.ctxTxEnded_tuneLocal (h : (s.ctx c).phase = .tuneLocal) : s.ctxTxEnded c cmd ok cause =
    if ok = true ∧ (!(s.ctx c).abort) = true then s.enterConfirm c .confirm else s.enterRevertFar c (if ok then .none else cause) := by
  simp only [State.ctxTxEnded, h]

/-- An ended QUERY starts the query timer (R103, R106). -/
theorem State.ctxTxEnded_query (h : (s.ctx c).phase = .confirm ∨ (s.ctx c).phase = .revertConfirm) : s.ctxTxEnded c cmd ok cause =
    s.withContext c { s.ctx c with queryTimer := some { start := s.board.time, len := 100 } } := by
  have hwaits : s.ctxTxEnded c cmd ok cause = s.rewriteCtx c fun x => { x with queryTimer := s.timer Config.queryMs } := by
    obtain h | h := h <;> simp only [State.ctxTxEnded, h]
  exact hwaits

theorem State.ctxTxEnded_revertFar (h : (s.ctx c).phase = .revertFar) : s.ctxTxEnded c cmd ok cause =
    if cmd = .query then s else if ok then s.enterRevertLocal c else s.goAdrift c cause := by
  simp only [State.ctxTxEnded, h]

theorem State.ctxTxEnded_revertLocal (h : (s.ctx c).phase = .revertLocal) : s.ctxTxEnded c cmd ok cause =
    if ok then s.enterConfirm c .revertConfirm else s.goAdrift c cause := by
  simp only [State.ctxTxEnded, h]

theorem State.ctxTxEnded_unmuting (h : (s.ctx c).phase = .unmuting) : s.ctxTxEnded c cmd ok cause =
    if cmd = .query then s else State.endMove (if ok then s
      else s.withRecord (s.ctx c).link { s.link (s.ctx c).link with mutePending := true }) c (s.ctx c).outcome (s.ctx c).cause := by
  simp only [State.ctxTxEnded, h, apply_ite (State.endMove · c (s.ctx c).outcome (s.ctx c).cause)]
  rfl

/-- A tune that failed, or that ends with abort requested, is reverted (R105, R112). -/
theorem State.ctxTxEnded_reverts (h : (s.ctx c).phase = .tuneFar ∨ (s.ctx c).phase = .tuneLocal) (hfails : ok = false ∨ (s.ctx c).abort = true) :
    s.ctxTxEnded c cmd ok cause = s.withContext c { s.ctx c with
      phase := .revertFar, confirmTimer := none, queryTimer := none
      offer := some (.tuneFar (s.link (s.ctx c).link).channel (s.entry (s.link (s.ctx c).link).originEntry).code)
      cause := if ok = true ∨ cause = .none then (s.ctx c).cause else cause } := by
  have hstops : ¬(ok = true ∧ (!(s.ctx c).abort) = true) := by
    obtain hfails | hfails := hfails <;> simp [hfails]
  have hreverts : s.ctxTxEnded c cmd ok cause = s.enterRevertFar c (if ok then .none else cause) := by
    obtain h | h := h
    · exact (State.ctxTxEnded_tuneFar h).trans (if_neg hstops)
    · exact (State.ctxTxEnded_tuneLocal h).trans (if_neg hstops)
  rw [hreverts, State.enterRevertFar_eq]
  cases ok <;> simp

end Transactions

/-! ## The results of a move (R109, R195) -/

/-- An adoption in the plan (R5, R15). -/
theorem State.adopt_plan (s : State) (o t : Nat) : (s.adopt o t).plan =
    { s.plan with entries := (s.adopt o t).plan.entries, edition := s.plan.edition + 2, refreshPending := true } := by
  rw [← s.adopt_edition o t]
  rfl

/-- A reference phase begun again (R45, R54). -/
theorem Probe.beginPhase_reference {p : Probe} (h : p.phase = .reference) : p.beginPhase p.phase =
    { p with state := .calibrating, settleTimer := none, window := none, offer := some (.reference, 0) } := by
  obtain ⟨⟩ := p
  cases h
  rfl

/-- A sample phase begun again (R46, R54). -/
theorem Probe.beginPhase_sample {p : Probe} (h : p.phase = .sample) : p.beginPhase p.phase =
    { p with state := .tuning, settleTimer := none, window := none, offer := some (.antenna, 8 * p.cur + 4) } := by
  obtain ⟨⟩ := p
  cases h
  rfl

theorem State.freeCtx_isSome_iff (s : State) : s.freeCtx.isSome = true ↔ ∃ c < 4, (s.ctx c).phase = .free := by
  simp [State.freeCtx, placesWhere]

/-- RETUNED_ON_AIR and MUTE_PENDING as a word (R195). -/
theorem LinkRec.moveFlags_eq (r : LinkRec) :
    r.moveFlags = (if r.retunedOnAir then 1#16 else 0#16) + (if r.mutePending then 2#16 else 0#16) := by
  unfold LinkRec.moveFlags resultBool
  cases r.mutePending <;> rfl

/-- Settles O42: each phase by what it does at the end of its transaction, the end of a move block by block, and the rescues it serves. -/
theorem movesFollowTheirTransactionsToTheirEnd : Obligations.MovesFollowTheirTransactionsToTheirEnd := by
  refine ⟨?_, ?_, ?_⟩
  · intro s c cmd ok cause hc x r target origin confirm ended rewritten relinked revert retuning
    refine ⟨fun hphase hok habort => ?_, fun hphase hok habort => ?_, fun hphase hok => ?_, fun hphase hok habort => ?_,
      fun hphase hok habort => ?_, State.ctxTxEnded_reverts, State.ctxTxEnded_query,
      fun hphase hcmd hok => ?_, fun hphase hok => ?_, fun hphase hok => ?_, fun hphase hcmd => ?_, fun hphase hcmd => ?_⟩
    · refine (State.ctxTxEnded_muting hphase).trans ((if_pos hok).trans ((if_neg (Bool.eq_false_iff.mp habort)).trans ?_))
      exact s.enterTuneFar_eq c hc
    · exact (State.ctxTxEnded_muting hphase).trans ((if_pos hok).trans (if_pos habort))
    · exact (State.ctxTxEnded_muting hphase).trans (if_neg (Bool.eq_false_iff.mp hok))
    · exact (State.ctxTxEnded_tuneFar hphase).trans (if_pos ⟨hok, congrArg not habort⟩)
    · exact (State.ctxTxEnded_tuneLocal hphase).trans (if_pos ⟨hok, congrArg not habort⟩)
    · exact (State.ctxTxEnded_revertFar hphase).trans ((if_neg hcmd).trans (if_pos hok))
    · exact (State.ctxTxEnded_revertLocal hphase).trans (if_pos hok)
    · have hfailed := Bool.eq_false_iff.mp hok
      refine Eq.trans ?_ (s.goAdrift_eq c cause)
      obtain ⟨hphase, hcmd⟩ | hphase := hphase
      · exact (State.ctxTxEnded_revertFar hphase).trans ((if_neg hcmd).trans (if_neg hfailed))
      · exact (State.ctxTxEnded_revertLocal hphase).trans (if_neg hfailed)
    · exact (State.ctxTxEnded_unmuting hphase).trans (if_neg hcmd)
    · obtain hphase | hphase := hphase
      · exact (State.ctxTxEnded_revertFar hphase).trans (if_pos hcmd)
      · exact (State.ctxTxEnded_unmuting hphase).trans (if_pos hcmd)
  · intro s c o cause hc ho htables hstands x l r retunes state noTimers hold hl halone htarget horigin competes
    have hbody : s.board.body.wf = true := htables.1
    have hretunes (p : Phase) : p.retuning = retunes p := p.retuning_eq
    have hstate : (r.moveEnded x o).state = state := by
      simp only [LinkRec.moveEnded, hretunes, state]
    have hrecordState : (s.movedRecord c o).state = state := (s.movedRecord_state c o).trans hstate
    have hstops : (r.moveEnded x o).state.stopsTimers = noTimers := by rw [LinkState.stopsTimers_eq, hstate]
    have hhold : s.retuningBeside c = hold := by simp only [State.retuningBeside, hretunes, hold]
    have hover := State.moveOver_ends hc hl o cause fun _ => halone
    have hends := s.endMove_eq c o cause
    have hcompetes : (s.moveOver c o cause).moveLinkPosted = true ↔ competes := hover.moveLinkPosted_iff
    generalize s.moveOver c o cause = u at hover hends hcompetes
    obtain ⟨hprobe, hbus⟩ := hover.hold hstands
    obtain ⟨hlines, htally, href, hpending⟩ := hover.rest
    have hentry := hover.entry
    have hplan := hover.plan
    refine ⟨u, fun h => hends.trans (if_pos (hcompetes.mpr h)), fun h => hends.trans (if_neg (mt hcompetes.mp h)),
      hover.serveRescues_none hl, fun t ht hok => ?_, fun t ht hok hadrift => ?_, fun hkeeps => ?_, ?_, fun m _ hm => hover.link_ne hm,
      by rw [hover.links], by rw [hover.links], hover.ctx_same hc, fun d _ hd => hover.ctx_ne hd, by rw [hover.moves], ?_, hbus,
      fun hsame => hover.quiet (hrecordState.trans hsame), fun hchanged => hover.told (hrecordState ▸ hchanged),
      hover.unanswered, fun m hslot hm => ?_, hover.link_noted, htally, hlines, href, hpending⟩
    · subst hok
      obtain ⟨ht48, hne⟩ := htarget t ht
      have ho48 := horigin (by rw [ht]; exact Option.some_ne_none t)
      rw [State.endEntries_adopts ht] at hentry hplan
      refine ⟨?_, ?_, fun e _ het heo => ?_, ?_⟩
      · rw [hentry, s.adopt_entry_target ht48 hne]
      · rw [hentry, s.adopt_entry_origin ho48 hne]
      · rw [hentry, s.adopt_entry_ne het.symm heo.symm]
      · rw [hplan]
        exact s.adopt_plan _ _
    · rw [State.endEntries_frees ht hok hadrift] at hentry hplan
      refine ⟨?_, fun e _ het => ?_, ?_⟩
      · rw [hentry, s.freeEntry_entry_same (htarget t ht).1]
      · rw [hentry, s.freeEntry_entry_ne het.symm]
      · rw [hplan]
        rfl
    · rw [hplan, State.endEntries_keeps hkeeps]
    · rw [hover.link_same hl, State.movedRecord_rescueStarted]
      rw [show ((s.link (s.ctx c).link).moveEnded (s.ctx c) o).state.stopsTimers = noTimers from hstops,
        show ((s.link (s.ctx c).link).moveEnded (s.ctx c) o).state = state from hstate]
      rfl
    · rw [hprobe, hhold]
      refine if_congr Iff.rfl rfl (if_congr Iff.rfl ?_ rfl)
      split
      · next hphase => exact Probe.beginPhase_reference (p := { s.probe with autoHold := false }) hphase
      · next hphase => exact Probe.beginPhase_sample (p := { s.probe with autoHold := false }) hphase
    · intro code word reason
      have hword (v : Option Nat) : resultOpt v = word v := by cases v <;> rfl
      obtain ⟨hresult, hentryWord, hcodeWord, hexamined, hreasonWord, hcause, hflags⟩ := hover.results hslot hbody
      have hcode : o.result x.clamped = code := by cases o <;> rfl
      have hreason : x.checkReason.map Reason.ctorIdx = reason := by
        simp only [Ctx.checkReason, reason]
        cases x.target with
        | auto => rfl
        | code => exact apply_ite (Option.map Reason.ctorIdx) _ _ _
      exact ⟨hover.slot_done hslot hm, fun k _ hk => hover.slot_ne fun h => hk (Option.some.inj (h.symm.trans hslot)),
        hcode ▸ hresult, hentryWord.trans (hword _), hcodeWord.trans (hword _), hexamined, hreason ▸ hreasonWord.trans (hword _), hcause,
        hflags.trans r.moveFlags_eq⟩
  · intro s
    exact ⟨State.serveRescues_full, fun l hl hwaits hothers hfree =>
      State.serveRescues_single hl hwaits hothers (s.freeCtx_isSome_iff.mpr hfree)⟩

end Sys2Proof.Machine
end

section
/-! SUPPORT and the proof on GO_MOVE and the hold timer (R98 to R102, R109). -/

namespace Sys2Proof.Machine

/-! ## What a move that leaves HELD touches (R98, R101, R102) -/

/-- The state u differs from s in no more than the links, the moves, the bus, the probe, the studio's blocks and the events noted. -/
def State.MovesOnly (s u : State) : Prop := ∃ es bus probe links moves talk matrix lamps, u =
  { s with board := s.board.note es, bus, probe, links, moves, talk, matrix, lamps }

namespace State.MovesOnly

theorem refl (s : State) : s.MovesOnly s := ⟨[], _, _, _, _, _, _, _, rfl⟩

theorem trans {s t u : State} (h : s.MovesOnly t) (h' : t.MovesOnly u) : s.MovesOnly u := by
  obtain ⟨es, _, _, _, _, _, _, _, rfl⟩ := h
  obtain ⟨fs, _, _, _, _, _, _, _, rfl⟩ := h'
  exact ⟨es ++ fs, _, _, _, _, _, _, _, by rw [Board.note_note]⟩

theorem linkCore (s : State) (l : Nat) (f : LinkRec → LinkRec) : s.MovesOnly (s.linkCore l f) := by
  obtain ⟨es, _, _, _, h⟩ := s.linkCore_blocks l f
  exact ⟨.link :: es, _, _, _, _, _, _, _, h⟩

theorem updateAutoHold (s : State) : s.MovesOnly s.updateAutoHold := by
  obtain ⟨es, _, _, h⟩ := s.updateAutoHold_blocks
  exact ⟨es, _, _, _, _, _, _, _, h⟩

theorem rewriteCtx (s : State) (c : Nat) (f : Ctx → Ctx) : s.MovesOnly (s.rewriteCtx c f) := ⟨[.link], _, _, _, _, _, _, _, rfl⟩

theorem setRetuned (s : State) (l : Nat) : s.MovesOnly (s.setRetuned l) := by
  unfold State.setRetuned
  split
  · exact refl s
  · exact ⟨[.link], _, _, _, _, _, _, _, rfl⟩

theorem enterTuneFar (s : State) (c : Nat) : s.MovesOnly (s.enterTuneFar c) := by
  unfold State.enterTuneFar
  dsimp only
  split
  · exact (rewriteCtx s c _).trans (setRetuned _ _)
  · exact rewriteCtx s c _

theorem leaveHeld (s : State) (c : Nat) : s.MovesOnly (s.leaveHeld c) := by
  by_cases hkind : (s.link (s.ctx c).link).kind = .camera
  · rw [State.leaveHeld_camera hkind]
    have htouched (t : State) : t.MovesOnly (t.touchCtx c fun x => { x with holdTimer := none }) := ⟨[], _, _, _, _, _, _, _, rfl⟩
    exact (((linkCore s _ _).trans (htouched _)).trans (enterTuneFar _ c)).trans (updateAutoHold _)
  · rw [State.leaveHeld_other hkind]
    have hdropped (l : Nat) : s.MovesOnly (s.dropUnmute l) := ⟨[], _, _, _, _, _, _, _, rfl⟩
    exact (((hdropped _).trans (linkCore _ _ _)).trans (rewriteCtx _ c _)).trans (updateAutoHold _)

end State.MovesOnly

section Flags

variable {s : State} {c : Nat}

/-- A MIC or IEM link that begins to move has its flags cleared (R101). -/
theorem State.leaveHeld_flags (hl : (s.ctx c).link < 32) (hkind : (s.link (s.ctx c).link).kind ≠ .camera) :
    ((s.leaveHeld c).link (s.ctx c).link).mutePending = false ∧ ((s.leaveHeld c).link (s.ctx c).link).retunedOnAir = false := by
  rw [State.leaveHeld_other hkind, State.link, State.updateAutoHold_links]
  show (State.link ((s.dropUnmute _).linkCore _ _) _).mutePending = false ∧ (State.link ((s.dropUnmute _).linkCore _ _) _).retunedOnAir = false
  rw [State.linkCore_link_same _ hl, LinkRec.trimTimers_eq]
  exact ⟨rfl, rfl⟩

/-- A CAMERA link that begins to move records a retune on air exactly at PROGRAM (R102, R110). -/
theorem State.leaveHeld_retunedOnAir (hc : c < 4) (hl : (s.ctx c).link < 32) (hkind : (s.link (s.ctx c).link).kind = .camera) :
    ((s.leaveHeld c).link (s.ctx c).link).retunedOnAir = true ↔ (s.link (s.ctx c).link).applied = .program := by
  rw [State.leaveHeld_camera hkind, State.link, State.updateAutoHold_links]
  set l := (s.ctx c).link with hlink
  set t := (s.linkCore l fun r => { r with state := .moving, retunedOnAir := false }).touchCtx c fun x => { x with holdTimer := none } with ht
  have hctx : (t.ctx c).link = l := by
    have hmoves := (State.linkCore_links_moves (s := s) (l := l) fun r => { r with state := .moving, retunedOnAir := false }).2
    rw [State.ctx, ht, State.touchCtx, hmoves]
    exact look_adjust_field Ctx.link _ _ _ fun _ => rfl
  have hrecord : t.link l = _ := State.linkCore_link_same (fun r => { r with state := .moving, retunedOnAir := false }) hl
  rw [LinkRec.trimTimers_eq] at hrecord
  have hair : (t.link l).retunedOnAir = false := (congrArg LinkRec.retunedOnAir hrecord).trans rfl
  have happlied : (t.link l).applied = (s.link l).applied := (congrArg LinkRec.applied hrecord).trans rfl
  show ((t.enterTuneFar c).link l).retunedOnAir = true ↔ _
  rw [State.enterTuneFar_eq t c hc, hctx, hair, happlied]
  by_cases hprogram : (s.link l).applied = .program
  · rw [if_pos ⟨hprogram, rfl⟩]
    refine iff_of_true ?_ hprogram
    exact congrArg LinkRec.retunedOnAir (look_put_same t.links.recs l _ hl)
  · rw [if_neg fun h => hprogram h.1]
    refine iff_of_false ?_ hprogram
    exact Bool.eq_false_iff.mp hair

end Flags

/-- A context outside the retuning phases holds nothing (R52). -/
theorem State.retuningBeside_of_still {s : State} {c : Nat} (h : (s.ctx c).phase.retuning = false) : s.retuningBeside c = s.retuning := by
  have hphase (d : Nat) : (decide (d ≠ c) && (s.ctx d).phase.retuning) = (s.ctx d).phase.retuning := by
    by_cases hd : d = c
    · rw [hd, h, Bool.and_false]
    · rw [decide_eq_true hd, Bool.true_and]
  simp only [State.retuningBeside, State.retuning, hphase]

/-! ## GO_MOVE (R100) -/

section Go

variable {s : State} {n : Nat}

theorem State.ctxOf_lt {l c : Nat} (h : s.ctxOf l = some c) : c < 4 := (head?_placesWhere_eq_some_iff.mp h).1

theorem State.doGoMove_badField (h : 31 < s.param n 4) : (s.dropAttention.setSlot n .taken).doGoMove n = s.answered n .badField [] := by
  rw [State.doGoMove, State.taken_param]
  exact (if_pos h).trans (State.complete_taken _ _ _ _)

theorem State.doGoMove_notFound (h : s.param n 4 ≤ 31) (hnone : ∀ c < 4, (s.ctx c).phase = .held → (s.ctx c).link ≠ s.param n 4) :
    (s.dropAttention.setSlot n .taken).doGoMove n = s.answered n .notFound [] := by
  rw [State.doGoMove, State.taken_param, if_neg (Nat.not_lt.mpr h), State.taken_ctxOf, State.complete_taken]
  cases hctx : s.ctxOf (s.param n 4) with
  | none => rfl
  | some c => exact if_neg fun hheld => hnone c (s.ctxOf_lt hctx) hheld (State.ctx_link_of_ctxOf hctx)

theorem State.doGoMove_held {c : Nat} (h : s.param n 4 ≤ 31) (hctx : s.ctxOf (s.param n 4) = some c) (hheld : (s.ctx c).phase = .held) :
    (s.dropAttention.setSlot n .taken).doGoMove n = ((s.dropAttention.setSlot n .taken).goReceived c).complete n .ok := by
  rw [State.doGoMove, State.taken_param, if_neg (Nat.not_lt.mpr h), State.taken_ctxOf, hctx]
  exact if_pos hheld

end Go

/-- The state with GO received in context c (R100). -/
def State.goSet (s : State) (c : Nat) : State := if (s.ctx c).go then s else s.withContext c { s.ctx c with go := true }

section GoSet

variable (s : State) {c : Nat}

theorem State.goSet_taken (n : Nat) :
    (s.dropAttention.setSlot n .taken).goReceived c = ((s.goSet c).dropAttention.setSlot n .taken).heldTest c := by
  rw [State.goReceived, State.goSet]
  have hgo : ((s.dropAttention.setSlot n .taken).ctx c).go = (s.ctx c).go := rfl
  rw [hgo]
  split <;> rfl

theorem State.goSet_blocks (c : Nat) : ∃ es moves, s.goSet c = { s with board := s.board.note es, moves } := by
  rw [State.goSet]
  split
  · exact ⟨[], s.moves, rfl⟩
  · exact ⟨[.link], _, rfl⟩

theorem State.goSet_ctx_same (hc : c < 4) : ∃ edition, (s.goSet c).ctx c = { s.ctx c with go := true, edition } := by
  rw [State.goSet]
  split
  · next hgo => exact ⟨(s.ctx c).edition, by rw [← hgo]⟩
  · exact ⟨_, look_put_same _ _ _ hc⟩

theorem State.goSet_ctx_ne {d : Nat} (hd : d ≠ c) : (s.goSet c).ctx d = s.ctx d := by
  rw [State.goSet]
  split
  · rfl
  · exact look_put_ne _ _ _ _ hd.symm

end GoSet

/-- Settles O39: GO_MOVE by the conditions of R98 with GO received, and the end of a held move. -/
theorem heldMovesGoOrRunOut : Obligations.HeldMovesGoOrRunOut := by
  refine ⟨?_, ?_⟩
  · intro n s hn ht l r refuse
    have hexec {u : State} (h : (s.dropAttention.setSlot n .taken).doGoMove n = u) : exec (.goMove n) s = .next u.settle := by
      subst h
      exact State.request_taken s n 19 _ hn ht
    refine ⟨fun hfield => hexec (State.doGoMove_badField hfield), fun hl hnone => hexec (State.doGoMove_notFound hl hnone),
      fun c hl hctx hheld => ?_⟩
    intro x may
    have hc : c < 4 := State.ctxOf_lt hctx
    have hlt : l < 32 := Nat.lt_succ_of_le hl
    set gone := (s.goSet c).dropAttention.setSlot n .taken with hgone
    have hgoes : exec (.goMove n) s = .next ((gone.heldTest c).complete n .ok).settle :=
      hexec ((State.doGoMove_held hl hctx hheld).trans (by rw [s.goSet_taken n]))
    obtain ⟨es, moves, hset⟩ := s.goSet_blocks c
    obtain ⟨edition, hown⟩ := s.goSet_ctx_same hc
    have hx : gone.ctx c = { x with go := true, edition } := hown
    have hlink : (gone.ctx c).link = l := (congrArg Ctx.link hx).trans (State.ctx_link_of_ctxOf hctx)
    have hrecord (m : Nat) : gone.link m = s.link m := by
      rw [hgone, hset]
      rfl
    have hmay : gone.releasable c = true ↔ may := by
      rw [State.releasable_iff, hlink, hrecord, hx]
      exact ⟨fun ⟨_, htally, hstate, _⟩ => ⟨htally, hstate⟩, fun ⟨htally, hstate⟩ => ⟨hheld, htally, hstate, fun _ => rfl⟩⟩
    have hstays (h : ¬may) : exec (.goMove n) s = .next ((s.goSet c).answered n .ok []).settle :=
      hgoes.trans (by rw [State.heldTest, if_neg (mt hmay.mp h), State.complete_taken])
    refine ⟨fun hgo h => ?_, fun hgo h => ?_, fun h => ?_⟩
    · rw [hstays h, State.goSet, if_pos hgo]
    · rw [hstays h, State.goSet, if_neg (Bool.eq_false_iff.mp hgo)]
      rfl
    · obtain ⟨p, o, hleft, hother, hcamera⟩ := gone.leaveHeld_leftHeld hc (hlink ▸ hlt)
      obtain ⟨hweak, hloss, hrescue⟩ := gone.leaveHeld_untimed (hlink ▸ hlt)
      have hflags := gone.leaveHeld_flags (c := c) (hlink ▸ hlt)
      have hretuned := gone.leaveHeld_retunedOnAir hc (hlink ▸ hlt)
      obtain ⟨fs, bus, probe, links, moves', talk, matrix, lamps, hblocks⟩ := State.MovesOnly.leaveHeld gone c
      obtain ⟨board, hcomplete, hdone, -, hresult⟩ := (gone.leaveHeld c).complete_ok hn
      have hleaves : (gone.heldTest c).complete n .ok = { gone.leaveHeld c with board } := by
        rw [State.heldTest, if_pos (hmay.mpr h), hcomplete]
      have hrest : (gone.leaveHeld c).plan = s.plan ∧ (gone.leaveHeld c).lines = s.lines ∧ (gone.leaveHeld c).tally = s.tally ∧
          (gone.leaveHeld c).ref = s.ref ∧ (gone.leaveHeld c).board.body = s.board.body := by
        rw [hblocks, hgone, hset]
        exact ⟨rfl, rfl, rfl, rfl, rfl⟩
      obtain ⟨hplan, hlines, htally, href, hbody⟩ := hrest
      have hkind : (gone.link l).kind = r.kind := congrArg LinkRec.kind (hrecord l)
      have hchannel : (gone.link l).channel = r.channel := congrArg LinkRec.channel (hrecord l)
      have happlied : (gone.link l).applied = r.applied := congrArg LinkRec.applied (hrecord l)
      have hcode : (gone.ctx c).targetCodeD = x.targetCode.getD 0 := by
        rw [hx]
        rfl
      rw [hlink] at hleft hother hcamera hweak hloss hrescue hflags hretuned
      rw [hkind] at hother hcamera hflags hretuned
      rw [hchannel] at hother hcamera
      rw [hcode] at hcamera
      rw [happlied] at hretuned
      have hctx' := hleft.ctx
      rw [hx] at hctx'
      rw [hgoes, hleaves]
      generalize gone.leaveHeld c = u at *
      refine ⟨{ u with board }, rfl, hdone, fun htables => hresult (hbody ▸ htables.1), hleft.hold, hleft.state, hweak, hloss, hrescue,
        congrArg Ctx.go hctx', congrArg Ctx.holdTimer hctx', fun h => ?_, fun h => ?_, fun m _ hm => ?_, fun d _ hd => ?_,
        hplan, hlines, htally, href⟩
      · obtain ⟨rfl, rfl⟩ := hother h
        exact ⟨congrArg Ctx.phase hctx', congrArg Ctx.offer hctx', hflags h⟩
      · obtain ⟨rfl, rfl⟩ := hcamera h
        exact ⟨congrArg Ctx.phase hctx', congrArg Ctx.offer hctx', hretuned h⟩
      · exact (hleft.links m hm.symm).trans (hrecord m)
      · exact (hleft.ctxs d hd.symm).trans (s.goSet_ctx_ne hd)
  · intro s c t tm hc hready hrun hdue hheld ht ht48 hslots hl halone hwaits htables hstands x r quiet
    have hbody : s.board.body.wf = true := htables.1
    have hover := State.moveOver_ends hc hl .holdTimeout .none fun _ => halone
    have hends := State.endMove_unwaited hover hl hwaits
    have hstill : x.phase.retuning = false := congrArg Phase.retuning hheld
    have hstate : (r.moveEnded x .holdTimeout).state = r.state := by
      simp only [LinkRec.moveEnded, hstill, Bool.false_eq_true, if_false, reduceCtorEq]
    have hstops : r.state.stopsTimers = quiet := by cases hr : r.state <;> simp [quiet, hr, LinkState.stopsTimers]
    have hbeside : s.probe.autoHold = s.retuningBeside c := hstands.symm.trans (State.retuningBeside_of_still hstill).symm
    generalize s.moveOver c .holdTimeout .none = u at hover hends
    obtain ⟨hprobe, -⟩ := hover.hold hstands
    obtain ⟨htalk, hmatrix, hlamps⟩ := hover.quiet ((s.movedRecord_state c .holdTimeout).trans hstate)
    obtain ⟨hlines, htally, href, -⟩ := hover.rest
    have hentry := hover.entry
    have hplan := hover.plan
    have hfrees : s.endEntries (s.ctx c) .holdTimeout = s.freeEntry t := State.endEntries_frees ht (by decide) (by decide)
    rw [hfrees] at hentry hplan
    refine ⟨u, ?_, ?_, fun e _ het => ?_, ?_, ?_, ?_, ?_, fun m _ hm => hover.link_ne hm, hover.ctx_same hc, fun d _ hd => hover.ctx_ne hd,
      hprobe.trans (if_pos hbeside), fun m hslot => ?_,
      fun m _ hm => ⟨hover.slot_ne hm, fun k hk => hover.word_ne hk (.inl hm)⟩, htalk, hlamps, hmatrix, hlines, href, htally⟩
    · rw [exec_holdTimerExpiry hc hready hrun hdue, hends]
    · rw [hentry, s.freeEntry_entry_same ht48]
    · rw [hentry, s.freeEntry_entry_ne het.symm]
    · rw [hplan, s.freeEntry_edition]
    · rw [hplan, s.freeEntry_refreshPending]
    · rw [hplan]
      rfl
    · rw [hover.link_same hl, State.movedRecord_rescueStarted,
        show ((s.link (s.ctx c).link).moveEnded (s.ctx c) .holdTimeout).state = r.state from hstate, hstops, ite_not]
      have hkept : r.moveEnded x .holdTimeout = { r with outcome := .holdTimeout, moveOrigin := some x.origin, targetEntry := none } := by
        rw [← hstate]
        rfl
      rw [show (s.link (s.ctx c).link).moveEnded (s.ctx c) .holdTimeout = _ from hkept]
    · obtain ⟨hresult, hentryWord, -, hexamined, -⟩ := hover.results hslot hbody
      exact ⟨hover.slot_done hslot (hslots m hslot), hresult, hentryWord.trans (congrArg resultOpt ht), hexamined, hover.board_noted hslot⟩

end Sys2Proof.Machine
end

section
/-! SUPPORT on keys that deactivate together (R124, R160, R165 to R168): tables changed place by place, the editions of a talk event, and the release notice. -/

namespace Sys2Proof.Machine

/-! ## Tables changed at some of their places -/

/-- A table whose records at the places of a list, each named once, are changed one after another. -/
theorem look_foldl_adjust {α : Type} {n : Nat} [Inhabited α] (f : Nat → α → α) {ls : List Nat} (hnodup : ls.Nodup) (v : Vector α n) {i : Nat}
    (hi : i < n) : look (ls.foldl (fun v j => adjust v j (f j)) v) i = if i ∈ ls then f i (look v i) else look v i := by
  induction ls generalizing v with
  | nil => rfl
  | cons j ls ih =>
    obtain ⟨hj, hls⟩ := List.nodup_cons.mp hnodup
    rw [List.foldl_cons, ih hls]
    by_cases hij : j = i
    · subst hij
      rw [if_neg hj, if_pos List.mem_cons_self, look_adjust_same _ _ _ hi]
    · rw [look_adjust_ne _ _ _ _ hij]
      simp only [List.mem_cons, Ne.symm hij, false_or]

/-! ## The editions of a talk event (R154, R162) -/

/-- The destinations whose talkback part differs between two talkback records, rising (R162). -/
def Talk.changedDests (a b : Talk) : List Nat := placesWhere 32 fun l => (look a.dests l).talkChanged (look b.dests l)

/-- The keys whose published record differs between two talkback records, rising (R154). -/
def Talk.changedKeys (a b : Talk) : List Nat := placesWhere 192 fun p => decide ((look a.keys p).published ≠ (look b.keys p).published)

/-- A destination record whose edition has been counted on. -/
def Dest.counted (d : Dest) : Dest := { d with edition := d.edition + 1 }

section Editions

variable (s t : State)

theorem State.foldl_setDest (f : Nat → Dest → Dest) (ls : List Nat) : ls.foldl (fun t l => t.setDest l (f l)) t =
    { t with talk := { t.talk with dests := ls.foldl (fun v l => adjust v l (f l)) t.talk.dests } } := by
  induction ls generalizing t with
  | nil => rfl
  | cons l ls ih => rw [List.foldl_cons, ih]; rfl

theorem State.talkRewrites_talk (k : Nat) : (t.talkRewrites k).talk = { t.talk with edition := t.talk.edition + BitVec.ofNat 16 k } := by
  unfold State.talkRewrites
  split
  · next h =>
    subst h
    exact congrArg (fun edition => { t.talk with edition }) (BitVec.add_zero _).symm
  · rfl

/-- Talkback after a talk event is counted: each changed destination's edition once, the region edition once for each changed record. -/
theorem State.countTalk_talk : (s.countTalk t).talk = { t.talk with
    dests := (s.talk.changedDests t.talk).foldl (fun v l => adjust v l Dest.counted) t.talk.dests
    edition := t.talk.edition + BitVec.ofNat 16 ((s.talk.changedDests t.talk).length + (s.talk.changedKeys t.talk).length) } := by
  refine (State.talkRewrites_talk _ _).trans ?_
  have hcounted := t.foldl_setDest (fun _ => Dest.counted) (s.talk.changedDests t.talk)
  exact congrArg (fun u : State => { u.talk with
    edition := u.talk.edition + BitVec.ofNat 16 ((s.talk.changedDests t.talk).length + (s.talk.changedKeys t.talk).length) }) hcounted

theorem State.countTalk_key (p : Nat) : (s.countTalk t).key p = t.key p := by
  rw [State.key, State.countTalk_talk, State.key]

theorem State.countTalk_dest {l : Nat} (hl : l < 32) :
    (s.countTalk t).dest l = if (s.dest l).talkChanged (t.dest l) then (t.dest l).counted else t.dest l := by
  rw [State.dest, State.countTalk_talk]
  refine (look_foldl_adjust _ (List.nodup_range.filter _) _ hl).trans ?_
  refine if_congr ?_ rfl rfl
  exact List.mem_filter.trans (and_iff_right (List.mem_range.mpr hl))

/-- A key's state at a destination goes by the destination's slots and wait list (R168). -/
theorem State.keyStateAt_congr {l : Nat} (hslots : (t.dest l).slots = (s.dest l).slots) (hwaiters : (t.dest l).waiters = (s.dest l).waiters)
    (st k : Nat) (key : Key) : t.keyStateAt st k key l = s.keyStateAt st k key l := by
  simp only [State.keyStateAt, Dest.slotOf, Dest.slot, hslots, hwaiters]

end Editions

/-! ## Settling a destination leaves the keys aside (R165, R167) -/

/-- The state with other key records. -/
def State.withKeys (s : State) (keys : Vector Key 192) : State := { s with talk := { s.talk with keys } }

section Keys

variable (s : State) (keys : Vector Key 192) (l : Nat)

theorem State.writePoint_withKeys (p v : Nat) : (s.withKeys keys).writePoint p v = (s.writePoint p v).withKeys keys := by
  have hbranch (c : Prop) [Decidable c] (t u : State) : (if c then t else u).withKeys keys = if c then t.withKeys keys else u.withKeys keys :=
    apply_ite (fun t : State => t.withKeys keys) c t u
  dsimp only [State.writePoint]
  rw [hbranch, hbranch]
  rfl

theorem State.writeTalkPoints_withKeys : (s.withKeys keys).writeTalkPoints l = (s.writeTalkPoints l).withKeys keys := by
  have hpoints (o : Nat) (sts : List Nat) (t : State) :
      sts.foldl (fun s st => s.writePoint (pointOf o st) ((s.dest l).stationValue st)) (t.withKeys keys) =
        (sts.foldl (fun s st => s.writePoint (pointOf o st) ((s.dest l).stationValue st)) t).withKeys keys := by
    induction sts generalizing t with
    | nil => rfl
    | cons st sts ih => rw [List.foldl_cons, List.foldl_cons, State.writePoint_withKeys, ih]; rfl
  unfold State.writeTalkPoints
  show (match (s.link l).output with
    | none => s.withKeys keys
    | some o => forPlaces 16 (fun st s => s.writePoint (pointOf o st) ((s.dest l).stationValue st)) (s.withKeys keys)) = _
  cases (s.link l).output with
  | none => rfl
  | some o => exact hpoints o _ s

theorem State.duckNotice_withKeys (talking : Bool) : (s.withKeys keys).duckNotice l talking = (s.duckNotice l talking).withKeys keys := by
  by_cases hsame : (s.dest l).talking = talking
  · rw [State.duckNotice, State.duckNotice, if_pos hsame]
    exact if_pos hsame
  · rw [State.duckNotice, State.duckNotice, if_neg hsame]
    exact if_neg hsame

theorem State.settleDest_withKeys : (s.withKeys keys).settleDest l = (s.settleDest l).withKeys keys := by
  by_cases hiem : (s.link l).kind = .iem
  · rw [State.settleDest, State.settleDest, if_pos hiem, State.writeTalkPoints_withKeys]
    exact (if_pos hiem).trans (State.duckNotice_withKeys _ _ _ _)
  · rw [State.settleDest, State.settleDest, if_neg hiem, State.writeTalkPoints_withKeys]
    exact if_neg hiem

end Keys

/-! ## Keys that leave their destinations (R160, R165) -/

/-- The state u differs from s, in talkback, in no more than destination records, their editions kept. -/
structure State.DestsOnly (s u : State) : Prop where
  region : u.talk.edition = s.talk.edition
  settings : u.talk.stations = s.talk.stations ∧ u.talk.latchWindow = s.talk.latchWindow ∧ u.talk.activations = s.talk.activations
  editions : ∀ l, (u.dest l).edition = (s.dest l).edition

namespace State.DestsOnly

variable {s t u : State}

/-- Talkback's own region is as it was. -/
theorem of_talk (h : u.talk = s.talk) : s.DestsOnly u :=
  ⟨congrArg Talk.edition h, ⟨congrArg Talk.stations h, congrArg Talk.latchWindow h, congrArg Talk.activations h⟩,
    fun l => congrArg (fun talk : Talk => (look talk.dests l).edition) h⟩

theorem trans (h : s.DestsOnly t) (h' : t.DestsOnly u) : s.DestsOnly u :=
  ⟨h'.region.trans h.region,
    ⟨h'.settings.1.trans h.settings.1, h'.settings.2.1.trans h.settings.2.1, h'.settings.2.2.trans h.settings.2.2⟩,
    fun l => (h'.editions l).trans (h.editions l)⟩

theorem foldl {α : Type} {f : State → α → State} (hf : ∀ (s : State) (a : α), s.DestsOnly (f s a)) (l : List α) (s : State) : s.DestsOnly (l.foldl f s) :=
  List.foldlRecOn l f (motive := s.DestsOnly) (of_talk rfl) fun t ht a _ => ht.trans (hf t a)

theorem setDest (s : State) (l : Nat) {f : Dest → Dest} (hf : ∀ d, (f d).edition = d.edition) : s.DestsOnly (s.setDest l f) :=
  ⟨rfl, ⟨rfl, rfl, rfl⟩, fun m => look_adjust_field Dest.edition _ l m hf⟩

theorem duckNotice (s : State) (l : Nat) (talking : Bool) : s.DestsOnly (s.duckNotice l talking) := by
  unfold State.duckNotice
  split
  · exact of_talk rfl
  · exact (setDest s l (f := fun d => { d with talking }) fun _ => rfl).trans (setDest _ l fun _ => rfl)

theorem settleDest (s : State) (l : Nat) : s.DestsOnly (s.settleDest l) := by
  have hpoints : s.DestsOnly (s.writeTalkPoints l) := of_talk (s.writeTalkPoints_talk l)
  unfold State.settleDest
  split
  · exact hpoints.trans (duckNotice _ l _)
  · exact hpoints

end State.DestsOnly

theorem Dest.leave_edition (d : Dest) (st k : Nat) (talking : Bool) : (d.leave st k talking).edition = d.edition := by
  unfold Dest.leave
  split
  · rfl
  · split <;> rfl

/-- Key p leaves link l's destination, which is settled (R165). The link of s says whether who follows in the slot talks. -/
def State.leaveDest (s : State) (p : Nat) (t : State) (l : Nat) : State :=
  (t.setDest l fun d => d.leave (p / 12) (p % 12) (s.link l).carriesTalk).settleDest l

/-- Key p of s leaves the destinations of its set, one after another (R165). -/
def State.keyLeaves (s t : State) (p : Nat) : State := (s.key p).dests.foldl (s.leaveDest p) t

theorem State.keysLeave_eq (s : State) (ps : List Nat) : s.keysLeave ps = ps.foldl s.keyLeaves s := rfl

section Leave

variable {s t : State} {keys : Vector Key 192}

theorem State.leaveDest_destsOnly (s : State) (p : Nat) (t : State) (l : Nat) : t.DestsOnly (s.leaveDest p t l) :=
  (State.DestsOnly.setDest t l fun d => d.leave_edition _ _ _).trans (.settleDest _ l)

theorem State.leaveDest_links (s : State) (p : Nat) (t : State) (l : Nat) : (s.leaveDest p t l).links = t.links :=
  ((t.setDest_studioOnly l _).trans (settleDest_studioOnly _ l)).links

theorem State.keyLeaves_links (s t : State) (p : Nat) : (s.keyLeaves t p).links = t.links :=
  List.foldlRecOn _ _ (motive := fun u : State => u.links = t.links) rfl fun u hu l _ => (s.leaveDest_links p u l).trans hu

theorem State.keysLeave_destsOnly (s : State) (ps : List Nat) : s.DestsOnly (s.keysLeave ps) :=
  .foldl (fun t p => .foldl (s.leaveDest_destsOnly p) _ t) ps s

theorem keyPlace_div_mod (p : Nat) : keyPlace (p / 12) (p % 12) = p := Nat.div_add_mod p 12

/-- A deactivation, its destinations and its key record told apart (R165). -/
theorem State.deactivate_withKeys {p : Nat} (hlinks : t.links = s.links) (hkey : look keys p = s.key p) :
    (t.withKeys keys).deactivate (p / 12) (p % 12) = (s.keyLeaves t p).withKeys (adjust keys p Key.silent) := by
  have hleave (ls : List Nat) (t : State) (hlinks : t.links = s.links) :
      ls.foldl (fun s l => (s.setDest l fun d => d.leave (p / 12) (p % 12) (s.link l).carriesTalk).settleDest l) (t.withKeys keys) =
        (ls.foldl (s.leaveDest p) t).withKeys keys := by
    induction ls generalizing t with
    | nil => rfl
    | cons l ls ih =>
      have hstep : ((t.withKeys keys).setDest l fun d => d.leave (p / 12) (p % 12) ((t.withKeys keys).link l).carriesTalk).settleDest l =
          (s.leaveDest p t l).withKeys keys := by
        rw [State.leaveDest, ← State.settleDest_withKeys, State.link, State.link, ← hlinks]
        rfl
      rw [List.foldl_cons, hstep, ih _ ((s.leaveDest_links p t l).trans hlinks), List.foldl_cons]
  have hdests : ((t.withKeys keys).key p).dests = (s.key p).dests := congrArg Key.dests hkey
  rw [State.deactivate, keyPlace_div_mod]
  show State.setKey (((t.withKeys keys).key p).dests.foldl _ _) p Key.silent = _
  rw [hdests, hleave _ t hlinks]
  rfl

/-- Deactivations one after another: the keys at the places leave their destinations, and their records fall silent (R160, R165). -/
theorem State.foldl_deactivate {ps : List Nat} (hnodup : ps.Nodup) (hlinks : t.links = s.links) (hkeys : ∀ p ∈ ps, look keys p = s.key p) :
    ps.foldl (fun s p => s.deactivate (p / 12) (p % 12)) (t.withKeys keys) =
      (ps.foldl s.keyLeaves t).withKeys (ps.foldl (fun v p => adjust v p Key.silent) keys) := by
  induction ps generalizing t keys with
  | nil => rfl
  | cons p ps ih =>
    obtain ⟨hp, hps⟩ := List.nodup_cons.mp hnodup
    rw [List.foldl_cons, State.deactivate_withKeys hlinks (hkeys p List.mem_cons_self), ih hps ((s.keyLeaves_links t p).trans hlinks)]
    · rfl
    · intro q hq
      rw [look_adjust_ne _ _ _ _ fun h : p = q => hp (h ▸ hq)]
      exact hkeys q (List.mem_cons_of_mem p hq)

end Leave

/-! ## Keys that deactivate together (R160, R165 to R168) -/

/-- A key's record in the recompute of all keys (R168). -/
theorem State.recomputeKeys_key (s : State) {p : Nat} (hp : p < 192) : s.recomputeKeys.key p =
    if (s.key p).activity = .idle then s.key p else (s.key p).summarised ((s.key p).dests.map (s.keyStateAt (p / 12) (p % 12) (s.key p))) := by
  refine (look_mapTable _ _ p hp).trans ?_
  by_cases hidle : (s.key p).activity = .idle
  · exact (if_neg fun hactive => of_decide_eq_true (p := (s.key p).activity ≠ .idle) hactive hidle).trans (if_pos hidle).symm
  · exact (if_pos (decide_eq_true hidle)).trans (if_neg hidle).symm

theorem Dest.talkChanged_eq_false_iff (d d' : Dest) : d.talkChanged d' = false ↔ d'.slots = d.slots ∧ d'.waiters = d.waiters := by
  rw [Dest.talkChanged, decide_eq_false_iff_not, not_or, not_not, not_not, eq_comm (a := d.slots), eq_comm (a := d.waiters)]

/-- The keys at places named once each deactivate, as one talk event (R160, R165 to R168). -/
theorem State.deactivateAll_deactivated (s : State) {ps : List Nat} (hnodup : ps.Nodup) : s.Deactivated (s.deactivateAll ps) ps := by
  have hdone : ps.foldl (fun s p => s.deactivate (p / 12) (p % 12)) s =
      (s.keysLeave ps).withKeys (ps.foldl (fun v p => adjust v p Key.silent) s.talk.keys) :=
    State.foldl_deactivate (t := s) (keys := s.talk.keys) hnodup rfl fun _ _ => rfl
  have hevent : s.deactivateAll ps = s.countTalk ((s.keysLeave ps).withKeys (ps.foldl (fun v p => adjust v p Key.silent) s.talk.keys)).recomputeKeys :=
    congrArg (fun t : State => s.countTalk t.recomputeKeys) hdone
  set t := (s.keysLeave ps).withKeys (ps.foldl (fun v p => adjust v p Key.silent) s.talk.keys)
  obtain ⟨hregion, hsettings, heditions⟩ := s.keysLeave_destsOnly ps
  have hkey (p : Nat) (hp : p < 192) : t.key p = if p ∈ ps then (s.key p).silent else s.key p := look_foldl_adjust _ hnodup _ hp
  have hstates (key : Key) (p l : Nat) : (s.deactivateAll ps).keyStateAt (p / 12) (p % 12) key l = t.keyStateAt (p / 12) (p % 12) key l := by
    obtain ⟨-, hslots, hwaiters⟩ := s.countTalk_keeps l t.recomputeKeys
    exact State.keyStateAt_congr t _ (by rw [hevent]; exact hslots) (by rw [hevent]; exact hwaiters) _ _ key
  have hdest (l : Nat) (hl : l < 32) : (s.deactivateAll ps).dest l =
      if (s.dest l).talkChanged ((s.keysLeave ps).dest l) then ((s.keysLeave ps).dest l).counted else (s.keysLeave ps).dest l := by
    rw [hevent]
    exact s.countTalk_dest t.recomputeKeys hl
  have hrecomputed (p : Nat) : (s.deactivateAll ps).key p = t.recomputeKeys.key p := by rw [hevent, State.countTalk_key]
  have hrewritten (l : Nat) (hl : l < 32) : ((s.deactivateAll ps).dest l).edition ≠ (s.dest l).edition ↔
      (s.dest l).talkChanged ((s.keysLeave ps).dest l) = true := by
    rw [hdest l hl]
    split
    · next hchanged =>
      simp only [Dest.counted, heditions l, hchanged, iff_true]
      bv_omega
    · next hsame => simp only [heditions l, ne_eq, not_true_eq_false, hsame, Bool.false_eq_true]
  constructor
  case silent =>
    intro p hp hmem
    rw [hrecomputed, State.recomputeKeys_key t hp, hkey p hp, if_pos hmem]
    rfl
  case kept =>
    intro p hp hmem
    rw [hrecomputed, State.recomputeKeys_key t hp, hkey p hp, if_neg hmem, funext (hstates (s.key p) p)]
  case dests =>
    intro l hl
    rw [hdest l hl]
    split
    · next hchanged =>
      rw [if_neg fun hsame => absurd ((Dest.talkChanged_eq_false_iff _ _).mpr hsame) (by rw [hchanged]; decide), ← heditions l]
      rfl
    · next hsame => rw [if_pos ((Dest.talkChanged_eq_false_iff _ _).mp (Bool.eq_false_iff.mpr hsame)), ← heditions l]
  case points =>
    rw [hevent]
    exact (s.countTalk_keeps 0 t.recomputeKeys).1
  case edition =>
    have hcounted : (s.deactivateAll ps).talk.edition = s.talk.edition +
        BitVec.ofNat 16 ((s.talk.changedDests t.recomputeKeys.talk).length + (s.talk.changedKeys t.recomputeKeys.talk).length) := by
      rw [hevent, State.countTalk_talk]
      exact congrArg (· + _) hregion
    have hdests : s.talk.changedDests t.recomputeKeys.talk =
        (List.range 32).filter fun l => decide (((s.deactivateAll ps).dest l).edition ≠ (s.dest l).edition) :=
      List.filter_congr fun l hl => Bool.eq_iff_iff.mpr ((hrewritten l (List.mem_range.mp hl)).symm.trans decide_eq_true_iff.symm)
    have hkeys : s.talk.changedKeys t.recomputeKeys.talk =
        (List.range 192).filter fun p => decide (((s.deactivateAll ps).key p).published ≠ (s.key p).published) :=
      List.filter_congr fun p _ => by
        rw [hrecomputed]
        exact decide_eq_decide.mpr ne_comm
    rw [hcounted, hdests, hkeys]
  case settings =>
    rw [hevent, State.countTalk_talk]
    exact hsettings

/-! ## The release notice (R124, R160) -/

theorem State.keyLeaves_talkOp (s : State) (p : Nat) : State.TalkOp (s.keyLeaves · p) :=
  .foldl (fun l => (State.setDest_talkOp l _).comp (State.settleDest_talkOp l)) _

theorem State.keyLeaves_congr {s t : State} (htalk : t.talk = s.talk) (hlinks : t.links = s.links) : t.keyLeaves = s.keyLeaves := by
  have hleave : t.leaveDest = s.leaveDest := by
    funext p u l
    rw [State.leaveDest, State.link, hlinks]
    rfl
  funext u p
  rw [State.keyLeaves, hleave, State.key, htalk]
  rfl

/-- What leaves talkback, the matrix line, the links and the time alone is no matter to keys that deactivate. -/
theorem State.Deactivated.congr {s t u v : State} {ps : List Nat} (h : s.Deactivated u ps) (htalk : t.talk = s.talk) (hmatrix : t.matrix = s.matrix)
    (hlinks : t.links = s.links) (htime : t.board.time = s.board.time) (htalk' : v.talk = u.talk) (hmatrix' : v.matrix = u.matrix) :
    t.Deactivated v ps := by
  have hsame : s.TalksAs t := ⟨htalk, hmatrix, htime, fun m => by rw [State.link, State.link, hlinks]; exact .refl _⟩
  obtain ⟨_, _, _, hs, ht⟩ := State.TalkOp.foldl s.keyLeaves_talkOp ps s t hsame
  dsimp only at hs ht
  have hleft : (t.keysLeave ps).talk = (s.keysLeave ps).talk ∧ (t.keysLeave ps).matrix = (s.keysLeave ps).matrix := by
    rw [State.keysLeave_eq, State.keyLeaves_congr htalk hlinks, State.keysLeave_eq, hs, ht]
    exact ⟨rfl, rfl⟩
  have hkey : t.key = s.key := funext fun p => by rw [State.key, htalk, State.key]
  have hdest : t.dest = s.dest := funext fun l => by rw [State.dest, htalk, State.dest]
  have hkey' : v.key = u.key := funext fun p => by rw [State.key, htalk', State.key]
  have hdest' : v.dest = u.dest := funext fun l => by rw [State.dest, htalk', State.dest]
  have hstate : v.keyStateAt = u.keyStateAt := by
    funext st k key l
    exact State.keyStateAt_congr u v (by rw [hdest']) (by rw [hdest']) st k key
  have hdestLeft (l : Nat) : (t.keysLeave ps).dest l = (s.keysLeave ps).dest l := by rw [State.dest, hleft.1, State.dest]
  constructor
  case silent => rw [hkey, hkey']; exact h.silent
  case kept => rw [hkey, hkey', hstate]; exact h.kept
  case dests => simp only [hdest, hdest', hdestLeft]; exact h.dests
  case points => rw [hmatrix', hleft.2]; exact h.points
  case edition => rw [hkey, hkey', hdest, hdest', htalk, htalk']; exact h.edition
  case settings => rw [htalk, htalk']; exact h.settings

/-- The keys that a release notice deactivates (R124, R160). -/
def State.heldKeys (s : State) : List Nat :=
  (List.range 192).filter fun p => decide ((s.key p).activity = .pressed ∨ (s.key p).activity = .hanging)

theorem State.releaseNotice_deactivated (s : State) : s.Deactivated s.releaseNotice s.heldKeys :=
  s.deactivateAll_deactivated (List.nodup_range.filter _)

theorem State.setKey_talkOp (p : Nat) (f : Key → Key) : State.TalkOp (·.setKey p f) :=
  State.withKeys_talkOp fun talk => adjust talk.keys p f

theorem State.deactivate_talkOp (st k : Nat) : State.TalkOp (·.deactivate st k) := by
  have hleave (l : Nat) : State.TalkOp fun s => (s.setDest l fun d => d.leave st k (s.link l).carriesTalk).settleDest l :=
    .comp (.reads (v := fun s => (s.link l).carriesTalk) (f := fun b s => s.setDest l fun d => d.leave st k b)
      (fun s t h => h.carriesTalk l) fun b => State.setDest_talkOp l _) (State.settleDest_talkOp l)
  have hleft : State.TalkOp fun s => (s.key (keyPlace st k)).dests.foldl
      (fun s l => (s.setDest l fun d => d.leave st k (s.link l).carriesTalk).settleDest l) s :=
    .reads (v := fun s => (s.key (keyPlace st k)).dests) (fun s t h => by rw [State.key, h.talk, State.key]) fun ls => .foldl hleave ls
  exact hleft.comp (State.setKey_talkOp (keyPlace st k) Key.silent)

/-- Keys that deactivate touch talkback and the matrix line and note events. -/
theorem State.releaseNotice_notes (s : State) : ∃ es talk matrix, s.releaseNotice = s.withTalk es talk matrix :=
  (State.talkEvent_talkOp (.foldl (fun p => State.deactivate_talkOp (p / 12) (p % 12)) s.heldKeys)).notes s

end Sys2Proof.Machine
end

section
/-! SUPPORT and the proof on stale lines (R116, R122 to R127): source tables, the states of a line, and the expiries of its timers. -/

namespace Sys2Proof.Machine

/-! ## Source tables and the pending tallies that go by them (R125 to R127, R129, R130) -/

/-- The record of a link at the resolver, its pending tally recomputed from source tables (R129, R130). -/
def State.repending (s : State) (l : Nat) (t : LinkTally) : LinkTally := { t with pending := s.pendingFor t.override (s.link l).sources }

/-- The bound links whose source list satisfies p, rising. -/
def State.boundNaming (s : State) (p : List (Nat × Nat) → Bool) : List Nat :=
  placesWhere 32 fun l => decide ((s.link l).state ≠ .vacant) && p (s.link l).sources

section Pending

variable (s : State) (p : List (Nat × Nat) → Bool)

theorem State.recomputeWhere_eq : s.recomputeWhere p = { s with tally := { s.tally with
    links := (s.boundNaming p).foldl (fun v l => adjust v l (s.repending l)) s.tally.links } } := by
  have hfold (ls : List Nat) (v : Vector LinkTally 32) :
      ls.foldl (fun s l => s.recomputePending l) { s with tally := { s.tally with links := v } } =
        { s with tally := { s.tally with links := ls.foldl (fun v l => adjust v l (s.repending l)) v } } := by
    induction ls generalizing v with
    | nil => rfl
    | cons l ls ih => exact ih (adjust v l (s.repending l))
  exact hfold _ s.tally.links

/-- A recompute reaches the bound links whose sources satisfy p, and no others (R130). -/
theorem State.recomputeWhere_linkTally {l : Nat} (hl : l < 32) : (s.recomputeWhere p).linkTally l =
    if (s.link l).state ≠ .vacant ∧ p (s.link l).sources = true then s.repending l (s.linkTally l) else s.linkTally l := by
  rw [State.recomputeWhere_eq]
  refine (look_foldl_adjust s.repending (List.nodup_range.filter _) s.tally.links hl).trans (if_congr ?_ rfl rfl)
  refine List.mem_filter.trans ((and_iff_right (List.mem_range.mpr hl)).trans ?_)
  rw [Bool.and_eq_true, decide_eq_true_iff]

end Pending

/-- Source tables rewritten: the region edition counts once, EVENTS.TALLY is set, and the pending tallies of some links are recomputed (R126, R127). -/
def State.withSources (s : State) (sources : Vector Tally 128) (p : List (Nat × Nat) → Bool) : State :=
  { s with
    tally := { ({ s with tally := { s.tally with sources } } : State).recomputeWhere p |>.tally with edition := s.tally.edition + 1 }
    board := s.board.note [.tally] }

section Sources

variable (s : State)

theorem State.tallyRewrite_recomputeWhere (sources : Vector Tally 128) (p : List (Nat × Nat) → Bool) :
    (({ s with tally := { s.tally with sources } } : State).tallyRewrite).recomputeWhere p = s.withSources sources p := by
  rw [State.recomputeWhere_eq, State.withSources, State.recomputeWhere_eq]
  rfl

theorem State.withSources_pendingFor (sources : Vector Tally 128) (p : List (Nat × Nat) → Bool) (l : Nat) (t : LinkTally) :
    ({ s with tally := { s.tally with sources } } : State).repending l t =
      { t with pending := (s.withSources sources p).pendingFor t.override (s.link l).sources } := by
  rw [State.withSources, State.recomputeWhere_eq]
  rfl

/-- The resolver's record of a link after source tables are rewritten (R130). -/
theorem State.withSources_linkTally (sources : Vector Tally 128) (p : List (Nat × Nat) → Bool) {l : Nat} (hl : l < 32) :
    (s.withSources sources p).linkTally l = if (s.link l).state ≠ .vacant ∧ p (s.link l).sources = true
      then { s.linkTally l with pending := (s.withSources sources p).pendingFor (s.linkTally l).override (s.link l).sources }
      else s.linkTally l := by
  rw [← s.withSources_pendingFor sources p l]
  exact State.recomputeWhere_linkTally _ p hl

theorem State.withSources_sources (sources : Vector Tally 128) (p : List (Nat × Nat) → Bool) : (s.withSources sources p).tally.sources = sources := by
  rw [State.withSources, State.recomputeWhere_eq]

/-- A tally frame's level written into its source entry (R126). -/
theorem State.writeSource_eq (line source : Nat) (t : Tally) : s.writeSource line source t =
    if look s.tally.sources (sourcePlace line source) = t then s
    else s.withSources (put s.tally.sources (sourcePlace line source) t) fun l => l.contains (line, source) := by
  rw [State.writeSource]
  exact if_congr Iff.rfl rfl (s.tallyRewrite_recomputeWhere _ _)

/-- Every entry of a line's table is OFF. -/
def Resolver.blank (r : Resolver) (line : Nat) : Bool := (List.range 64).all fun k => decide (look r.sources (64 * line + k) = .off)

theorem Resolver.blank_eq_true_iff (r : Resolver) {line : Nat} (hline : line < 2) :
    r.blank line = true ↔ ∀ k < 128, k / 64 = line → look r.sources k = .off := by
  rw [Resolver.blank, List.all_eq_true]
  constructor
  · intro h k hk hkl
    have hoff := of_decide_eq_true (h (k % 64) (List.mem_range.mpr (Nat.mod_lt _ (by decide))))
    rwa [← hkl, Nat.div_add_mod] at hoff
  · intro h k hk
    have hk := List.mem_range.mp hk
    exact decide_eq_true (h _ (by omega) (by omega))

/-- A table set to OFF at one line's places. -/
def Resolver.cleared (r : Resolver) (line : Nat) : Vector Tally 128 := mapTable (fun i t => if i / 64 = line then .off else t) r.sources

/-- A whole table set to OFF (R127). -/
theorem State.clearTable_eq {line : Nat} (hline : line < 2) : s.clearTable line =
    if s.tally.blank line then s else s.withSources (s.tally.cleared line) fun l => l.any fun x => decide (x.1 = line) := by
  rw [State.clearTable]
  refine if_congr ?_ rfl (s.tallyRewrite_recomputeWhere _ _)
  rw [Resolver.blank_eq_true_iff _ hline, List.isEmpty_iff, placesWhere, List.filter_eq_nil_iff]
  simp only [List.mem_range, decide_eq_true_eq, not_and, not_not]

theorem State.clearTable_sources {line k : Nat} (hline : line < 2) (hk : k < 128) :
    look (s.clearTable line).tally.sources k = if k / 64 = line then .off else look s.tally.sources k := by
  rw [State.clearTable_eq s hline]
  split
  · next hblank =>
    split
    · next hkl => exact (Resolver.blank_eq_true_iff _ hline).mp hblank k hk hkl
    · rfl
  · rw [State.withSources_sources]
    exact look_mapTable _ _ k hk

/-- The resolver's record of a link after a line's table is cleared (R127, R130). -/
theorem State.clearTable_linkTally {line l : Nat} (hline : line < 2) (hl : l < 32) : (s.clearTable line).linkTally l =
    if s.tally.blank line = false ∧ (s.link l).state ≠ .vacant ∧ (s.link l).sources.any (fun x => decide (x.1 = line)) = true
    then { s.linkTally l with pending := (s.clearTable line).pendingFor (s.linkTally l).override (s.link l).sources } else s.linkTally l := by
  rw [State.clearTable_eq s hline]
  cases s.tally.blank line with
  | true => rfl
  | false => exact (s.withSources_linkTally _ _ hl).trans (if_congr (by simp only [true_and]) rfl rfl)

/-- A table cleared touches the resolver, and notes EVENTS.TALLY where an entry was not OFF (R127). -/
theorem State.clearTable_blocks {line : Nat} (hline : line < 2) : ∃ tally, s.clearTable line = { s with
    tally, board := s.board.note (if s.tally.blank line then [] else [.tally]) } ∧
      tally.edition = if s.tally.blank line then s.tally.edition else s.tally.edition + 1 := by
  rw [State.clearTable_eq s hline]
  cases s.tally.blank line with
  | true => exact ⟨s.tally, rfl, rfl⟩
  | false => exact ⟨_, rfl, rfl⟩

end Sources

/-! ## A line's record (R114) -/

section Lines

variable (s : State) (i : Nat)

/-- Line i's record written, without a rewrite. -/
def State.withLine (t : Line) : State := { s with lines := { s.lines with recs := put s.lines.recs i t } }

/-- Line i's record rewritten (R114). -/
def State.wroteLine (t : Line) : State := { s with
  lines := { s.lines with recs := put s.lines.recs i { t with edition := (s.line i).edition + 1 }, edition := s.lines.edition + 1 }
  board := s.board.note [.line] }

theorem State.touchLine_eq (f : Line → Line) : s.touchLine i f = s.withLine i (f (s.line i)) := rfl

theorem State.rewriteLine_eq (f : Line → Line) : s.rewriteLine i f = s.wroteLine i (f (s.line i)) := rfl

theorem State.withLine_line_same {i : Nat} (hi : i < 3) (t : Line) : (s.withLine i t).line i = t := look_put_same _ _ _ hi

theorem State.wroteLine_line_same {i : Nat} (hi : i < 3) (t : Line) : (s.wroteLine i t).line i = { t with edition := (s.line i).edition + 1 } :=
  look_put_same _ _ _ hi

theorem State.wroteLine_line_ne {i j : Nat} (h : i ≠ j) (t : Line) : (s.wroteLine i t).line j = s.line j := look_put_ne _ _ _ _ h

end Lines

/-! ## Timers of a line (R122 to R124) -/

/-- A tally line that goes STALE holds its table for its stale-clear time (R122, R123). -/
theorem State.lineStale_tally (s : State) {i : Nat} (hi : i ≠ 2) : s.lineStale i = s.wroteLine i { s.line i with
    state := .stale, decoder := .hunt, held := true, staleTimer := none, clearTimer := s.timer (s.line i).staleClear } := by
  rw [State.lineStale, if_neg hi]
  simp only [if_neg hi, decide_eq_true hi]
  rfl

/-- The panel line that goes STALE gives its release notice (R122, R124). -/
theorem State.lineStale_panel (s : State) : s.lineStale 2 = (s.wroteLine 2 { s.line 2 with
    state := .stale, decoder := .hunt, held := false, staleTimer := none, clearTimer := none }).releaseNotice := rfl

/-- The expiry of a running stale timer that is due (R122). -/
theorem exec_staleTimerExpiry {s : State} {i : Nat} {tm : Timer} (hi : i < 3) (hready : s.board.ready = true) (hrun : (s.line i).staleTimer = some tm)
    (hdue : tm.len ≤ (s.board.time - tm.start).toNat) : exec (.staleTimerExpiry i) s = .next (s.lineStale i) := by
  show execStaleTimerExpiry i s = _
  rw [execStaleTimerExpiry, if_pos hi, hrun, s.onExpiry_due hready hdue]

/-- The expiry of a running stale-clear timer that is due (R123). -/
theorem exec_staleClearExpiry {s : State} {i : Nat} {tm : Timer} (hi : i < 2) (hready : s.board.ready = true) (hrun : (s.line i).clearTimer = some tm)
    (hdue : tm.len ≤ (s.board.time - tm.start).toNat) : exec (.staleClearExpiry i) s = .next (s.lineCleared i) := by
  show execStaleClearExpiry i s = _
  rw [execStaleClearExpiry, if_pos hi, hrun, s.onExpiry_due hready hdue]

/-- Settles O47: the stale timer's expiry by what the line is, the stale-clear timer's by the cleared table and the rewritten record. -/
theorem staleLinesHoldThenClear : Obligations.StaleLinesHoldThenClear := by
  unfold Obligations.StaleLinesHoldThenClear
  intro s i tm hi hready hdue r wrote blank
  refine ⟨fun hrun hline => ?_, fun hrun hline => ?_, fun hrun hline => ?_⟩
  · rw [exec_staleTimerExpiry hi hready hrun hdue, s.lineStale_tally (by omega)]
    rfl
  · subst hline
    rw [exec_staleTimerExpiry hi hready hrun hdue, s.lineStale_panel]
    set t := s.wroteLine 2 { s.line 2 with state := .stale, decoder := .hunt, held := false, staleTimer := none, clearTimer := none }
    obtain ⟨es, talk, matrix, hnotes⟩ := t.releaseNotice_notes
    refine ⟨_, rfl, ?_, t.releaseNotice_deactivated.congr rfl rfl rfl rfl rfl rfl, ?_⟩
    · rw [hnotes]
      rfl
    · rw [hnotes]
      exact ⟨rfl, rfl, rfl, rfl, rfl, rfl, rfl, rfl⟩
  · rw [exec_staleClearExpiry hline hready hrun hdue, State.lineCleared, State.rewriteLine_eq]
    have hsources {k : Nat} (hk : k < 128) := s.clearTable_sources hline hk
    have hlinks {l : Nat} (hl : l < 32) := s.clearTable_linkTally hline hl
    obtain ⟨tally, hclear, hedition⟩ := s.clearTable_blocks hline
    have hboard : (s.board.note (if blank = true then [] else [.tally])).note [.line] = s.board.note (if blank = true then [.line] else [.tally, .line]) := by
      rw [Board.note_note]
      cases blank <;> rfl
    rw [hclear] at hsources hlinks ⊢
    exact ⟨_, rfl, rfl, fun k hk => hsources hk, hedition, hboard, fun l hl => hlinks hl, rfl, rfl, rfl, rfl, rfl, rfl, rfl, rfl, rfl⟩

end Sys2Proof.Machine
end

section
/-! SUPPORT and the proof on received characters (R116 to R119): what a line's receiver leaves of samples, and the frame decoder byte by byte. -/

namespace Sys2Proof.Machine

/-! ## The receiver after samples (R116 to R118) -/

section Receiver

variable (r : Line)

theorem Line.breakTest_level (x : Receiver) : (r.breakTest x).level = x.level := by
  unfold Line.breakTest
  split <;> rfl

theorem Line.breakTest_spaces (x : Receiver) : (r.breakTest x).spaces = x.spaces := by
  unfold Line.breakTest
  split <;> rfl

/-- After a sample, space is being counted exactly when the filtered level is space (R118). -/
theorem Line.sample_spaces (x : Receiver) (v : Bool) : (r.sample x v).1.spaces = 0 ↔ (r.sample x v).1.level = true := by
  simp only [Line.sample, Line.breakTest_level, Line.breakTest_spaces, Line.spacesAfter]
  split
  · next hmark => exact iff_of_true rfl hmark
  · next hspace => exact iff_of_false (by omega) hspace

/-- After some samples, space is being counted exactly when the filtered level is space (R118). -/
theorem Line.hear_spaces_iff {vs : List Bool} (hvs : vs ≠ []) (x : Receiver) : (r.hear x vs).1.spaces = 0 ↔ (r.hear x vs).1.level = true := by
  rw [← List.dropLast_append_getLast hvs, Line.hear_append]
  exact r.sample_spaces _ _

/-- A line without a break's worth of space, whose bits leave the receiver ready, leaves it ready. -/
theorem Line.hear_ready {vs : List Bool} (hvs : vs ≠ []) (hshort : vs.length ≤ r.byteSamples) (hbits : r.hearBits Receiver.ready vs = (Receiver.ready, [])) :
    r.hear Receiver.ready vs = (Receiver.ready, []) := by
  obtain ⟨n, -, hheard⟩ := r.hear_short vs Receiver.ready (by simpa [Receiver.ready] using hshort)
  rw [hbits] at hheard
  have hn : n = 0 := by
    have hspaces := (r.hear_spaces_iff hvs Receiver.ready).mpr (by rw [hheard]; rfl)
    rwa [hheard] at hspaces
  rw [hheard, hn]
  rfl

theorem Line.byteSamples_ge : 144 ≤ r.byteSamples := by
  rw [Line.byteSamples, Line.charBits]
  omega

/-- A pulse shorter than the filter's samples is not seen (R117). -/
theorem Line.hear_pulse {k : Nat} (hk : k < r.filter.samples) :
    r.hear Receiver.ready (List.replicate k false ++ [true]) = (Receiver.ready, []) := by
  have hsamples : r.filter.samples ≤ 4 := by cases r.filter <;> decide
  refine r.hear_ready (by simp) (Nat.le_trans ?_ r.byteSamples_ge) ?_
  · simp only [List.length_append, List.length_replicate, List.length_singleton]
    omega
  · cases hf : r.filter <;> rw [hf, NoiseFilter.samples] at hk <;> interval_cases k <;>
      simp [List.replicate, Receiver.ready, Line.hearBits, Line.sampleBits, NoiseFilter.sample, NoiseFilter.samples, Line.receive, hf]

/-- A start bit back at mark by its middle was noise (R117). -/
theorem Line.hear_falseStart {k : Nat} (hk : k ≤ 8) :
    r.hear Receiver.ready (List.replicate k false ++ List.replicate 16 true) = (Receiver.ready, []) := by
  refine r.hear_ready (by simp) (Nat.le_trans ?_ r.byteSamples_ge) ?_
  · simp only [List.length_append, List.length_replicate]
    omega
  · have hback : r.hearBits Receiver.ready (List.replicate k false ++ List.replicate 8 true) = (Receiver.ready, []) := by
      cases hf : r.filter <;> interval_cases k <;>
        simp [List.replicate, Receiver.ready, Line.hearBits, Line.sampleBits, NoiseFilter.sample, NoiseFilter.samples, Line.receive, hf]
    have hstays : r.hearBits Receiver.ready (List.replicate 8 true) = (Receiver.ready, []) := by
      simp [List.replicate, Receiver.ready, Line.hearBits, Line.sampleBits, NoiseFilter.sample, Line.receive]
    rw [show List.replicate 16 true = List.replicate 8 true ++ List.replicate 8 true from rfl, ← List.append_assoc, Line.hearBits_append, hback, hstays]
    rfl

/-- A receiver that waits at space goes on waiting there (R118). -/
theorem Line.hear_waiting_spaces (k : Nat) : ∀ x : Receiver, x.level = false → x.run = 0 → x.phase = .waiting 0 →
    ∃ n, r.hear x (List.replicate k false) = ({ x with spaces := n }, []) := by
  induction k with
  | zero => exact fun x _ _ _ => ⟨x.spaces, rfl⟩
  | succ k ih =>
    rintro ⟨level, run, spaces, phase⟩ rfl rfl rfl
    have hsample : r.sample { level := false, run := 0, spaces, phase := .waiting 0 } false =
        ({ level := false, run := 0, spaces := r.spacesAfter spaces false, phase := .waiting 0 }, none) := by
      simp [Line.sample, Line.sampleBits, NoiseFilter.sample, Line.receive, Line.breakTest]
    obtain ⟨n, hn⟩ := ih { level := false, run := 0, spaces := r.spacesAfter spaces false, phase := .waiting 0 } rfl rfl rfl
    exact ⟨n, by rw [List.replicate_succ, Line.hear, hsample, hn]; rfl⟩

/-- A receiver that waits takes nothing before it has waited for a bit time (R116, R118). -/
theorem Line.hear_waiting (vs : List Bool) : ∀ (x : Receiver) (m : Nat), x.phase = .waiting m → m + vs.length < 16 →
    ∃ k, (r.hear x vs).1.phase = .waiting k ∧ (r.hear x vs).2 = [] := by
  induction vs with
  | nil => exact fun x m hm _ => ⟨m, hm, rfl⟩
  | cons v vs ih =>
    intro x m hm hshort
    rw [List.length_cons] at hshort
    have hphase : (r.filter.sample x v).phase = x.phase := by
      unfold NoiseFilter.sample
      split
      · rfl
      · split <;> rfl
    have hsample : ∃ k ≤ m + 1, (r.sample x v).1.phase = .waiting k ∧ (r.sample x v).2 = none := by
      simp only [Line.sample, Line.sampleBits, hphase, hm, Line.receive]
      cases (r.filter.sample x v).level with
      | false => exact ⟨0, by omega, by simp [Line.breakTest], trivial⟩
      | true => exact ⟨m + 1, Nat.le_refl _, by simp [Line.breakTest, show m + 1 < 16 by omega], trivial⟩
    obtain ⟨k, hk, hnext, hnone⟩ := hsample
    obtain ⟨k', hlast, hnothing⟩ := ih (r.sample x v).1 k hnext (by omega)
    exact ⟨k', hlast, by rw [Line.hear, hnone]; exact hnothing⟩

/-- A character sent after one bit time of mark to a receiver at rest: its one judgement, and the receiver between characters, counting space
exactly when the checked stop bit is space (R117, R118). -/
theorem Line.hear_sent {x : Receiver} (hrest : x.atRest) (b : Byte) (p : Bool) {stops : List Bool} (hstops : stops ≠ []) (hn : stops.length = r.stopBits) :
    (r.bits b p stops).length = r.charBits ∧ ∃ n ≤ r.byteSamples, (n = 0 ↔ stops.getLastD false = true) ∧
      r.hear x (bitTimes (true :: r.bits b p stops)) = ({ level := stops.getLastD false, run := 0, spaces := n, phase := .idle },
        [{ data := b, parityBit := if r.parity = .none then stops.headD false else p, stop := stops.getLastD false }]) := by
  have h8 : (bitsOf b).length = 8 := rfl
  set vs := bitsOf b ++ ((if r.parity = .none then [] else [p]) ++ stops) with hvs
  have hbits : r.bits b p stops = false :: vs := rfl
  have hlength : vs.length + 1 = r.charBits := by
    by_cases hp : r.parity = .none <;> simp [hvs, Line.charBits, h8, hp, hn] <;> omega
  have hlast : (false :: vs).getLastD false = stops.getLastD false := by
    obtain ⟨a, t, rfl⟩ := List.exists_cons_of_ne_nil hstops
    simp [hvs, List.getLastD_eq_getLast?, List.getLast?_append, List.getLast?_cons]
  refine ⟨by rw [hbits, List.length_cons, hlength], ?_⟩
  obtain ⟨n, hle, hheard⟩ := r.hear_char x vs hrest (by simp [hvs, hstops]) hlength
  have hspaces := r.hear_spaces_iff (vs := bitTimes (true :: false :: vs)) (by simp [bitTimes]) x
  rw [hheard, Receiver.ended, hlast] at hspaces
  refine ⟨n, hle, hspaces, ?_⟩
  rw [hbits, hheard, Receiver.ended, hlast, ← hbits, charOfBits_bits r b p stops hstops]

end Receiver

/-! ## Samples and bytes on a line (R116 to R119) -/

section Bytes

variable {s : State} {i : Nat}

theorem exec_receiveByteError (hi : i < 3) (hready : s.board.ready = true) (vs : List Bool) :
    exec (.receiveByteError i vs) s = .next (s.lineSamples i vs) := by
  show execReceiveByteError i vs s = _
  rw [execReceiveByteError, if_pos hi, State.onEvent, if_pos hready]

theorem exec_discardedByte (hi : i < 3) (hready : s.board.ready = true) (b : Byte) : exec (.discardedByte i b) s = .next (s.lineByte i b) := by
  show execDiscardedByte i b s = _
  rw [execDiscardedByte, if_pos hi, State.onEvent, if_pos hready]

theorem exec_frameMarkerByte (hi : i < 3) (hready : s.board.ready = true) :
    exec (.frameMarkerByte i) s = .next (s.lineByte i (lineMarker i)) := by
  show execFrameMarkerByte i s = _
  rw [execFrameMarkerByte, if_pos hi, State.onEvent, if_pos hready]

theorem State.lineSamples_disabled (hoff : (s.line i).enable = false) (vs : List Bool) : s.lineSamples i vs = s := by
  rw [State.lineSamples, hoff]
  rfl

theorem State.lineByte_disabled (hoff : (s.line i).enable = false) (b : Byte) : s.lineByte i b = s := by
  rw [State.lineByte, hoff]
  rfl

theorem State.withLine_withLine (t u : Line) : (s.withLine i t).withLine i u = s.withLine i u := by
  rw [State.withLine, State.withLine, put_put]
  rfl

theorem State.withLine_self : s.withLine i (s.line i) = s := by
  rw [State.withLine, State.line, put_look]

/-- A change of a line's record just written. -/
theorem State.touchLine_withLine (hi : i < 3) (t : Line) (f : Line → Line) : (s.withLine i t).touchLine i f = s.withLine i (f t) := by
  rw [State.touchLine_eq, State.withLine_withLine, State.withLine_line_same s hi]

/-- Samples that spell no character leave no more than the receiver they end in. -/
theorem State.lineSamples_silent (hon : (s.line i).enable = true) {vs : List Bool} {x : Receiver} (hheard : (s.line i).hear (s.line i).rx vs = (x, [])) :
    s.lineSamples i vs = s.withLine i { s.line i with rx := x } := by
  rw [State.lineSamples, if_pos hon, hheard]
  rfl

/-- Samples that spell one character leave its judgement. -/
theorem State.lineSamples_spelling (hon : (s.line i).enable = true) {vs : List Bool} {x : Receiver} {c : RxChar}
    (hheard : (s.line i).hear (s.line i).rx vs = (x, [c])) : s.lineSamples i vs = (s.withLine i { s.line i with rx := x }).character i c := by
  rw [State.lineSamples, if_pos hon, hheard]
  rfl

section Judged

variable {t : Line} {c : RxChar}

/-- The checked stop bit at space: a framing error (R117, R118). -/
theorem State.character_framing (hi : i < 3) (hstop : c.stop = false) : (s.withLine i t).character i c =
    s.withLine i { t with framingErrors := satInc t.framingErrors, decoder := .hunt } := by
  rw [State.character, hstop]
  exact State.touchLine_withLine hi t _

/-- A parity that disagrees: a parity error (R117, R118). -/
theorem State.character_parity (hi : i < 3) (hstop : c.stop = true) (hparity : rxParityError c t.parity = true) : (s.withLine i t).character i c =
    s.withLine i { t with parityErrors := satInc t.parityErrors, decoder := .hunt } := by
  rw [State.character, hstop, State.withLine_line_same s hi, hparity]
  exact State.touchLine_withLine hi t _

/-- A character without a byte error is a good byte (R118). -/
theorem State.character_good (hi : i < 3) (hstop : c.stop = true) (hparity : rxParityError c t.parity = false) :
    (s.withLine i t).character i c = (s.withLine i t).goodByte i c.data := by
  rw [State.character, hstop, State.withLine_line_same s hi, hparity]
  rfl

end Judged

/-- A parity bit disagrees with the ones it is sent with (R117). -/
theorem rxParityError_iff (c : RxChar) (p : Parity) : rxParityError c p = true ↔
    let ones := ((List.range 8).filter fun k => c.data.getLsbD k).length + if c.parityBit then 1 else 0
    (p = .even ∧ ones % 2 = 1) ∨ (p = .odd ∧ ones % 2 = 0) := by
  obtain ⟨b, bit, stop⟩ := c
  cases p with
  | none => simp [rxParityError]
  | even =>
    cases bit <;> simp [rxParityError, rxEven]
    omega
  | odd =>
    cases bit <;> simp [rxParityError, rxEven]
    omega

/-! ### The frame decoder (R119) -/

/-- A line's record, its receiver ready for a start bit (R117). -/
def Line.readied (r : Line) : Line := { r with rx := Receiver.ready }

variable (s) in
/-- A good byte on an enabled line reaches its decoder, the receiver ready for the next (R117, R119). -/
theorem State.lineByte_enabled (hon : (s.line i).enable = true) (b : Byte) :
    s.lineByte i b = (s.withLine i (s.line i).readied).goodByte i b := by
  rw [State.lineByte, if_pos hon]
  rfl

variable {t : Line}

theorem State.withLine_decoder (hi : i < 3) {d : Decoder} (hdecoder : t.decoder = d) : ((s.withLine i t).line i).decoder = d := by
  rw [State.withLine_line_same s hi, hdecoder]

/-- A byte in HUNT that is not the marker is discarded and counted (R119). -/
theorem State.goodByte_discarded (hi : i < 3) (hhunt : t.decoder = .hunt) {b : Byte} (hb : b ≠ lineMarker i) :
    (s.withLine i t).goodByte i b = s.withLine i { t with discarded := satInc t.discarded } := by
  rw [State.goodByte, State.withLine_decoder hi hhunt]
  exact (if_neg hb).trans (State.touchLine_withLine hi t _)

/-- The marker in HUNT starts a frame (R119). -/
theorem State.goodByte_marker (hi : i < 3) (hhunt : t.decoder = .hunt) :
    (s.withLine i t).goodByte i (lineMarker i) = s.withLine i { t with decoder := .collecting [] } := by
  rw [State.goodByte, State.withLine_decoder hi hhunt]
  exact (if_pos rfl).trans (State.touchLine_withLine hi t _)

/-- The first two bytes after the marker are collected (R119). -/
theorem State.goodByte_collected (hi : i < 3) {bs : List Byte} (hcollecting : t.decoder = .collecting bs) (hbs : bs.length < 2) (b : Byte) :
    (s.withLine i t).goodByte i b = s.withLine i { t with decoder := .collecting (bs ++ [b]) } := by
  rw [State.goodByte, State.withLine_decoder hi hcollecting]
  match bs, hbs with
  | [], _ => exact State.touchLine_withLine hi t _
  | [_], _ => exact State.touchLine_withLine hi t _

/-- The third byte after the marker ends the frame, which is judged (R119). -/
theorem State.goodByte_judged (hi : i < 3) {b1 b2 : Byte} (hcollecting : t.decoder = .collecting [b1, b2]) (check : Byte) :
    (s.withLine i t).goodByte i check = (s.withLine i { t with decoder := .hunt }).judgeFrame i b1 b2 check := by
  rw [State.goodByte, State.withLine_decoder hi hcollecting]
  exact congrArg (State.judgeFrame · i b1 b2 check) (State.touchLine_withLine hi t _)

end Bytes

/-! ## Characters (R116 to R119) -/

/-- The stop bits as they are sent. -/
def sentStops (stopBits : Nat) (first second : Bool) : List Bool := if stopBits = 2 then [first, second] else [first]

theorem sentStops_facts {stopBits : Nat} (h : stopBits = 1 ∨ stopBits = 2) (first second : Bool) : sentStops stopBits first second ≠ [] ∧
    (sentStops stopBits first second).length = stopBits ∧ (sentStops stopBits first second).getLastD false = if stopBits = 2 then second else first := by
  obtain rfl | rfl := h
  · exact ⟨List.cons_ne_nil _ _, rfl, rfl⟩
  · exact ⟨List.cons_ne_nil _ _, rfl, rfl⟩

/-- A parity error of a sent character, in what was sent (R117). -/
theorem rxParityError_sent (r : Line) (b : Byte) (p stop head : Bool) :
    rxParityError { data := b, parityBit := if r.parity = .none then head else p, stop } r.parity = true ↔
      let ones := ((List.range 8).filter fun k => b.getLsbD k).length + if p then 1 else 0
      (r.parity = .even ∧ ones % 2 = 1) ∨ (r.parity = .odd ∧ ones % 2 = 0) := by
  rw [rxParityError_iff]
  cases r.parity with
  | none => simp
  | even => exact Iff.rfl
  | odd => exact Iff.rfl

section Sent

variable {s : State} {i : Nat} (hi : i < 3) (hon : (s.line i).enable = true) (hrest : (s.line i).rx.atRest) (b : Byte) (p : Bool) {stops : List Bool}
  (hstops : stops ≠ []) (hlength : stops.length = (s.line i).stopBits)

include hi hon hrest hstops hlength

/-- The checked stop bit at space: one framing error, and nothing more of a line that stays at space; held there for longer than a byte,
it leaves the receiver waiting for mark (R117, R118). -/
theorem State.lineSamples_framing (hchecked : stops.getLastD false = false) (k : Nat) : ∃ x : Receiver, x.level = false ∧ x.run = 0 ∧
    s.lineSamples i (bitTimes (true :: (s.line i).bits b p stops) ++ List.replicate k false) =
      s.withLine i { s.line i with framingErrors := satInc (s.line i).framingErrors, decoder := .hunt, rx := x } ∧
    (k = 0 → x.phase = .idle) ∧ (16 * ((s.line i).bits b p stops).length ≤ k → x.phase = .waiting 0) := by
  obtain ⟨hbits, n, hle, hspaces, hheard⟩ := (s.line i).hear_sent hrest b p hstops hlength
  have hspace : n ≠ 0 := fun h => absurd (hspaces.mp h) (by rw [hchecked]; decide)
  have hafter := (s.line i).hear_spaces k { level := false, run := 0, spaces := n, phase := .idle } rfl rfl rfl hle
  have hwhole := (s.line i).hear_append (bitTimes (true :: (s.line i).bits b p stops)) (List.replicate k false) (s.line i).rx
  rw [hheard, hchecked, hafter] at hwhole
  rw [State.lineSamples_spelling hon hwhole, State.character_framing hi rfl]
  refine ⟨_, ?_, ?_, rfl, fun hk => ?_, fun hk => ?_⟩
  · split <;> rfl
  · split <;> rfl
  · rw [if_neg (by dsimp only; omega)]
  · rw [if_pos (by dsimp only; rw [Line.byteSamples, ← hbits]; omega)]

/-- Otherwise a parity that disagrees: one parity error (R117, R118). -/
theorem State.lineSamples_parity (hchecked : stops.getLastD false = true)
    (hwrong : rxParityError { data := b, parityBit := if (s.line i).parity = .none then stops.headD false else p, stop := true } (s.line i).parity = true) :
    s.lineSamples i (bitTimes (true :: (s.line i).bits b p stops)) =
      s.withLine i { s.line i with parityErrors := satInc (s.line i).parityErrors, decoder := .hunt, rx := Receiver.ready } := by
  obtain ⟨-, n, -, hspaces, hheard⟩ := (s.line i).hear_sent hrest b p hstops hlength
  rw [hchecked, hspaces.mpr hchecked] at hheard
  exact (State.lineSamples_spelling hon hheard).trans (State.character_parity (t := (s.line i).readied) hi rfl hwrong)

/-- Otherwise a good byte (R118). -/
theorem State.lineSamples_good (hchecked : stops.getLastD false = true)
    (hright : rxParityError { data := b, parityBit := if (s.line i).parity = .none then stops.headD false else p, stop := true } (s.line i).parity = false) :
    s.lineSamples i (bitTimes (true :: (s.line i).bits b p stops)) = s.lineByte i b := by
  obtain ⟨-, n, -, hspaces, hheard⟩ := (s.line i).hear_sent hrest b p hstops hlength
  rw [hchecked, hspaces.mpr hchecked] at hheard
  rw [s.lineByte_enabled hon]
  exact (State.lineSamples_spelling hon hheard).trans (State.character_good (t := (s.line i).readied) hi rfl hright)

end Sent

/-- Settles O45: each clause by what the receiver makes of the samples, and what the decoder makes of the byte. -/
theorem charactersAreJudgedThenDecoded : Obligations.CharactersAreJudgedThenDecoded := by
  unfold Obligations.CharactersAreJudgedThenDecoded
  intro s i b hi hready r sampled leaves marker
  have hsampled (vs : List Bool) : sampled vs = .next (s.lineSamples i vs) := exec_receiveByteError hi hready vs
  have hbyte := exec_discardedByte hi hready b
  have hmarker := exec_frameMarkerByte hi hready
  have hself : s.withLine i { r with rx := r.rx } = s := State.withLine_self
  have hgood (c : Byte) (hon : r.enable = true) : s.lineByte i c = (s.withLine i r.readied).goodByte i c := s.lineByte_enabled hon c
  refine ⟨fun hoff => ⟨fun vs => ?_, ?_, ?_⟩, fun parityBit first second hon hrest hstops => ?_, fun k hon hlevel hrun hphase => ?_,
    fun vs hon hphase hshort => ?_, fun k hon hrx => ⟨fun hk => ?_, fun hk => ?_⟩, fun hon hhunt hb => ?_, fun hon hhunt => ?_, fun bs hon hcollecting hbs => ⟨?_, ?_⟩⟩
  · rw [hsampled, State.lineSamples_disabled hoff]
  · rw [hbyte, State.lineByte_disabled hoff]
  · rw [hmarker, State.lineByte_disabled hoff]
  · obtain ⟨hne, hlength, hlast⟩ := sentStops_facts hstops first second
    have hwrong := rxParityError_sent r b parityBit true ((sentStops r.stopBits first second).headD false)
    refine ⟨fun hchecked k => ?_, fun hchecked hparity => ?_, fun hchecked hparity => ?_⟩
    · obtain ⟨x, hlevel, hrun, hleft, hidle, hwaits⟩ :=
        State.lineSamples_framing hi hon hrest b parityBit hne hlength (hlast.trans hchecked) k
      exact ⟨x, hlevel, hrun, (hsampled _).trans (congrArg _ hleft), hidle, hwaits⟩
    · exact (hsampled _).trans (congrArg _
        (State.lineSamples_parity hi hon hrest b parityBit hne hlength (hlast.trans hchecked) (hwrong.mpr hparity)))
    · exact (hsampled _).trans ((congrArg _ (State.lineSamples_good hi hon hrest b parityBit hne hlength (hlast.trans hchecked)
        (Bool.eq_false_iff.mpr (mt hwrong.mp hparity)))).trans hbyte.symm)
  · obtain ⟨n, hheard⟩ := r.hear_waiting_spaces k r.rx hlevel hrun hphase
    exact ⟨n, by rw [hsampled, State.lineSamples_silent hon hheard]; rfl⟩
  · obtain ⟨m, hwaits, hnothing⟩ := r.hear_waiting vs r.rx 0 hphase (by omega)
    exact ⟨_, m, hwaits, by rw [hsampled, State.lineSamples_silent hon (Prod.ext rfl hnothing)]; rfl⟩
  · have hheard := r.hear_pulse (k := k) (by cases hf : r.filter <;> rw [hf] at hk <;> exact hk)
    rw [← hrx] at hheard
    rw [hsampled, State.lineSamples_silent hon hheard, hself]
  · have hheard := r.hear_falseStart hk
    rw [← hrx] at hheard
    rw [hsampled, State.lineSamples_silent hon hheard, hself]
  · rw [hbyte, hgood _ hon, State.goodByte_discarded (t := r.readied) hi hhunt hb]
    rfl
  · rw [hmarker, hgood _ hon, State.goodByte_marker (t := r.readied) hi hhunt]
    rfl
  · rw [hbyte, hgood _ hon, State.goodByte_collected (t := r.readied) hi hcollecting hbs]
    rfl
  · rw [hmarker, hgood _ hon, State.goodByte_collected (t := r.readied) hi hcollecting hbs]
    rfl

end Sys2Proof.Machine
end

section
/-! SUPPORT and the proof on tally and panel frames (R119 to R123, R126, R156): what a key event notes, and the judgement of a frame. -/

namespace Sys2Proof.Machine

/-! ## A key event's effect on the board: events noted (R156 to R159, R161, R165) -/

/-- The board of u is that of s with events noted. -/
def State.Noting (s u : State) : Prop := ∃ es, u.board = s.board.note es

namespace State.Noting

variable {s t u : State}

theorem of_board (h : u.board = s.board) : s.Noting u := ⟨[], h⟩

theorem trans (h : s.Noting t) (h' : t.Noting u) : s.Noting u := by
  obtain ⟨es, h⟩ := h
  obtain ⟨fs, h'⟩ := h'
  exact ⟨es ++ fs, by rw [h', h, Board.note_note]⟩

theorem foldl {α : Type} {f : State → α → State} (hf : ∀ (s : State) (a : α), s.Noting (f s a)) (l : List α) (s : State) : s.Noting (l.foldl f s) :=
  List.foldlRecOn l f (motive := s.Noting) (of_board rfl) fun t ht a _ => ht.trans (hf t a)

theorem of_talkOp {f : State → State} (hf : State.TalkOp f) (s : State) : s.Noting (f s) := by
  obtain ⟨es, _, _, h⟩ := hf.notes s
  exact ⟨es, congrArg State.board h⟩

theorem ready (h : s.Noting u) : u.board.ready = s.board.ready := by
  obtain ⟨es, h⟩ := h
  rw [h]
  rfl

theorem talkEvent {f : State → State} (h : s.Noting (f s)) : s.Noting (s.talkEvent f) :=
  (h.trans (of_talkOp State.recomputeKeys_talkOp _)).trans (of_talkOp (State.countTalk_talkOp s.talk) _)

theorem requestAt (s : State) (w : Waiter) (l : Nat) : s.Noting (s.requestAt w l) := by
  refine .trans ?_ (of_talkOp (State.settleDest_talkOp l) _)
  split
  · exact of_board rfl
  · exact of_board rfl

theorem activate (s : State) (st k : Nat) : s.Noting (s.activate st k) :=
  .trans (of_board rfl) (foldl (fun t l => requestAt t _ l) _ _)

end State.Noting

section Keys

variable (s : State) (st k : Nat)

/-- What a down can do to a key and its station: nothing, an activation, a deactivation, or a change of the key's record (R157 to R159). -/
theorem State.keyDown_cases {P : State → Prop} (hsame : P s) (hset : ∀ f, P (s.setKey (keyPlace st k) f))
    (hactivate : ∀ f, P ((s.activate st k).setKey (keyPlace st k) f)) (hdeactivate : P (s.deactivate st k)) : P (s.keyDown st k) := by
  simp only [State.keyDown]
  cases (s.key (keyPlace st k)).mode with
  | none => exact hsame
  | momentary =>
    cases (s.key (keyPlace st k)).activity with
    | idle => exact hactivate _
    | hanging => exact hset _
    | pressed | latched => exact hsame
  | latching =>
    cases (s.key (keyPlace st k)).activity with
    | idle => exact hactivate _
    | latched => exact hdeactivate
    | pressed | hanging => exact hsame
  | auto =>
    cases (s.key (keyPlace st k)).activity with
    | idle => exact hactivate _
    | hanging => exact hset _
    | latched => exact hdeactivate
    | pressed => exact hsame

/-- What an up can do to a key and its station (R157 to R159). -/
theorem State.keyUp_cases {P : State → Prop} (hsame : P s) (hset : ∀ f, P (s.setKey (keyPlace st k) f)) (hdeactivate : P (s.deactivate st k)) :
    P (s.keyUp st k) := by
  have hrelease : P (s.releaseKey st k) := by
    rw [State.releaseKey]
    split
    · exact hdeactivate
    · exact hset _
  simp only [State.keyUp]
  cases (s.key (keyPlace st k)).mode with
  | none | latching => exact hsame
  | momentary =>
    cases (s.key (keyPlace st k)).activity with
    | pressed => exact hrelease
    | idle | hanging | latched => exact hsame
  | auto =>
    cases (s.key (keyPlace st k)).activity with
    | pressed =>
      dsimp only
      split
      · exact hset _
      · exact hrelease
    | idle | hanging | latched => exact hsame

theorem State.Noting.keyEvent (down : Bool) : s.Noting (s.keyEvent st k down) := by
  have hdeactivate : s.Noting (s.deactivate st k) := of_talkOp (State.deactivate_talkOp st k) s
  refine talkEvent ?_
  cases down with
  | true => exact s.keyDown_cases st k (of_board rfl) (fun _ => of_board rfl) (fun f => (activate s st k).trans (of_board rfl)) hdeactivate
  | false => exact s.keyUp_cases st k (of_board rfl) (fun _ => of_board rfl) hdeactivate

end Keys

/-! ## The judgement of a frame (R119 to R121) -/

theorem frameFieldsOk_tally {i : Nat} (hi : i < 2) (b1 b2 : Byte) : frameFieldsOk i b1 b2 = true ↔ b1.toNat ≤ 64 ∧ b2.toNat ≤ 3 := by
  rw [frameFieldsOk, if_neg (by omega), decide_eq_true_iff]

theorem frameFieldsOk_panel (b1 b2 : Byte) : frameFieldsOk 2 b1 b2 = true ↔
    (b1.toNat ≤ 15 ∨ b1 = 0x7F#8) ∧ (b2.toNat ≤ 11 ∨ (128 ≤ b2.toNat ∧ b2.toNat ≤ 139)) := decide_eq_true_iff

/-- A line's record after a good frame (R119, R122). -/
def Line.heard (t : Line) (now : Time) : Line :=
  { t with
    good := satInc t.good, lastGood := now, staleTimer := some { start := now, len := t.staleTime }, clearTimer := none
    state := .active, held := if t.state = .active then t.held else false, edition := if t.state = .active then t.edition else t.edition + 1 }

/-- A good frame on line i, whose record was t: a rewrite where the line was not ACTIVE (R119, R122). -/
def State.heardLine (s : State) (i : Nat) (t : Line) : State := { s with
  lines := { s.lines with recs := put s.lines.recs i (t.heard s.board.time), edition := if t.state = .active then s.lines.edition else s.lines.edition + 1 }
  board := s.board.note (if t.state = .active then [] else [.line]) }

section Frames

variable {s : State} {i : Nat} {t : Line}

theorem State.heardLine_line_same (hi : i < 3) : (s.heardLine i t).line i = t.heard s.board.time := look_put_same _ _ _ hi

theorem State.heardLine_line_ne {j : Nat} (h : i ≠ j) : (s.heardLine i t).line j = s.line j := look_put_ne _ _ _ _ h

theorem State.goodFrame_eq (hi : i < 3) : (s.withLine i t).goodFrame i = s.heardLine i t := by
  rw [State.goodFrame, State.touchLine_withLine hi, State.withLine_line_same s hi]
  by_cases hactive : t.state = .active
  · rw [if_pos hactive, State.heardLine, if_pos hactive, if_pos hactive, Line.heard, if_pos hactive, if_pos hactive, ← hactive]
    rfl
  · rw [if_neg hactive, State.rewriteLine_eq, State.withLine_line_same s hi, State.heardLine, if_neg hactive, if_neg hactive, Line.heard, if_neg hactive,
      if_neg hactive, State.wroteLine, State.withLine_line_same s hi, State.withLine, put_put]
    rfl

/-- A frame error is counted, and no more (R119). -/
theorem State.judgeFrame_error (hi : i < 3) {b1 b2 check : Byte} (h : ¬(check = lineCheck b1 b2 ∧ frameFieldsOk i b1 b2 = true)) :
    (s.withLine i t).judgeFrame i b1 b2 check = s.withLine i { t with frameErrors := satInc t.frameErrors } := by
  rw [State.judgeFrame, if_neg h, State.touchLine_withLine hi]

/-- A good frame is heard and handed on (R119). -/
theorem State.judgeFrame_good (hi : i < 3) {b1 b2 : Byte} (h : frameFieldsOk i b1 b2 = true) :
    (s.withLine i t).judgeFrame i b1 b2 (lineCheck b1 b2) = (s.heardLine i t).handFrame i b1 b2 := by
  rw [State.judgeFrame, if_pos ⟨rfl, h⟩, State.goodFrame_eq hi]

theorem State.lineByte_withLine (hi : i < 3) (hon : t.enable = true) (b : Byte) :
    (s.withLine i t).lineByte i b = (s.withLine i t.readied).goodByte i b := by
  rw [State.lineByte_enabled _ (by rw [State.withLine_line_same s hi, hon]), State.withLine_line_same s hi, State.withLine_withLine]

/-- A line's record between frames, ready for a start bit. -/
def Line.between (r : Line) : Line := { r with decoder := .hunt, rx := Receiver.ready }

/-- A line's record in a frame, ready for a start bit. -/
def Line.within (r : Line) (bs : List Byte) : Line := { r with decoder := .collecting bs, rx := Receiver.ready }

theorem State.lineByte_within (hi : i < 3) (hon : t.enable = true) {bs : List Byte} (hcollecting : t.decoder = .collecting bs) (hbs : bs.length < 2)
    (b : Byte) : (s.withLine i t).lineByte i b = s.withLine i (t.within (bs ++ [b])) := by
  rw [State.lineByte_withLine hi hon, State.goodByte_collected (t := t.readied) hi hcollecting hbs]
  rfl

/-- The three bytes after the marker are judged as one frame (R119). -/
theorem State.lineBytes_frame (hi : i < 3) (hon : t.enable = true) (hcollecting : t.decoder = .collecting []) (b1 b2 check : Byte) :
    (s.withLine i t).lineBytes i [b1, b2, check] = (s.withLine i t.between).judgeFrame i b1 b2 check := by
  have hfirst : (s.withLine i t).lineByte i b1 = s.withLine i (t.within [b1]) := State.lineByte_within hi hon hcollecting (by decide) b1
  have hsecond : (s.withLine i (t.within [b1])).lineByte i b2 = s.withLine i (t.within [b1, b2]) :=
    State.lineByte_within (t := t.within [b1]) hi hon rfl (Nat.lt_succ_self 1) b2
  have hthird : (s.withLine i (t.within [b1, b2])).lineByte i check = (s.withLine i t.between).judgeFrame i b1 b2 check :=
    (State.lineByte_withLine (t := t.within [b1, b2]) hi hon check).trans (State.goodByte_judged (t := (t.within [b1, b2]).readied) hi rfl check)
  rw [State.lineBytes, List.foldl_cons, List.foldl_cons, List.foldl_cons, List.foldl_nil, hfirst, hsecond, hthird]

/-- A frame on a line whose decoder hunts, or has just taken the marker, is judged (R119). -/
theorem State.frameBytes_judged (hi : i < 3) (hon : (s.line i).enable = true)
    (hdecoder : (s.line i).decoder = .hunt ∨ (s.line i).decoder = .collecting []) (b1 b2 check : Byte) :
    s.frameBytes i b1 b2 check = (s.withLine i (s.line i).between).judgeFrame i b1 b2 check := by
  obtain hhunt | hcollecting := hdecoder
  · have hmarker : s.lineByte i (lineMarker i) = s.withLine i ((s.line i).within []) := by
      rw [s.lineByte_enabled hon, State.goodByte_marker (t := (s.line i).readied) hi hhunt]
      rfl
    rw [State.frameBytes, hhunt]
    show (s.lineByte i (lineMarker i)).lineBytes i [b1, b2, check] = _
    rw [hmarker]
    exact State.lineBytes_frame (t := (s.line i).within []) hi hon rfl b1 b2 check
  · have hframe := s.lineBytes_frame (t := s.line i) hi hon hcollecting b1 b2 check
    rw [State.withLine_self] at hframe
    rw [State.frameBytes, hcollecting]
    exact hframe

/-- A frame that meets a decoder in COLLECTING is its bytes (R119). -/
theorem State.frameBytes_collecting {bs : List Byte} (hcollecting : (s.line i).decoder = .collecting bs) (b1 b2 check : Byte) :
    s.frameBytes i b1 b2 check = ((s.lineByte i b1).lineByte i b2).lineByte i check := by
  rw [State.frameBytes, hcollecting]
  rfl

theorem exec_frameError (hi : i < 3) (hready : s.board.ready = true) (b1 b2 check : Byte) :
    exec (.frameError i b1 b2 check) s = .next (s.frameBytes i b1 b2 check) := by
  show execFrameError i b1 b2 check s = _
  rw [execFrameError, if_pos hi, State.onEvent, if_pos hready]

theorem exec_tallyFrame (hi : i < 2) (hready : s.board.ready = true) (source level : Byte) :
    exec (.tallyFrame i source level) s = .next (s.frameBytes i source level (lineCheck source level)) := by
  show execTallyFrame i source level s = _
  rw [execTallyFrame, if_pos hi, State.onEvent, if_pos hready]

theorem exec_panelFrame (hready : s.board.ready = true) (station key : Byte) :
    exec (.panelFrame station key) s = .next (s.frameBytes 2 station key (lineCheck station key)) := by
  show execPanelFrame station key s = _
  rw [execPanelFrame, State.onEvent, if_pos hready]

end Frames

/-! ## A byte keeps the part initialised -/

section Ready

variable (s : State) (i : Nat)

theorem State.Noting.handFrame (b1 b2 : Byte) : s.Noting (s.handFrame i b1 b2) := by
  unfold State.handFrame
  split
  · split
    · exact keyEvent s _ _ _
    · exact of_board rfl
  · split
    · exact of_board rfl
    · rw [State.writeSource_eq]
      split
      · exact of_board rfl
      · exact ⟨[.tally], rfl⟩

theorem State.Noting.goodFrame : s.Noting (s.goodFrame i) := by
  unfold State.goodFrame
  split
  · exact of_board rfl
  · exact ⟨[.line], rfl⟩

theorem State.Noting.judgeFrame (b1 b2 check : Byte) : s.Noting (s.judgeFrame i b1 b2 check) := by
  unfold State.judgeFrame
  split
  · exact (goodFrame s i).trans (handFrame _ i b1 b2)
  · exact of_board rfl

theorem State.Noting.lineByte (b : Byte) : s.Noting (s.lineByte i b) := by
  have hgood (t : State) : t.Noting (t.goodByte i b) := by
    unfold State.goodByte
    split
    · split <;> exact of_board rfl
    · exact .trans (of_board rfl) (judgeFrame _ i _ _ b)
    · exact of_board rfl
  unfold State.lineByte
  split
  · exact .trans (of_board rfl) (hgood _)
  · exact of_board rfl

end Ready

/-! ## A tally frame's level (R120, R126) -/

section Tally

variable (s : State) {line source : Nat}

theorem State.writeSource_sources (hplace : sourcePlace line source < 128) (t : Tally) (k : Nat) :
    look (s.writeSource line source t).tally.sources k = if k = sourcePlace line source then t else look s.tally.sources k := by
  rw [State.writeSource_eq]
  by_cases hk : k = sourcePlace line source
  · rw [if_pos hk, hk]
    split
    · next hsame => exact hsame
    · rw [State.withSources_sources, look_put_same _ _ _ hplace]
  · rw [if_neg hk]
    split
    · rfl
    · rw [State.withSources_sources, look_put_ne _ _ _ _ (Ne.symm hk)]

/-- A level written touches the resolver, and notes EVENTS.TALLY where it changes the entry (R126). -/
theorem State.writeSource_blocks (line source : Nat) (t : Tally) : ∃ tally, s.writeSource line source t = { s with
    tally, board := s.board.note (if look s.tally.sources (sourcePlace line source) = t then [] else [.tally]) } ∧
      tally.edition = if look s.tally.sources (sourcePlace line source) = t then s.tally.edition else s.tally.edition + 1 := by
  rw [State.writeSource_eq]
  by_cases hsame : look s.tally.sources (sourcePlace line source) = t
  · rw [if_pos hsame, if_pos hsame]
    exact ⟨s.tally, rfl, (if_pos hsame).symm⟩
  · rw [if_neg hsame, if_neg hsame]
    exact ⟨_, rfl, (if_neg hsame).symm⟩

/-- A changed level sets EVENTS.TALLY (R126). -/
theorem State.writeSource_noted {t : Tally} (hchanged : look s.tally.sources (sourcePlace line source) ≠ t) :
    (s.writeSource line source t).board.events.getLsbD 4 = true := by
  rw [State.writeSource_eq, if_neg hchanged]
  exact s.board.note_event (e := .tally) (List.mem_singleton_self _)

/-- A changed level reaches the pending tally of the bound links that name the source (R126, R130). -/
theorem State.writeSource_pending {t : Tally} (hchanged : look s.tally.sources (sourcePlace line source) ≠ t) {l : Nat} (hl : l < 32)
    (hbound : (s.link l).state ≠ .vacant) (hnames : (line, source) ∈ (s.link l).sources) : ((s.writeSource line source t).linkTally l).pending =
      (s.writeSource line source t).pendingFor (s.linkTally l).override (s.link l).sources := by
  rw [State.writeSource_eq, if_neg hchanged, State.withSources_linkTally _ _ _ hl, if_pos ⟨hbound, List.contains_iff_mem.mpr hnames⟩]

end Tally

/-- A good tally frame: the line is heard, and its level written where it names a source (R120, R126). -/
theorem State.frameBytes_tally {i : Nat} {s : State} (hi : i < 2) (hon : (s.line i).enable = true)
    (hdecoder : (s.line i).decoder = .hunt ∨ (s.line i).decoder = .collecting []) {source level : Byte} (hsource : source.toNat ≤ 64) (hlevel : level.toNat ≤ 3) :
    s.frameBytes i source level (lineCheck source level) = if source = 0 then s.heardLine i (s.line i).between
      else (s.heardLine i (s.line i).between).writeSource i source.toNat (levelOfByte level) := by
  have hi3 : i < 3 := Nat.lt_succ_of_lt hi
  rw [State.frameBytes_judged hi3 hon hdecoder, State.judgeFrame_good hi3 ((frameFieldsOk_tally hi _ _).mpr ⟨hsource, hlevel⟩), State.handFrame,
    if_neg (by omega)]

/-- A good panel frame: the line is heard, and the key event acts unless the frame is a keepalive (R121, R156). -/
theorem State.frameBytes_panel {s : State} (hon : (s.line 2).enable = true) (hdecoder : (s.line 2).decoder = .hunt ∨ (s.line 2).decoder = .collecting [])
    {station key : Byte} (hstation : station.toNat ≤ 15 ∨ station = 0x7F#8) (hkey : key.toNat ≤ 11 ∨ (128 ≤ key.toNat ∧ key.toNat ≤ 139)) :
    s.frameBytes 2 station key (lineCheck station key) = if station = 0x7F#8 then s.heardLine 2 (s.line 2).between
      else (s.heardLine 2 (s.line 2).between).keyEvent station.toNat (if 128 ≤ key.toNat then key.toNat - 128 else key.toNat)
        (decide (128 ≤ key.toNat)) := by
  have hnumber : key.toNat % 128 = if 128 ≤ key.toNat then key.toNat - 128 else key.toNat := by
    split <;> omega
  have hkeepalive : station.toNat ≤ 15 ↔ ¬station = 0x7F#8 := by
    refine ⟨fun hle h => ?_, fun h => hstation.resolve_right h⟩
    rw [h] at hle
    exact absurd hle (by decide)
  rw [State.frameBytes_judged (by decide) hon hdecoder, State.judgeFrame_good (by decide) ((frameFieldsOk_panel _ _).mpr ⟨hstation, hkey⟩),
    State.handFrame, if_pos rfl, hnumber]
  simp only [hkeepalive, ite_not]

/-- Settles O46: a frame is judged after its third byte, a good one is heard and handed on, and a byte keeps the part initialised. -/
theorem tallyAndPanelFrames : Obligations.TallyAndPanelFrames := by
  unfold Obligations.TallyAndPanelFrames
  refine ⟨?_, ?_, ?_, ?_⟩
  · intro s i src lev check hi hready hon hdecoder r place level
    have hi3 : i < 3 := Nat.lt_succ_of_lt hi
    refine ⟨fun hbad => ?_, ?_, fun hsrc hlev => ?_⟩
    · rw [exec_frameError hi3 hready, State.frameBytes_judged hi3 hon hdecoder, State.judgeFrame_error hi3]
      · rfl
      · rw [frameFieldsOk_tally hi]
        rintro ⟨hcheck, hsrc, hlev⟩
        obtain h | h | h := hbad
        · exact h hcheck
        · omega
        · omega
    · rw [exec_tallyFrame hi hready, exec_frameError hi3 hready]
      rfl
    · have hlevel : levelOfByte lev = level := by
        show (tallyOf lev.toNat).getD .off = level
        obtain h | h | h | h : lev.toNat = 0 ∨ lev.toNat = 1 ∨ lev.toNat = 2 ∨ lev.toNat = 3 := by omega
        all_goals
          simp only [level, h]
          rfl
      rw [exec_tallyFrame hi hready, State.frameBytes_tally hi hon hdecoder hsrc hlev, hlevel]
      by_cases hzero : src = 0
      · rw [if_pos hzero]
        exact ⟨_, rfl, State.heardLine_line_same hi3, fun _ => rfl, fun h => absurd hzero h, fun j _ hj => State.heardLine_line_ne hj.symm,
          rfl, rfl, rfl, rfl, rfl, rfl, rfl, rfl, rfl, rfl⟩
      · rw [if_neg hzero]
        have hpositive : src.toNat ≠ 0 := fun h => hzero (BitVec.eq_of_toNat_eq h)
        have hplace : sourcePlace i src.toNat < 128 := by
          rw [sourcePlace]
          omega
        have hsources := State.writeSource_sources (s.heardLine i (s.line i).between) hplace level
        have hnoted := @State.writeSource_noted (s.heardLine i (s.line i).between) i src.toNat level
        have hpending := @State.writeSource_pending (s.heardLine i (s.line i).between) i src.toNat level
        obtain ⟨tally, hwritten, hedition⟩ := State.writeSource_blocks (s.heardLine i (s.line i).between) i src.toNat level
        rw [hwritten] at hsources hnoted hpending ⊢
        exact ⟨_, rfl, State.heardLine_line_same hi3, fun h => absurd h hzero, fun _ => ⟨fun k _ => hsources k, hedition, fun hchanged =>
          ⟨hnoted hchanged, fun l hl hbound hnames => hpending hchanged hl hbound hnames⟩⟩,
          fun j _ hj => State.heardLine_line_ne hj.symm, rfl, rfl, rfl, rfl, rfl, rfl, rfl, rfl, rfl, rfl⟩
  · intro s station key check hready hon hdecoder r
    refine ⟨fun hbad => ?_, ?_⟩
    · rw [exec_frameError (by decide) hready, State.frameBytes_judged (by decide) hon hdecoder, State.judgeFrame_error (by decide)]
      · rfl
      · rw [frameFieldsOk_panel]
        rintro ⟨hcheck, hstation, hkey⟩
        obtain h | ⟨h, hno⟩ | h | h := hbad
        · exact h hcheck
        · exact hstation.elim (by omega) hno
        · omega
        · omega
    · rw [exec_panelFrame hready, exec_frameError (by decide) hready]
      rfl
  · intro s i b1 b2 check bs hi hready hcollecting
    have hready1 : (s.lineByte i b1).board.ready = true := (State.Noting.lineByte s i b1).ready.trans hready
    have hready2 : ((s.lineByte i b1).lineByte i b2).board.ready = true := (State.Noting.lineByte _ i b2).ready.trans hready1
    exact ⟨_, _, _, exec_discardedByte hi hready b1, exec_discardedByte hi hready1 b2, exec_discardedByte hi hready2 check,
      (exec_frameError hi hready b1 b2 check).trans (congrArg _ (State.frameBytes_collecting hcollecting b1 b2 check))⟩
  · intro s station key hready hon hdecoder hstation hkey r line heard
    rw [exec_panelFrame hready, State.frameBytes_panel hon hdecoder hstation hkey]
    rfl

end Sys2Proof.Machine
end

section
/-! SUPPORT and the proof on SET_LINE (R115, R116, R124). -/

namespace Sys2Proof.Machine

/-! ## The fields of a SET_LINE (R115, R195) -/

theorem parityOf_eq (v : Nat) : parityOf v = if 2 < v then none else some (if v = 0 then .none else if v = 1 then .even else .odd) := by
  match v with
  | 0 | 1 | 2 => rfl
  | v + 3 => simp [parityOf]

theorem filterOf_eq (v : Nat) : filterOf v = if 2 < v then none else some (if v = 0 then .off else if v = 1 then .short else .long) := by
  match v with
  | 0 | 1 | 2 => rfl
  | v + 3 => simp [filterOf]

/-- The fields of the SET_LINE in slot n, as they are read where it is not refused (R115). -/
def State.lineRead (s : State) (n : Nat) : LineFields :=
  { enable := decide (s.param n 5 = 1), rate := s.param n 6
    parity := if s.param n 7 = 0 then .none else if s.param n 7 = 1 then .even else .odd
    stopBits := s.param n 8
    filter := if s.param n 9 = 0 then .off else if s.param n 9 = 1 then .short else .long
    staleTime := clampTo 100 10000 (s.param n 10), staleClear := clampTo 1000 600000 (s.param32 n 11) }

/-- A field of the SET_LINE in slot n lies outside its values (R115). -/
def State.LineRefused (s : State) (n : Nat) : Prop :=
  2 < s.param n 4 ∨ 1 < s.param n 5 ∨ 4 < s.param n 6 ∨ 2 < s.param n 7 ∨ s.param n 8 = 0 ∨ 2 < s.param n 8 ∨ 2 < s.param n 9

theorem State.lineFields_refused {s : State} {n : Nat} (h : s.LineRefused n) : s.lineFields n = none := by
  simp only [State.lineFields, parityOf_eq, filterOf_eq, bind_ite_none]
  split
  · rfl
  · split
    · rfl
    · rw [State.LineRefused] at h
      rw [if_pos (by omega)]

theorem State.lineFields_read {s : State} {n : Nat} (h : ¬s.LineRefused n) : s.lineFields n = some (s.lineRead n) := by
  rw [State.LineRefused] at h
  simp only [State.lineFields, parityOf_eq, filterOf_eq, bind_ite_none]
  rw [if_neg (by omega), if_neg (by omega), if_neg (by omega)]
  rfl

/-! ## The record a SET_LINE leaves (R115, R116) -/

/-- A line's record with the enable and the times of a SET_LINE. -/
def Line.timed (r : Line) (f : LineFields) : Line := { r with enable := f.enable, staleTime := f.staleTime.value, staleClear := f.staleClear.value }

/-- The serial settings of a SET_LINE written into a line's record. -/
def Line.serial (r : Line) (f : LineFields) : Line := { r with rate := f.rate, parity := f.parity, stopBits := f.stopBits, filter := f.filter }

section Configured

variable {r : Line} {f : LineFields}

theorem Line.configured_stays_on (hon : r.enable = true) (hf : f.enable = true) : r.configured f = r.timed f := by
  simp [Line.configured, Line.timed, hon, hf]

theorem Line.configured_switched_off (hon : r.enable = true) (hf : f.enable = false) : r.configured f = (r.timed f).disabled := by
  simp [Line.configured, Line.timed, hon, hf]

theorem Line.configured_off (hoff : r.enable = false) :
    r.configured f = if f.enable then ((r.timed f).serial f).enabled else (r.timed f).serial f := by
  simp [Line.configured, Line.timed, Line.serial, hoff]

/-- A line switched off has another record. -/
theorem Line.configured_ne (hon : r.enable = true) (hf : f.enable = false) : r.configured f ≠ r := by
  intro h
  have henable := congrArg Line.enable h
  rw [Line.configured_switched_off hon hf, hon] at henable
  exact absurd (henable.symm.trans hf) (by decide)

end Configured

/-! ## SET_LINE at its take (R115, R116) -/

/-- The result code of an accepted SET_LINE (R115). -/
def State.lineResult (s : State) (n : Nat) (f : LineFields) : Result :=
  if (s.line (s.param n 4)).enable = true ∧ (s.line (s.param n 4)).serialDiffers f = true then .lineActive
  else okOrClamped (f.staleTime.was || f.staleClear.was)

section Taken

variable {s : State} {n : Nat} {f : LineFields}

theorem State.doSetLine_refused (h : s.lineFields n = none) : (s.dropAttention.setSlot n .taken).doSetLine n = s.answered n .badField [] := by
  rw [← State.complete_taken, State.doSetLine, show (s.dropAttention.setSlot n .taken).lineFields n = none from h]

theorem State.doSetLine_read (h : s.lineFields n = some f) : (s.dropAttention.setSlot n .taken).doSetLine n =
    ((s.dropAttention.setSlot n .taken).configureLine (s.param n 4) f).complete n (s.lineResult n f) := by
  rw [State.doSetLine, show (s.dropAttention.setSlot n .taken).lineFields n = some f from h]
  rfl

/-- A line that is not switched off: its record is rewritten where it changes (R114, R115). -/
theorem State.doSetLine_written (h : s.lineFields n = some f) (hstays : (s.line (s.param n 4)).enable = true → f.enable = true) :
    (s.dropAttention.setSlot n .taken).doSetLine n = if (s.line (s.param n 4)).configured f = s.line (s.param n 4)
      then s.answered n (s.lineResult n f) []
      else (s.wroteLine (s.param n 4) ((s.line (s.param n 4)).configured f)).answered n (s.lineResult n f) [] := by
  have hnotOff : ¬((s.line (s.param n 4)).enable = true ∧ (!f.enable) = true) := by
    rintro ⟨hon, hf⟩
    rw [hstays hon] at hf
    exact absurd hf (by decide)
  rw [State.doSetLine_read h, State.configureLine, ← State.complete_taken, ← State.complete_taken]
  refine (congrArg (fun t : State => t.complete n (s.lineResult n f)) (if_neg hnotOff)).trans ?_
  exact apply_ite (fun t : State => t.complete n (s.lineResult n f)) _ _ _

/-- A line that is switched off: its record is rewritten, and the other blocks learn of it (R116). -/
theorem State.doSetLine_switched_off (h : s.lineFields n = some f) (hon : (s.line (s.param n 4)).enable = true) (hf : f.enable = false) :
    (s.dropAttention.setSlot n .taken).doSetLine n =
      (((s.dropAttention.setSlot n .taken).wroteLine (s.param n 4) ((s.line (s.param n 4)).timed f).disabled).lineDisabled (s.param n 4)).complete n
        (s.lineResult n f) := by
  rw [State.doSetLine_read h, State.configureLine, ← Line.configured_switched_off hon hf]
  refine congrArg (fun t : State => t.complete n (s.lineResult n f)) ((if_pos ⟨hon, by rw [hf]; rfl⟩).trans ?_)
  exact congrArg (fun t : State => t.lineDisabled (s.param n 4)) (if_neg (Line.configured_ne hon hf))

end Taken

/-! ## A line switched off (R116, R124) -/

/-- A request completed over events noted: its slot, its code, and the events. -/
theorem State.complete_noted (s : State) {n : Nat} (hn : n < 32) (r : Result) : ∃ board, s.complete n r = { s with board } ∧
    look board.slots n = .done ∧ board.events = (s.board.note [.board]).events ∧
    (s.board.body.wf = true → board.body.read (slotAddr n 3) = resultNat r.ctorIdx) := by
  rw [State.complete_eq]
  exact ⟨_, rfl, look_put_same _ _ _ hn, rfl, fun hwf =>
    (Memory.read_write_same s.board.body (slotAddr n 3) (resultNat r.ctorIdx) hwf :)⟩

/-- The notice that a line was disabled touches the resolver, or talkback and the matrix line, and notes events. -/
theorem State.lineDisabled_blocks (s : State) {i : Nat} (hi : i < 3) : ∃ es tally talk matrix,
    s.lineDisabled i = { s with tally, talk, matrix, board := s.board.note es } ∧
      (i < 2 → talk = s.talk ∧ matrix = s.matrix) ∧ (i = 2 → tally = s.tally) := by
  by_cases hpanel : i = 2
  · obtain ⟨es, talk, matrix, hnotes⟩ := s.releaseNotice_notes
    exact ⟨es, s.tally, talk, matrix, by rw [State.lineDisabled, if_pos hpanel, hnotes]; rfl, fun h => absurd hpanel (by omega), fun _ => rfl⟩
  · obtain ⟨tally, hclear, -⟩ := s.clearTable_blocks (line := i) (by omega)
    exact ⟨_, tally, s.talk, s.matrix, by rw [State.lineDisabled, if_neg hpanel, hclear], fun _ => ⟨rfl, rfl⟩, fun h => absurd h hpanel⟩

section Disabled

variable (s : State) {i : Nat}

theorem State.lineDisabled_sources (hi : i < 2) {k : Nat} (hk : k < 128) :
    look (s.lineDisabled i).tally.sources k = if k / 64 = i then .off else look s.tally.sources k := by
  rw [State.lineDisabled, if_neg (by omega)]
  exact s.clearTable_sources hi hk

/-- A tally line switched off with an entry that was not OFF reaches the bound links that name it (R127, R130). -/
theorem State.lineDisabled_pending (hi : i < 2) {l : Nat} (hl : l < 32) (hbound : (s.link l).state ≠ .vacant) (hnames : ∃ x ∈ (s.link l).sources, x.1 = i)
    (hentry : ∃ k < 128, k / 64 = i ∧ look s.tally.sources k ≠ .off) : ((s.lineDisabled i).linkTally l).pending =
      (s.lineDisabled i).pendingFor (s.linkTally l).override (s.link l).sources := by
  have hblank : s.tally.blank i = false := by
    obtain ⟨k, hk, hki, hoff⟩ := hentry
    exact Bool.eq_false_iff.mpr fun h => hoff ((Resolver.blank_eq_true_iff _ hi).mp h k hk hki)
  have hany : (s.link l).sources.any (fun x => decide (x.1 = i)) = true := by
    obtain ⟨x, hx, hxi⟩ := hnames
    exact List.any_eq_true.mpr ⟨x, hx, decide_eq_true hxi⟩
  rw [State.lineDisabled, if_neg (by omega), State.clearTable_linkTally s hi hl, if_pos ⟨hblank, hbound, hany⟩]

theorem State.lineDisabled_deactivated : s.Deactivated (s.lineDisabled 2) s.heldKeys := s.releaseNotice_deactivated

end Disabled

/-- Settles O44: by whether the line is switched off; then the resolver or talkback learns of it. -/
theorem setLineConfiguresOneLine : Obligations.SetLineConfiguresOneLine := by
  unfold Obligations.SetLineConfiguresOneLine
  intro n s hn htakes p i r clear bad parity filter on timed code differs wrote
  have hexec : exec (.setLine n) s = .next ((s.dropAttention.setSlot n .taken).doSetLine n).settle := s.request_taken n 20 _ hn htakes
  have hread (h : ¬bad) : s.lineFields n = some (s.lineRead n) := State.lineFields_read h
  have hwrote (t : Line) (x : Result) : wrote t x = .next (State.settle (if t = r then s.answered n x [] else (s.wroteLine i t).answered n x [])) := rfl
  have htimed : r.timed (s.lineRead n) = timed := by
    simp only [Line.timed, State.lineRead, clampTo_eq (show (100 : Nat) ≤ 10000 by decide), clampTo_eq (show (1000 : Nat) ≤ 600000 by decide)]
    rfl
  have hcode : okOrClamped ((s.lineRead n).staleTime.was || (s.lineRead n).staleClear.was) = code := by
    simp only [State.lineRead, clampTo_eq (show (100 : Nat) ≤ 10000 by decide), clampTo_eq (show (1000 : Nat) ≤ 600000 by decide), okOrClamped,
      Bool.or_eq_true, decide_eq_true_eq, or_assoc]
    rfl
  have hresult (hon : r.enable = true) : s.lineResult n (s.lineRead n) = if differs then .lineActive else code := by
    rw [State.lineResult, hcode]
    exact if_congr ((and_iff_right hon).trans decide_eq_true_iff) rfl rfl
  have hresultOff (hoff : r.enable = false) : s.lineResult n (s.lineRead n) = code := by
    rw [State.lineResult, hcode]
    exact if_neg fun h => absurd (hoff.symm.trans h.1) (by decide)
  refine ⟨fun hbad => ?_, fun hok hron hfon => ?_, fun hok hroff => ?_, fun hok hron hfoff => ?_⟩
  · rw [hexec, State.doSetLine_refused (State.lineFields_refused hbad)]
  · rw [hexec, State.doSetLine_written (hread hok) fun _ => hfon, Line.configured_stays_on hron hfon, hresult hron, hwrote]
    rw [show (s.line (s.param n 4)).timed (s.lineRead n) = timed from htimed]
  · rw [hexec, State.doSetLine_written (hread hok) fun h => absurd (hroff.symm.trans h) (by decide), Line.configured_off hroff, hresultOff hroff, hwrote]
    rw [show (s.line (s.param n 4)).timed (s.lineRead n) = timed from htimed]
    rfl
  · have hi : i < 3 := Nat.lt_succ_of_le (Nat.le_of_not_lt fun h => hok (.inl h))
    rw [hexec, State.doSetLine_switched_off (hread hok) hron hfoff, show (s.line (s.param n 4)).timed (s.lineRead n) = timed from htimed, hresult hron]
    set t := (s.dropAttention.setSlot n .taken).wroteLine (s.param n 4) timed.disabled with ht
    obtain ⟨es, tally, talk, matrix, hblocks, hquiet, hkept⟩ := t.lineDisabled_blocks hi
    obtain ⟨board, hcomplete, hdone, hevents, hresultWord⟩ := (t.lineDisabled i).complete_noted hn (if differs then .lineActive else code)
    have hsources (h : i < 2) {k : Nat} (hk : k < 128) := t.lineDisabled_sources h hk
    have hpending (h : i < 2) {l : Nat} (hl : l < 32) := t.lineDisabled_pending h hl
    have hdeactivated (h : i = 2) : s.Deactivated { t.lineDisabled i with board } s.heldKeys := by
      rw [h]
      exact t.lineDisabled_deactivated.congr rfl rfl rfl rfl rfl rfl
    have hnoted : board.events.getLsbD 6 = true := by
      rw [hevents, hblocks, ht]
      show (((s.board.holding n).note [.line]).note es |>.note [.board]).events.getLsbD 6 = true
      rw [Board.note_note, Board.note_note]
      exact Board.note_event (e := .line) _ List.mem_cons_self
    rw [hcomplete]
    rw [hblocks] at hsources hpending hdeactivated hresultWord ⊢
    exact ⟨_, rfl, State.wroteLine_line_same _ hi _, fun j _ hj => State.wroteLine_line_ne _ hj.symm _, rfl, hnoted, hdone, fun htables => hresultWord htables.1,
      fun h => ⟨fun k hk => hsources h hk, (hquiet h).1, (hquiet h).2, fun l hl hbound hnames hentry => hpending h hl hbound hnames hentry⟩,
      fun h => ⟨hkept h, hdeactivated h⟩, rfl, rfl, rfl, rfl, rfl, rfl, rfl⟩

end Sys2Proof.Machine
end

section
/-! SUPPORT and the proof on SET_TALLY_SOURCES and SET_TALLY_OVERRIDE (R129 to R132): the pending tally, and the two requests at their take. -/

namespace Sys2Proof.Machine

/-! ## The pending tally (R129) -/

theorem Tally.max_eq (x y : Tally) : x.max y = if x.ctorIdx < y.ctorIdx then y else x := rfl

/-- The highest of a level and those of a list: none is above it, and it is one of them. -/
theorem Tally.foldl_max {α : Type} (level : α → Tally) (xs : List α) (low : Tally) :
    let high := xs.foldl (fun m x => m.max (level x)) low
    low.ctorIdx ≤ high.ctorIdx ∧ (∀ x ∈ xs, (level x).ctorIdx ≤ high.ctorIdx) ∧ (high = low ∨ ∃ x ∈ xs, level x = high) := by
  induction xs generalizing low with
  | nil => exact ⟨le_rfl, fun x hx => absurd hx List.not_mem_nil, .inl rfl⟩
  | cons x xs ih =>
    obtain ⟨habove, hall, hone⟩ := ih (low.max (level x))
    rw [List.foldl_cons]
    have hmax : low.ctorIdx ≤ (low.max (level x)).ctorIdx ∧ (level x).ctorIdx ≤ (low.max (level x)).ctorIdx ∧
        (low.max (level x) = low ∨ low.max (level x) = level x) := by
      rw [Tally.max_eq]
      split
      · next h => exact ⟨h.le, le_rfl, .inr rfl⟩
      · next h => exact ⟨le_rfl, Nat.le_of_not_lt h, .inl rfl⟩
    obtain ⟨hlow, hx, hcases⟩ := hmax
    refine ⟨hlow.trans habove, fun y hy => ?_, ?_⟩
    · obtain rfl | hy := List.mem_cons.mp hy
      · exact hx.trans habove
      · exact hall y hy
    · obtain hhigh | ⟨y, hy, hhigh⟩ := hone
      · obtain h | h := hcases
        · exact .inl (hhigh.trans h)
        · exact .inr ⟨x, List.mem_cons_self, (hhigh.trans h).symm⟩
      · exact .inr ⟨y, List.mem_cons_of_mem x hy, hhigh⟩

/-- The level that an override forces, by the override's number (R129, R192). -/
theorem Override.level_eq (o : Override) : o.level = if o.ctorIdx = 1 then some .off else if o.ctorIdx = 2 then some .iso
    else if o.ctorIdx = 3 then some .preview else if o.ctorIdx = 4 then some .program else Option.none := by
  cases o <;> rfl

section Pending

variable (s : State) (sources : List (Nat × Nat))

theorem State.pendingFor_forced {o : Override} {t : Tally} (h : o.level = some t) : s.pendingFor o sources = t := by
  rw [State.pendingFor, h]

/-- Without an override the pending tally is the highest of the sources' levels, and OFF with none (R129). -/
theorem State.pendingFor_highest :
    (∀ x ∈ sources, (look s.tally.sources (sourcePlace x.1 x.2)).ctorIdx ≤ (s.pendingFor .none sources).ctorIdx) ∧
      (s.pendingFor .none sources = .off ∨ ∃ x ∈ sources, look s.tally.sources (sourcePlace x.1 x.2) = s.pendingFor .none sources) :=
  (Tally.foldl_max (fun x : Nat × Nat => look s.tally.sources (sourcePlace x.1 x.2)) sources .off).2

/-- What the resolver holds for link l, with an override and the pending tally it gives over a source list (R129, R130). -/
def State.resolving (l : Nat) (o : Override) : Resolver :=
  { s.tally with links := put s.tally.links l { s.linkTally l with override := o, pending := s.pendingFor o sources } }

end Pending

/-! ## The two requests at their take (R131, R132) -/

/-- The overrides by number (R192). -/
theorem overrideOf_none {v : Nat} (h : 4 < v) : overrideOf v = none := List.getElem?_eq_none h

theorem overrideOf_some {v : Nat} (h : v ≤ 4) : ∃ o : Override, overrideOf v = some o ∧ o.ctorIdx = v := by
  match v with
  | 0 | 1 | 2 | 3 | 4 => exact ⟨_, rfl, rfl⟩

section Taken

variable {s : State} {n l : Nat} {sources : List (Nat × Nat)}

/-- A source list taken: a change is a rewrite of the link record, and the pending tally goes by the list (R131). -/
theorem State.writeSources_eq (hl : l < 32) : s.writeSources l sources = { s with
    tally := s.resolving sources l (s.linkTally l).override
    links := if (s.link l).sources = sources then s.links
      else { s.links with
        recs := put s.links.recs l { s.link l with sources := sources, edition := (s.link l).edition + 1 }, edition := s.links.edition + 1 }
    board := s.board.note (if (s.link l).sources = sources then [] else [.link]) } := by
  rw [State.writeSources]
  by_cases hsame : (s.link l).sources = sources
  · subst hsame
    simp only [if_true]
    rfl
  · simp only [if_neg hsame]
    have hsources : ((s.rewriteLink l fun r => { r with sources := sources }).link l).sources = sources :=
      congrArg LinkRec.sources (State.rewriteLink_link_same (s := s) (fun r => { r with sources := sources }) hl)
    rw [State.recomputePending, hsources]
    rfl

/-- An override held, and the pending tally it gives (R132). -/
theorem State.setOverride_eq (hl : l < 32) (o : Override) : (s.setLinkTally l fun t => { t with override := o }).recomputePending l =
    { s with tally := s.resolving (s.link l).sources l o } := by
  simp only [State.recomputePending, State.setLinkTally, adjust, put_put, look_put_same _ _ _ hl]
  rfl

/-- What the resolver then holds for the link. -/
theorem State.resolving_linkTally (hl : l < 32) (o : Override) : look (s.resolving sources l o).links l =
    { s.linkTally l with override := o, pending := s.pendingFor o sources } := look_put_same _ _ _ hl

/-- Taking a slot leaves the source lists that the slots' words give. -/
theorem State.taken_sourceList (m w count : Nat) : (s.dropAttention.setSlot n .taken).sourceList m w count = s.sourceList m w count := rfl

/-- A source list taken leaves the applied tallies (R131). -/
theorem State.writeSources_applied (m : Nat) : ((s.writeSources l sources).link m).applied = (s.link m).applied := by
  rw [State.writeSources]
  split
  · rfl
  · exact look_adjust_field LinkRec.applied s.links.recs l m fun _ => rfl

/-- A source list taken keeps the take of the slot. -/
theorem State.writeSources_taken : (s.dropAttention.setSlot n .taken).writeSources l sources =
    (s.writeSources l sources).dropAttention.setSlot n .taken := by
  have hsame : (s.dropAttention.setSlot n .taken).link l = s.link l := rfl
  rw [State.writeSources, State.writeSources, hsame]
  split <;> rfl

/-- A SET_TALLY_SOURCES whose fields are refused (R131). -/
theorem State.doSetTallySources_badField (h : s.sourceList n 6 (s.param n 5) = none ∨ 31 < s.param n 4) :
    (s.dropAttention.setSlot n .taken).doSetTallySources n = s.answered n .badField (sourcesWords none none) := by
  rw [← State.complete_taken, State.doSetTallySources, State.taken_sourceList, State.taken_param s n n 5]
  cases hlist : s.sourceList n 6 (s.param n 5) with
  | none => rfl
  | some sources => exact if_pos (h.resolve_left (by simp [hlist]))

theorem State.doSetTallySources_notBound (hlist : s.sourceList n 6 (s.param n 5) = some sources) (hl : ¬31 < s.param n 4)
    (hvacant : (s.link (s.param n 4)).state = .vacant) :
    (s.dropAttention.setSlot n .taken).doSetTallySources n = s.answered n .notBound (sourcesWords none none) := by
  rw [← State.complete_taken, State.doSetTallySources, State.taken_sourceList, State.taken_param s n n 5, hlist]
  exact (if_neg hl).trans (if_pos hvacant)

theorem State.doSetTallySources_ok (hlist : s.sourceList n 6 (s.param n 5) = some sources) (hl : ¬31 < s.param n 4)
    (hbound : (s.link (s.param n 4)).state ≠ .vacant) :
    (s.dropAttention.setSlot n .taken).doSetTallySources n = (s.writeSources (s.param n 4) sources).answered n .ok
      (sourcesWords (some (s.pendingFor (s.linkTally (s.param n 4)).override sources)) (some (s.link (s.param n 4)).applied)) := by
  have hlt : s.param n 4 < 32 := by omega
  set u := s.writeSources (s.param n 4) sources with hu
  have hpending : (u.linkTally (s.param n 4)).pending = s.pendingFor (s.linkTally (s.param n 4)).override sources := by
    rw [hu, State.writeSources_eq hlt]
    exact congrArg LinkTally.pending (State.resolving_linkTally hlt _)
  have happlied : (u.link (s.param n 4)).applied = (s.link (s.param n 4)).applied := State.writeSources_applied _
  rw [← hpending, ← happlied, ← State.complete_taken, State.doSetTallySources, State.taken_sourceList, State.taken_param s n n 5, hlist]
  refine ((if_neg hl).trans (if_neg hbound)).trans ?_
  dsimp only
  rw [State.taken_param, State.writeSources_taken]
  rfl

/-- A SET_TALLY_OVERRIDE whose fields are refused (R132). -/
theorem State.doSetTallyOverride_badField (h : 4 < s.param n 5 ∨ 31 < s.param n 4) :
    (s.dropAttention.setSlot n .taken).doSetTallyOverride n = s.answered n .badField (overrideWords none none none) := by
  rw [← State.complete_taken, State.doSetTallyOverride, State.taken_param, State.taken_param]
  cases ho : overrideOf (s.param n 5) with
  | none => rfl
  | some o => exact if_pos (h.resolve_left fun hhigh => by simp [overrideOf_none hhigh] at ho)

variable {o : Override}

theorem State.doSetTallyOverride_notBound (ho : overrideOf (s.param n 5) = some o) (hl : s.param n 4 ≤ 31)
    (hvacant : (s.link (s.param n 4)).state = .vacant) :
    (s.dropAttention.setSlot n .taken).doSetTallyOverride n = s.answered n .notBound (overrideWords none none none) := by
  rw [← State.complete_taken, State.doSetTallyOverride, State.taken_param, State.taken_param, ho]
  exact (if_neg (Nat.not_lt.mpr hl)).trans (if_pos hvacant)

theorem State.doSetTallyOverride_ok (ho : overrideOf (s.param n 5) = some o) (hl : s.param n 4 ≤ 31)
    (hbound : (s.link (s.param n 4)).state ≠ .vacant) :
    let r := s.link (s.param n 4)
    (s.dropAttention.setSlot n .taken).doSetTallyOverride n =
      ({ s with tally := s.resolving r.sources (s.param n 4) o } : State).answered n .ok
        (overrideWords (some (s.linkTally (s.param n 4)).override) (some (s.pendingFor o r.sources)) (some r.applied)) := by
  intro r
  have hlt : s.param n 4 < 32 := Nat.lt_succ_of_le hl
  have hpending : (look (s.resolving r.sources (s.param n 4) o).links (s.param n 4)).pending = s.pendingFor o r.sources :=
    congrArg LinkTally.pending (State.resolving_linkTally hlt o)
  rw [← hpending, ← State.complete_taken, State.doSetTallyOverride, State.taken_param, State.taken_param, ho]
  refine ((if_neg (Nat.not_lt.mpr hl)).trans (if_neg hbound)).trans ?_
  dsimp only
  rw [State.setOverride_eq hlt]
  rfl

end Taken

/-- Settles O48: each request by its checks; an accepted one leaves the pending tally of its override and source list. -/
theorem tallyRequestsSetThePendingTally : Obligations.TallyRequestsSetThePendingTally := by
  unfold Obligations.TallyRequestsSetThePendingTally
  intro n s hn p l r source sources bad held forced refuse none2 none3 written
  have hforced (o : Override) : forced o.ctorIdx = o.level := o.level_eq.symm
  have hexec {c : Instr} {kind : Nat} {h : State → Nat → State} {u : State} (hc : exec c s = s.request n kind h)
      (htakes : s.takesNext n kind = true) (hu : h (s.dropAttention.setSlot n .taken) n = u) : exec c s = .next u.settle := by
    rw [hc, s.request_taken n kind h hn htakes, hu]
  refine ⟨fun htakes => ?_, fun htakes => ?_⟩
  · have hread (h : ¬bad) : s.sourceList n 6 (p 5) = some sources := by
      rw [s.sourceList_eq]
      exact if_neg fun hfields => h (hfields.elim .inl fun hwords => .inr (.inl hwords))
    refine ⟨fun hbad => hexec rfl htakes (State.doSetTallySources_badField ?_), fun hok hvacant => ?_, fun hok hbound => ?_⟩
    · obtain hcount | hwords | hl := hbad
      · exact .inl ((s.sourceList_eq n 6 (p 5)).trans (if_pos (.inl hcount)))
      · exact .inl ((s.sourceList_eq n 6 (p 5)).trans (if_pos (.inr hwords)))
      · exact .inr hl
    · exact hexec rfl htakes (State.doSetTallySources_notBound (hread hok) (fun hl => hok (.inr (.inr hl))) hvacant)
    · have hl : ¬31 < l := fun hl => hok (.inr (.inr hl))
      refine ⟨s.pendingFor (s.linkTally l).override sources, fun hnone => hnone ▸ s.pendingFor_highest sources,
        fun f hf => s.pendingFor_forced sources ((hforced _).symm.trans hf), hexec rfl htakes ?_⟩
      rw [State.doSetTallySources_ok (hread hok) hl hbound, State.writeSources_eq (Nat.lt_succ_of_le (Nat.le_of_not_lt hl))]
      rfl
  · refine ⟨fun hbad => hexec rfl htakes (State.doSetTallyOverride_badField hbad), fun hp hl hvacant => ?_, fun hp hl hbound => ?_⟩
    · obtain ⟨o, ho, -⟩ := overrideOf_some hp
      exact hexec rfl htakes (State.doSetTallyOverride_notBound ho hl hvacant)
    · obtain ⟨o, ho, hnumber⟩ := overrideOf_some hp
      refine ⟨o, s.pendingFor o r.sources, hnumber, fun f hf => s.pendingFor_forced r.sources ?_, fun hzero => ?_,
        hexec rfl htakes (State.doSetTallyOverride_ok ho hl hbound)⟩
      · rw [← hforced, hnumber, hf]
      · obtain rfl : o = .none := by
          rw [← hnumber] at hzero
          cases o with
          | none => rfl
          | forceOff | forceIso | forcePreview | forceProgram => exact absurd hzero (by decide)
        exact s.pendingFor_highest r.sources

end Sys2Proof.Machine
end

section
/-! SUPPORT on a change of applied tally as it is handed on (R98, R110, R137, R138, R144, R173): what it may touch, a move in HELD that it lets go, and its exact effects where no move of the link is in HELD. -/

namespace Sys2Proof.Machine

/-! ## The parts of a hand-over (R137) -/

/-- Link l's move is retuning on its way to a new code (R110). -/
def State.onItsWay (s : State) (l : Nat) : Bool :=
  match s.ctxOf l with
  | none => false
  | some c => decide ((s.ctx c).phase = .tuneFar ∨ (s.ctx c).phase = .tuneLocal ∨ (s.ctx c).phase = .confirm)

/-- Link l's change of applied tally is a retune on air (R110). -/
def State.retunesOnAir (s : State) (l : Nat) : Bool := decide ((s.link l).applied = .program) && s.onItsWay l

/-- Link l's change of applied tally makes an IDLE head tally WAITING (R138). -/
def State.headStirs (s : State) (l : Nat) : Bool := decide ((s.link l).kind = .camera ∧ (s.linkTally l).head = .idle)

/-- The duck ramp told of link l's change of applied tally from `old` (R173). -/
def State.rampTold (s : State) (l : Nat) (old : Tally) : State :=
  if (s.link l).kind = .iem ∧ decide (old = .program) ≠ decide ((s.link l).applied = .program) then s.duckRecompute l else s

/-- The head tally told of link l's change of applied tally (R138). -/
def State.headTold (s : State) (l : Nat) : State := if (s.link l).kind = .camera then s.headChange l else s

/-- A link's record with its two flags raised, each a rewrite where it was clear (R110, R138). -/
def LinkRec.flagged (r : LinkRec) (onAir head : Bool) : LinkRec :=
  { r with
    retunedOnAir := r.retunedOnAir || onAir, headPending := r.headPending || head
    edition := r.edition + BitVec.ofNat 16 ((if onAir && !r.retunedOnAir then 1 else 0) + if head && !r.headPending then 1 else 0) }

theorem LinkRec.flagged_false (r : LinkRec) : r.flagged false false = r := by
  simp [LinkRec.flagged]

theorem LinkRec.flagged_onAir (r : LinkRec) :
    r.flagged true false = if r.retunedOnAir then r else { r with retunedOnAir := true, edition := r.edition + 1 } := by
  cases hair : r.retunedOnAir with
  | true =>
    simp only [LinkRec.flagged, hair, Bool.or_false, Bool.true_or, Bool.and_false, Bool.not_true, Bool.false_and, Bool.false_eq_true, if_false,
      if_true, Nat.add_zero, BitVec.add_zero]
    rw [← hair]
  | false => simp [LinkRec.flagged, hair]

theorem LinkRec.flagged_head (r : LinkRec) :
    r.flagged false true = if r.headPending then r else { r with headPending := true, edition := r.edition + 1 } := by
  cases hflag : r.headPending with
  | true =>
    simp only [LinkRec.flagged, hflag, Bool.or_false, Bool.true_or, Bool.and_false, Bool.not_true, Bool.false_and, Bool.false_eq_true, if_false,
      if_true, Nat.add_zero, BitVec.add_zero]
    rw [← hflag]
  | false => simp [LinkRec.flagged, hflag]

/-- The two flags, raised one after the other. -/
theorem LinkRec.flagged_flagged (r : LinkRec) (onAir head : Bool) : (r.flagged onAir false).flagged false head = r.flagged onAir head := by
  simp only [LinkRec.flagged, Bool.or_false, Bool.false_and, Bool.false_eq_true, if_false, Nat.add_zero, Nat.zero_add, BitVec.add_assoc,
    BitVec.ofNat_add]

section Parts

variable (s : State) {l m c : Nat} {old : Tally}

theorem State.handTally_eq (l : Nat) (old : Tally) :
    s.handTally l old = (((s.lampLevelChange l).moveTally l).rampTold l old).headTold l := by
  set t := (s.lampLevelChange l).moveTally l
  have hlink : (t.rampTold l old).link l = t.link l := by
    unfold State.rampTold
    split <;> rfl
  rw [State.headTold, hlink]
  rfl

variable {s}

/-- The conditions of R98 are tested for a move in HELD (R98). -/
theorem State.moveTally_held (hctx : s.ctxOf l = some c) (hheld : (s.ctx c).phase = .held) : s.moveTally l = s.heldTest c := by
  rw [State.moveTally, hctx]
  simp only [hheld]

/-- A move out of HELD records a retune on air, or nothing (R110). -/
theorem State.moveTally_still (hstill : ∀ c, s.ctxOf l = some c → (s.ctx c).phase ≠ .held) :
    s.moveTally l = if s.retunesOnAir l then s.setRetuned l else s := by
  rw [State.moveTally, State.retunesOnAir, State.onItsWay]
  cases hctx : s.ctxOf l with
  | none => simp
  | some c =>
    cases hphase : (s.ctx c).phase with
    | held => exact absurd hphase (hstill c hctx)
    | tuneFar | tuneLocal | confirm => simp [hphase]
    | free | seeking | muting | revertFar | revertLocal | revertConfirm | unmuting => simp [hphase]

end Parts

/-! ## What a hand-over may touch -/

/-- The changes of the links of a list are handed on from s to u: what it may touch, and what it leaves of the other links and moves (R98, R110, R137, R138). -/
structure State.HandedOn (s u : State) (ls : List Nat) : Prop where
  blocks : ∃ es bus probe links moves talk matrix lamps held, u = { s with
    board := s.board.note es, bus, probe, links, moves, talk, matrix, lamps, tally := { s.tally with links := held } }
  links : ∀ m ∉ ls, u.link m = s.link m
  applied : ∀ m, (u.link m).applied = (s.link m).applied
  resolver : ∀ m, (u.linkTally m).pending = (s.linkTally m).pending ∧ (u.linkTally m).override = (s.linkTally m).override
  ctxs : ∀ d, (s.ctx d).link ∉ ls → u.ctx d = s.ctx d
  ctxOf : ∀ m, u.ctxOf m = s.ctxOf m

namespace State.HandedOn

variable {s t u : State} {ks ls : List Nat} {l c : Nat}

theorem refl (s : State) (ls : List Nat) : s.HandedOn s ls :=
  ⟨⟨[], _, _, _, _, _, _, _, _, rfl⟩, fun _ _ => rfl, fun _ => rfl, fun _ => ⟨rfl, rfl⟩, fun _ _ => rfl, fun _ => rfl⟩

/-- One hand-over after another. -/
theorem append (h : s.HandedOn t ks) (h' : t.HandedOn u ls) : s.HandedOn u (ks ++ ls) := by
  refine ⟨?_, fun m hm => ?_, fun m => (h'.applied m).trans (h.applied m), fun m => ?_, fun d hd => ?_, fun m => (h'.ctxOf m).trans (h.ctxOf m)⟩
  · obtain ⟨es, _, _, _, _, _, _, _, _, rfl⟩ := h.blocks
    obtain ⟨fs, _, _, _, _, _, _, _, _, rfl⟩ := h'.blocks
    exact ⟨es ++ fs, _, _, _, _, _, _, _, _, by rw [Board.note_note]⟩
  · rw [List.mem_append, not_or] at hm
    exact (h'.links m hm.2).trans (h.links m hm.1)
  · exact ⟨(h'.resolver m).1.trans (h.resolver m).1, (h'.resolver m).2.trans (h.resolver m).2⟩
  · rw [List.mem_append, not_or] at hd
    have hkept := h.ctxs d hd.1
    exact (h'.ctxs d (hkept.symm ▸ hd.2)).trans hkept

/-- Parts of one link's hand-over, one after the other. -/
theorem trans (h : s.HandedOn t [l]) (h' : t.HandedOn u [l]) : s.HandedOn u [l] := by
  have happend := h.append h'
  have hmem {m : Nat} (hm : m ∉ [l]) : m ∉ [l] ++ [l] := by simpa using hm
  exact { happend with links := fun m hm => happend.links m (hmem hm), ctxs := fun d hd => happend.ctxs d (hmem hd) }

/-- A part that leaves the moves and the resolver. -/
theorem of_moves_tally (hblocks : s.MovesOnly u) (hmoves : u.moves = s.moves) (hlinks : ∀ m, l ≠ m → u.link m = s.link m)
    (happlied : ∀ m, (u.link m).applied = (s.link m).applied) : s.HandedOn u [l] := by
  refine ⟨?_, fun m hm => hlinks m fun h => hm (List.mem_singleton.mpr h.symm), happlied, fun m => ?_,
    fun d _ => congrArg (fun v : Moves => look v.ctxs d) hmoves, fun m => State.ctxOf_congr hmoves⟩
  · obtain ⟨es, _, _, _, _, _, _, _, h⟩ := hblocks
    exact ⟨es, _, _, _, _, _, _, _, s.tally.links, h⟩
  · obtain ⟨_, _, _, _, _, _, _, _, rfl⟩ := hblocks
    exact ⟨rfl, rfl⟩

theorem lampLevelChange (s : State) (l : Nat) : s.HandedOn (s.lampLevelChange l) [l] := by
  rw [State.lampLevelChange_eq]
  exact of_moves_tally ⟨[], _, _, _, _, _, _, _, rfl⟩ rfl (fun _ _ => rfl) fun _ => rfl

theorem setRetuned (s : State) (l : Nat) : s.HandedOn (s.setRetuned l) [l] := by
  refine of_moves_tally (MovesOnly.setRetuned s l) State.setRetuned_moves (fun m hm => State.setRetuned_link_ne hm) fun m => ?_
  unfold State.setRetuned
  split
  · rfl
  · exact look_adjust_field LinkRec.applied _ _ _ fun _ => rfl

theorem rampTold (s : State) (l : Nat) (old : Tally) : s.HandedOn (s.rampTold l old) [l] := by
  unfold State.rampTold
  split
  · exact of_moves_tally ⟨[], _, _, _, _, _, _, _, rfl⟩ rfl (fun _ _ => rfl) fun _ => rfl
  · exact refl s [l]

theorem withHead (s : State) (l : Nat) (h : Head) : s.HandedOn (s.withHead l h) [l] := by
  refine ⟨⟨[], _, _, _, _, _, _, _, _, rfl⟩, fun _ _ => rfl, fun _ => rfl, fun m => ⟨?_, ?_⟩, fun _ _ => rfl, fun _ => rfl⟩
  · exact look_adjust_field LinkTally.pending s.tally.links l m (f := fun t => { t with head := h }) fun _ => rfl
  · exact look_adjust_field LinkTally.override s.tally.links l m (f := fun t => { t with head := h }) fun _ => rfl

theorem headTold (s : State) (l : Nat) : s.HandedOn (s.headTold l) [l] := by
  unfold State.headTold State.headChange
  split
  · split
    · by_cases hflag : (s.link l).headPending = decide (Head.waiting ≠ .idle)
      · rw [State.setHead_kept s l hflag]
        exact withHead s l .waiting
      · rw [State.setHead_changed s l hflag]
        refine (withHead s l .waiting).trans (of_moves_tally ⟨[.link], _, _, _, _, _, _, _, rfl⟩ rfl (fun m hm => ?_) fun m => ?_)
        · exact look_put_ne _ _ _ _ hm
        · exact look_adjust_field LinkRec.applied s.links.recs l m
            (f := fun r => { r with headPending := decide (Head.waiting ≠ .idle), edition := r.edition + 1 }) fun _ => rfl
    · exact refl s [l]
  · exact refl s [l]

end State.HandedOn

/-! ## A move that the change lets go (R98) -/

section Held

variable {s t : State} {c l m : Nat}

theorem State.enterTuneFar_link_applied : ((s.enterTuneFar c).link m).applied = (s.link m).applied := by
  unfold State.enterTuneFar
  dsimp only
  split
  · exact (State.HandedOn.setRetuned _ _).applied m
  · rfl

theorem State.linkCore_link_applied {f : LinkRec → LinkRec} (hf : ∀ r, (f r).applied = r.applied) :
    ((s.linkCore l f).link m).applied = (s.link m).applied := by
  rw [State.link, (State.linkCore_links_moves f).1]
  refine look_adjust_field LinkRec.applied _ _ _ fun r => ?_
  show (f r).trimTimers.applied = r.applied
  rw [LinkRec.trimTimers_eq]
  exact hf r

/-- A move that leaves HELD leaves the applied tallies (R98). -/
theorem State.leaveHeld_link_applied : ((s.leaveHeld c).link m).applied = (s.link m).applied := by
  by_cases hkind : (s.link (s.ctx c).link).kind = .camera
  · rw [State.leaveHeld_camera hkind, State.link, State.updateAutoHold_links]
    refine State.enterTuneFar_link_applied.trans ?_
    exact State.linkCore_link_applied (f := fun r => { r with state := .moving, retunedOnAir := false }) fun _ => rfl
  · rw [State.leaveHeld_other hkind, State.link, State.updateAutoHold_links]
    refine (State.linkCore_link_applied (s := s.dropUnmute (s.ctx c).link)
      (f := fun r => { r with state := .moving, retunedOnAir := false, mutePending := false }) fun _ => rfl).trans ?_
    exact look_adjust_field LinkRec.applied _ _ _ fun _ => rfl

/-- Contexts that stay in use on their links stay their links' contexts (R94). -/
theorem State.ctxOf_eq_of_used (h : ∀ d < 4, ((t.ctx d).phase = .free ↔ (s.ctx d).phase = .free) ∧ (t.ctx d).link = (s.ctx d).link) (m : Nat) :
    t.ctxOf m = s.ctxOf m := by
  refine congrArg List.head? (List.filter_congr fun d hd => ?_)
  obtain ⟨hphase, hlink⟩ := h d (List.mem_range.mp hd)
  simp only [hlink, ne_eq, hphase]

/-- What the test of R98 may touch, for a move in HELD of link l. -/
theorem State.HandedOn.heldTest (hc : c < 4) (hlink : (s.ctx c).link = l) (hl : l < 32) (hheld : (s.ctx c).phase = .held) :
    s.HandedOn (s.heldTest c) [l] := by
  unfold State.heldTest
  split
  · obtain ⟨p, o, hleft, hother, hcamera⟩ := s.leaveHeld_leftHeld hc (hlink.symm ▸ hl)
    have hused : p ≠ .free := by
      by_cases hkind : (s.link (s.ctx c).link).kind = .camera
      · rw [(hcamera hkind).1]
        decide
      · rw [(hother hkind).1]
        decide
    obtain ⟨es, bus, probe, links, moves, talk, matrix, lamps, hblocks⟩ := State.MovesOnly.leaveHeld s c
    have htally : (s.leaveHeld c).tally = s.tally := by rw [hblocks]
    refine ⟨⟨es, bus, probe, links, moves, talk, matrix, lamps, s.tally.links, hblocks⟩, fun m hm => ?_, fun m => State.leaveHeld_link_applied,
      fun m => ?_, fun d hd => ?_, State.ctxOf_eq_of_used fun d _ => ?_⟩
    · exact hleft.links m fun h => hm (List.mem_singleton.mpr (h.symm.trans hlink))
    · rw [State.linkTally, htally]
      exact ⟨rfl, rfl⟩
    · exact hleft.ctxs d fun h => hd (List.mem_singleton.mpr (h ▸ hlink))
    · by_cases hd : c = d
      · subst hd
        rw [hleft.ctx]
        exact ⟨iff_of_false hused (by rw [hheld]; decide), rfl⟩
      · rw [hleft.ctxs d hd]
        exact ⟨Iff.rfl, rfl⟩
  · exact .refl s [l]

/-- What the move controller may touch as it is told of link l's change (R98, R110). -/
theorem State.HandedOn.moveTally (s : State) {l : Nat} (hl : l < 32) : s.HandedOn (s.moveTally l) [l] := by
  by_cases hheld : ∃ c, s.ctxOf l = some c ∧ (s.ctx c).phase = .held
  · obtain ⟨c, hctx, hphase⟩ := hheld
    rw [State.moveTally_held hctx hphase]
    exact .heldTest (State.ctxOf_lt hctx) (State.ctx_link_of_ctxOf hctx) hl hphase
  · rw [State.moveTally_still fun c hctx hphase => hheld ⟨c, hctx, hphase⟩]
    split
    · exact .setRetuned s l
    · exact .refl s [l]

/-- What one link's hand-over may touch (R137). -/
theorem State.HandedOn.handTally (s : State) {l : Nat} (hl : l < 32) (old : Tally) : s.HandedOn (s.handTally l old) [l] := by
  rw [State.handTally_eq]
  exact (((State.HandedOn.lampLevelChange s l).trans (.moveTally _ hl)).trans (.rampTold _ l old)).trans (.headTold _ l)

/-- What the hand-over of several links' changes may touch (R137). -/
theorem State.HandedOn.foldl (old : Nat → Tally) {ls : List Nat} (hls : ∀ l ∈ ls, l < 32) (s : State) :
    s.HandedOn (ls.foldl (fun t l => t.handTally l (old l)) s) ls := by
  induction ls generalizing s with
  | nil => exact .refl s []
  | cons l ls ih =>
    exact (State.HandedOn.handTally s (hls l List.mem_cons_self) (old l)).append (ih (fun m hm => hls m (List.mem_cons_of_mem l hm)) _)

/-- A move's context c and its link l after the move was let go, or not (R98, R101, R102). -/
def State.LetGo (s u : State) (c l : Nat) (goes : Prop) : Prop :=
  (¬goes → u.ctx c = s.ctx c ∧ (u.link l).state = (s.link l).state) ∧
  (goes → (u.link l).state = .moving ∧ ∃ p o,
    u.ctx c = { s.ctx c with phase := p, holdTimer := none, offer := some o, edition := (s.ctx c).edition + 1 } ∧
    ((s.link l).kind ≠ .camera → p = .muting ∧ o = .muteLocal (s.link l).channel true) ∧
    ((s.link l).kind = .camera → p = .tuneFar ∧ o = .tuneFar (s.link l).channel (s.ctx c).targetCodeD))

/-- The duck ramp and the head tally leave the moves and the links' states. -/
theorem State.rampTold_headTold_keeps (s : State) (l : Nat) (old : Tally) : ((s.rampTold l old).headTold l).moves = s.moves ∧
    ∀ m, (((s.rampTold l old).headTold l).link m).state = (s.link m).state := by
  have hramp : (s.rampTold l old).moves = s.moves ∧ (s.rampTold l old).links = s.links := by
    unfold State.rampTold
    split <;> exact ⟨rfl, rfl⟩
  have hhead (t : State) : (t.headTold l).moves = t.moves ∧ ∀ m, ((t.headTold l).link m).state = (t.link m).state := by
    unfold State.headTold State.headChange State.setHead
    dsimp only
    split
    · split
      · split
        · exact ⟨rfl, fun _ => rfl⟩
        · exact ⟨rfl, fun m => look_adjust_field LinkRec.state _ _ _ fun _ => rfl⟩
      · exact ⟨rfl, fun _ => rfl⟩
    · exact ⟨rfl, fun _ => rfl⟩
  refine ⟨(hhead _).1.trans hramp.1, fun m => ((hhead _).2 m).trans ?_⟩
  rw [State.link, hramp.2, State.link]

/-- The hand-over of link l's change lets its move in HELD go where the conditions of R98 hold. -/
theorem State.handTally_letGo (hl : l < 32) (hctx : s.ctxOf l = some c) (hheld : (s.ctx c).phase = .held) (old : Tally) :
    s.LetGo (s.handTally l old) c l (s.releasable c = true) := by
  set t := s.lampLevelChange l with ht
  have hlamps := State.lampLevelChange_eq s l
  have hlink : (t.ctx c).link = l := by
    rw [ht, hlamps]
    exact State.ctx_link_of_ctxOf hctx
  have hrecord : t.link l = s.link l := by rw [ht, hlamps]; rfl
  have hown : t.ctx c = s.ctx c := by rw [ht, hlamps]; rfl
  have hreleasable : t.releasable c = s.releasable c := by rw [ht, hlamps]; rfl
  have hmoved : t.moveTally l = t.heldTest c := State.moveTally_held (by rw [ht, hlamps]; exact hctx) (by rw [hown]; exact hheld)
  obtain ⟨hmoves, hstates⟩ := State.rampTold_headTold_keeps (t.heldTest c) l old
  rw [State.handTally_eq, ← ht, hmoved, State.LetGo, hstates l, State.ctx, hmoves, ← hrecord, ← hreleasable, ← hown, State.heldTest]
  refine ⟨fun h => ?_, fun h => ?_⟩
  · rw [if_neg h]
    exact ⟨rfl, rfl⟩
  · obtain ⟨p, o, hleft, hother, hcamera⟩ := t.leaveHeld_leftHeld (State.ctxOf_lt hctx) (hlink.symm ▸ hl)
    rw [hlink] at hleft hother hcamera
    rw [if_pos h]
    exact ⟨hleft.state, p, o, hleft.ctx, hother, hcamera⟩

/-- Among the hand-overs of several links' changes, link l's lets its move in HELD go where the conditions of R98 hold. -/
theorem State.foldl_handTally_letGo (old : Nat → Tally) {ls : List Nat} (hls : ∀ l ∈ ls, l < 32) (hnodup : ls.Nodup)
    (hctx : s.ctxOf l = some c) (hheld : (s.ctx c).phase = .held) :
    s.LetGo (ls.foldl (fun t l => t.handTally l (old l)) s) c l (l ∈ ls ∧ s.releasable c = true) := by
  have hown : (s.ctx c).link = l := State.ctx_link_of_ctxOf hctx
  by_cases hmem : l ∈ ls
  · obtain ⟨as, bs, rfl⟩ := List.append_of_mem hmem
    have hapart := List.nodup_middle.mp hnodup
    rw [List.nodup_cons, List.mem_append, not_or] at hapart
    obtain ⟨⟨has, hbs⟩, -⟩ := hapart
    have hbefore := State.HandedOn.foldl old (fun m hm => hls m (List.mem_append_left _ hm)) s (ls := as)
    rw [List.foldl_append, List.foldl_cons]
    set t := as.foldl (fun t l => t.handTally l (old l)) s
    have hafter := State.HandedOn.foldl old (fun m hm => hls m (List.mem_append_right _ (List.mem_cons_of_mem l hm))) (t.handTally l (old l)) (ls := bs)
    have hcontext : t.ctx c = s.ctx c := hbefore.ctxs c (hown.symm ▸ has)
    have hrecord : t.link l = s.link l := hbefore.links l has
    have hreleasable : t.releasable c = s.releasable c := by
      rw [State.releasable, hcontext, hown, hrecord, State.releasable, hown]
    obtain ⟨hstays, hgoes⟩ := State.handTally_letGo (hls l hmem) ((hbefore.ctxOf l).trans hctx) (by rw [hcontext]; exact hheld) (old l)
    rw [hcontext, hrecord, hreleasable] at hstays hgoes
    have hkept (hlink : ((t.handTally l (old l)).ctx c).link = l) := hafter.ctxs c (hlink.symm ▸ hbs)
    refine ⟨fun h => ?_, fun h => ?_⟩
    · obtain ⟨hc, hstate⟩ := hstays fun hr => h ⟨hmem, hr⟩
      rw [hkept (by rw [hc]; exact hown), hafter.links l hbs]
      exact ⟨hc, hstate⟩
    · obtain ⟨hstate, p, o, hc, hkinds⟩ := hgoes h.2
      rw [hkept (by rw [hc]; exact hown), hafter.links l hbs]
      exact ⟨hstate, p, o, hc, hkinds⟩
  · have hall := State.HandedOn.foldl old hls s
    refine ⟨fun _ => ⟨hall.ctxs c (hown.symm ▸ hmem), ?_⟩, fun h => absurd h.1 hmem⟩
    rw [hall.links l hmem]

end Held

end Sys2Proof.Machine
end

section
/-! SUPPORT on a change of applied tally where no move of its link is in HELD (R110, R137, R138, R144, R173): the link's record, its head tally, its duck ramp and the lamps, one link and then several. -/

namespace Sys2Proof.Machine

/-! ## The lamps told of several links (R144) -/

/-- The lamp driver told that link l's level has changed, its record being r (R144). -/
def Lamps.levelled (p : Lamps) (l : Nat) (r : LinkRec) (now : Time) : Lamps :=
  (p.naming l).foldl (fun ls n => ls.event n fun p => p.levelChange r
    (some { start := now, len := p.fadeN * Config.fadeUnitMs }) (some { start := now, len := Config.blinkMs })) p

/-- The lamps take the new level of a link by its supervision state and applied tally (R144, R148). -/
theorem Lamp.levelChange_congr {r q : LinkRec} (hstate : q.state = r.state) (happlied : q.applied = r.applied) (p : Lamp) (a b : Option Timer) :
    p.levelChange q a b = p.levelChange r a b := by
  have htarget : p.targetFor q = p.targetFor r := by simp only [Lamp.targetFor, LinkRec.level, hstate, happlied]
  have halarms (p : Lamp) : p.alarms q = p.alarms r := by simp only [Lamp.alarms, hstate, happlied]
  simp only [Lamp.levelChange, htarget, halarms]

theorem Lamps.levelled_congr {r q : LinkRec} (hstate : q.state = r.state) (happlied : q.applied = r.applied) (p : Lamps) (l : Nat) (now : Time) :
    p.levelled l q now = p.levelled l r now := by
  simp only [Lamps.levelled, Lamp.levelChange_congr hstate happlied]

theorem State.foldl_lampLevelChange (ls : List Nat) (s : State) : ls.foldl State.lampLevelChange s =
    { s with lamps := ls.foldl (fun p l => p.levelled l (s.link l) s.now) s.lamps } := by
  induction ls generalizing s with
  | nil => rfl
  | cons l ls ih =>
    rw [List.foldl_cons, State.lampLevelChange_eq, ih]
    rfl

/-! ## The parts, exactly -/

section Parts

variable {s : State} {l m : Nat}

/-- A retune on air recorded, or not (R110). -/
theorem State.setRetuned_when (hl : l < 32) (onAir : Bool) : ∃ es links, (if onAir then s.setRetuned l else s) = { s with
    links, board := s.board.note es } ∧ look links.recs l = (s.link l).flagged onAir false ∧ ∀ m, m ≠ l → look links.recs m = s.link m := by
  cases onAir with
  | false => exact ⟨[], s.links, rfl, (LinkRec.flagged_false _).symm, fun _ _ => rfl⟩
  | true =>
    rw [if_pos rfl, State.setRetuned, LinkRec.flagged_onAir]
    cases (s.link l).retunedOnAir with
    | true => exact ⟨[], s.links, rfl, rfl, fun _ _ => rfl⟩
    | false => exact ⟨[.link], _, rfl, look_adjust_same _ _ _ hl, fun m hm => look_adjust_ne _ _ _ _ hm.symm⟩

/-- The head tally of a CAMERA link goes from IDLE to WAITING, HEAD_TALLY_PENDING with it (R138). -/
theorem State.headTold_eq (hl : l < 32) : ∃ es links held, s.headTold l = { s with
      links, board := s.board.note es, tally := { s.tally with links := held } } ∧
    look links.recs l = (s.link l).flagged false (s.headStirs l) ∧ (∀ m, m ≠ l → look links.recs m = s.link m) ∧
    look held l = (if s.headStirs l then { s.linkTally l with head := .waiting } else s.linkTally l) ∧
    ∀ m, m ≠ l → look held m = s.linkTally m := by
  by_cases hstirs : (s.link l).kind = .camera ∧ (s.linkTally l).head = .idle
  · have hbool : s.headStirs l = true := decide_eq_true hstirs
    have htold : s.headTold l = s.setHead l .waiting := (if_pos hstirs.1).trans (if_pos hstirs.2)
    rw [htold, hbool, if_pos rfl, LinkRec.flagged_head]
    have hsame : look (put s.tally.links l { s.linkTally l with head := .waiting }) l = { s.linkTally l with head := .waiting } :=
      look_put_same _ _ _ hl
    cases hflag : (s.link l).headPending with
    | true =>
      rw [State.setHead_kept (h := .waiting) s l hflag]
      exact ⟨[], s.links, _, rfl, rfl, fun _ _ => rfl, hsame, fun m hm => look_put_ne _ _ _ _ hm.symm⟩
    | false =>
      rw [State.setHead_changed s l (by rw [hflag]; decide)]
      exact ⟨[.link], _, _, rfl, look_put_same _ _ _ hl, fun m hm => look_put_ne _ _ _ _ hm.symm, hsame,
        fun m hm => look_put_ne _ _ _ _ hm.symm⟩
  · have hbool : s.headStirs l = false := decide_eq_false hstirs
    have htold : s.headTold l = s := by
      unfold State.headTold State.headChange
      split
      · next hkind => exact if_neg fun hidle => hstirs ⟨hkind, hidle⟩
      · rfl
    rw [htold, hbool, LinkRec.flagged_false]
    exact ⟨[], s.links, s.tally.links, rfl, rfl, fun _ _ => rfl, rfl, fun _ _ => rfl⟩

/-- Link l's destination record after its change of applied tally from `old` (R173). -/
def State.rampedDest (s : State) (l : Nat) (old : Tally) : Dest :=
  if (s.link l).kind = .iem ∧ decide (old = .program) ≠ decide ((s.link l).applied = .program)
  then (s.dest l).recompute (s.link l).applied (s.timer Config.rampMs) else s.dest l

theorem State.rampTold_eq (hl : l < 32) (old : Tally) : ∃ talk, s.rampTold l old = { s with talk } ∧
    look talk.dests l = s.rampedDest l old ∧ ∀ m, m ≠ l → look talk.dests m = s.dest m := by
  unfold State.rampTold State.rampedDest
  split
  · exact ⟨_, rfl, look_adjust_same _ _ _ hl, fun m hm => look_adjust_ne _ _ _ _ hm.symm⟩
  · exact ⟨s.talk, rfl, rfl, fun _ _ => rfl⟩

end Parts

/-! ## A hand-over with no move in HELD -/

/-- What hand-overs of the links of a list leave where no move is in HELD: the moves, the probe, the bus, the matrix line, and the other links. -/
structure State.Beside (s u : State) (ls : List Nat) : Prop where
  moves : u.moves = s.moves
  probe : u.probe = s.probe
  bus : u.bus = s.bus
  matrix : u.matrix = s.matrix
  time : u.board.time = s.board.time
  links : ∀ m ∉ ls, u.link m = s.link m ∧ u.linkTally m = s.linkTally m ∧ u.dest m = s.dest m

/-- What the hand-over of link l's change makes of its record, its head tally and its destination, where no move is in HELD. -/
structure State.Handed (s u : State) (l : Nat) (old : Tally) : Prop where
  record : u.link l = (s.link l).flagged (s.retunesOnAir l) (s.headStirs l)
  held : u.linkTally l = if s.headStirs l then { s.linkTally l with head := .waiting } else s.linkTally l
  dest : u.dest l = s.rampedDest l old

section Quiet

variable {s t u : State} {ks ls : List Nat} {l : Nat}

theorem State.Beside.append (h : s.Beside t ks) (h' : t.Beside u ls) : s.Beside u (ks ++ ls) := by
  refine ⟨h'.moves.trans h.moves, h'.probe.trans h.probe, h'.bus.trans h.bus, h'.matrix.trans h.matrix, h'.time.trans h.time, fun m hm => ?_⟩
  rw [List.mem_append, not_or] at hm
  obtain ⟨hlink, htally, hdest⟩ := h.links m hm.1
  obtain ⟨hlink', htally', hdest'⟩ := h'.links m hm.2
  exact ⟨hlink'.trans hlink, htally'.trans htally, hdest'.trans hdest⟩

/-- One link's hand-over, its move not in HELD. -/
theorem State.handTally_still (hl : l < 32) (hstill : ∀ c < 4, (s.ctx c).phase ≠ .held) (old : Tally) :
    s.Handed (s.handTally l old) l old ∧ s.Beside (s.handTally l old) [l] ∧
      (s.handTally l old).lamps = s.lamps.levelled l (s.link l) s.now := by
  have hlamps : s.lampLevelChange l = { s with lamps := s.lamps.levelled l (s.link l) s.now } := s.lampLevelChange_eq l
  rw [State.handTally_eq, hlamps]
  set t : State := { s with lamps := s.lamps.levelled l (s.link l) s.now } with ht
  rw [State.moveTally_still (s := t) fun c hctx => hstill c (State.ctxOf_lt hctx)]
  obtain ⟨es, links, hmoved, hair, hothers⟩ := State.setRetuned_when (s := t) hl (t.retunesOnAir l)
  rw [hmoved]
  set v : State := { t with links, board := t.board.note es } with hv
  obtain ⟨talk, hramp, hdest, hdests⟩ := State.rampTold_eq (s := v) hl old
  rw [hramp]
  obtain ⟨fs, links', held, hhead, hrecord, hrecords, htally, htallies⟩ := State.headTold_eq (s := { v with talk }) hl
  rw [hhead]
  have hvlink : v.link l = (s.link l).flagged (s.retunesOnAir l) false := hair
  have hstirs : State.headStirs { v with talk } l = s.headStirs l := by
    show decide ((v.link l).kind = .camera ∧ (s.linkTally l).head = .idle) = _
    rw [hvlink]
    rfl
  have hramped : v.rampedDest l old = s.rampedDest l old := by
    unfold State.rampedDest
    rw [hvlink]
    rfl
  rw [hstirs] at hrecord htally
  refine ⟨⟨?_, htally, hdest.trans hramped⟩, ⟨rfl, rfl, rfl, rfl, rfl, fun m hm => ?_⟩, rfl⟩
  · refine Eq.trans hrecord ?_
    show (v.link l).flagged _ _ = _
    rw [hvlink, LinkRec.flagged_flagged]
  · have hne : m ≠ l := fun h => hm (List.mem_singleton.mpr h)
    exact ⟨(hrecords m hne).trans (hothers m hne), htallies m hne, hdests m hne⟩

theorem State.Beside.still (h : s.Beside t ks) (hstill : ∀ c < 4, (s.ctx c).phase ≠ .held) : ∀ c < 4, (t.ctx c).phase ≠ .held := by
  intro c hc
  rw [State.ctx, h.moves]
  exact hstill c hc

/-- Hand-overs of several links, no move in HELD: what they leave. -/
theorem State.foldl_handTally_beside (old : Nat → Tally) (hls : ∀ l ∈ ls, l < 32) (hstill : ∀ c < 4, (s.ctx c).phase ≠ .held) :
    s.Beside (ls.foldl (fun t l => t.handTally l (old l)) s) ls := by
  induction ls generalizing s with
  | nil => exact ⟨rfl, rfl, rfl, rfl, rfl, fun _ _ => ⟨rfl, rfl, rfl⟩⟩
  | cons l ls ih =>
    obtain ⟨-, hbeside, -⟩ := State.handTally_still (hls l List.mem_cons_self) hstill (old l)
    exact hbeside.append (ih (fun m hm => hls m (List.mem_cons_of_mem l hm)) (hbeside.still hstill))

/-- Hand-overs of several links, each named once, no move in HELD: what each makes of its link. -/
theorem State.foldl_handTally_handed (old : Nat → Tally) (hls : ∀ l ∈ ls, l < 32) (hnodup : ls.Nodup)
    (hstill : ∀ c < 4, (s.ctx c).phase ≠ .held) (hmem : l ∈ ls) :
    s.Handed (ls.foldl (fun t l => t.handTally l (old l)) s) l (old l) := by
  obtain ⟨as, bs, rfl⟩ := List.append_of_mem hmem
  have hapart := List.nodup_middle.mp hnodup
  rw [List.nodup_cons, List.mem_append, not_or] at hapart
  obtain ⟨⟨has, hbs⟩, -⟩ := hapart
  have hbefore := State.foldl_handTally_beside (s := s) (ls := as) old (fun m hm => hls m (List.mem_append_left _ hm)) hstill
  rw [List.foldl_append, List.foldl_cons]
  set t := as.foldl (fun t l => t.handTally l (old l)) s
  obtain ⟨⟨hrecord, hheld, hdest⟩, hown, -⟩ := State.handTally_still (hls l hmem) (hbefore.still hstill) (old l)
  have hafter := State.foldl_handTally_beside (ls := bs) old (fun m hm => hls m (List.mem_append_right _ (List.mem_cons_of_mem l hm)))
    (hown.still (hbefore.still hstill))
  obtain ⟨hlink, htally, hdestination⟩ := hbefore.links l has
  obtain ⟨hlink', htally', hdestination'⟩ := hafter.links l hbs
  have hair : t.retunesOnAir l = s.retunesOnAir l := by
    have hctx : t.ctx = s.ctx := funext fun c => congrArg (fun v : Moves => look v.ctxs c) hbefore.moves
    rw [State.retunesOnAir, State.onItsWay, State.ctxOf_congr hbefore.moves, hlink, hctx]
    rfl
  have hstirs : t.headStirs l = s.headStirs l := by rw [State.headStirs, hlink, htally, State.headStirs]
  have hramped : t.rampedDest l (old l) = s.rampedDest l (old l) := by
    rw [State.rampedDest, hlink, hdestination, State.timer, State.now, hbefore.time]
    rfl
  exact ⟨by rw [hlink', hrecord, hlink, hair, hstirs], by rw [htally', hheld, htally, hstirs], by rw [hdestination', hdest, hramped]⟩

/-- Hand-overs of several links, no move in HELD: the lamps take the levels one after another, by any records that show the same states and levels. -/
theorem State.foldl_handTally_lamps (old : Nat → Tally) (hls : ∀ l ∈ ls, l < 32) (hstill : ∀ c < 4, (s.ctx c).phase ≠ .held)
    {recs : Nat → LinkRec} (hrecs : ∀ m, (s.link m).state = (recs m).state ∧ (s.link m).applied = (recs m).applied) :
    (ls.foldl (fun t l => t.handTally l (old l)) s).lamps = ls.foldl (fun p l => p.levelled l (recs l) s.now) s.lamps := by
  induction ls generalizing s with
  | nil => rfl
  | cons l ls ih =>
    obtain ⟨hhanded, hbeside, hlamps⟩ := State.handTally_still (hls l List.mem_cons_self) hstill (old l)
    have hsame (m : Nat) : ((s.handTally l (old l)).link m).state = (recs m).state ∧ ((s.handTally l (old l)).link m).applied = (recs m).applied := by
      by_cases hm : m = l
      · subst hm
        rw [hhanded.record]
        exact hrecs m
      · rw [(hbeside.links m (by simpa using hm)).1]
        exact hrecs m
    rw [List.foldl_cons, ih (fun m hm => hls m (List.mem_cons_of_mem l hm)) (hbeside.still hstill) hsame, List.foldl_cons, hlamps,
      Lamps.levelled_congr (hrecs l).1 (hrecs l).2, State.now, hbeside.time, State.now]

end Quiet

end Sys2Proof.Machine
end

section
/-! SUPPORT and the proof on frame events (R98, R110, R134 to R138, R144, R173): the pending tallies applied and handed on, and the three events of the reference monitor. -/

namespace Sys2Proof.Machine

/-! ## The pending tallies applied (R136) -/

/-- A link's record with a new applied tally, a rewrite (R136). -/
def LinkRec.takes (r : LinkRec) (t : Tally) : LinkRec := { r with applied := t, edition := r.edition + 1 }

/-- The frame counter counts on (R136). -/
def State.ticked (s : State) : State := { s with ref := { s.ref with frames := s.ref.frames + 1 } }

/-- The frame counted and every differing pending tally applied, before the changes are handed on (R136). -/
def State.tallied (s : State) : State := s.tallyChanges.foldl State.applyTally s.ticked

/-- The rewrites of a frame event: the tally's, and one for each flag it raises (log entry 10). -/
theorem LinkRec.takes_flagged (r : LinkRec) (t : Tally) (onAir head : Bool) : (r.takes t).flagged onAir head = { r with
    applied := t, retunedOnAir := r.retunedOnAir || onAir, headPending := r.headPending || head
    edition := r.edition + BitVec.ofNat 16 (1 + (if onAir && !r.retunedOnAir then 1 else 0) + if head && !r.headPending then 1 else 0) } := by
  rw [Nat.add_assoc, BitVec.ofNat_add, ← BitVec.add_assoc]
  rfl

section Applied

variable (s : State) {l : Nat}

theorem State.mem_tallyChanges : l ∈ s.tallyChanges ↔ l < 32 ∧ (s.link l).state ≠ .vacant ∧ (s.linkTally l).pending ≠ (s.link l).applied := by
  rw [State.tallyChanges, placesWhere, List.mem_filter, List.mem_range, decide_eq_true_eq]

theorem State.tallyChanges_lt : ∀ l ∈ s.tallyChanges, l < 32 := fun _ h => (s.mem_tallyChanges.mp h).1

theorem State.tallyChanges_nodup : s.tallyChanges.Nodup := List.nodup_range.filter _

theorem State.tallyChanges_ne_nil_iff : s.tallyChanges ≠ [] ↔ ∃ l < 32, (s.link l).state ≠ .vacant ∧ (s.link l).applied ≠ (s.linkTally l).pending := by
  refine ⟨fun h => ?_, fun ⟨l, hl, hbound, hne⟩ => List.ne_nil_of_mem (s.mem_tallyChanges.mpr ⟨hl, hbound, hne.symm⟩)⟩
  obtain ⟨l, hmem⟩ := List.exists_mem_of_ne_nil _ h
  obtain ⟨hl, hbound, hne⟩ := s.mem_tallyChanges.mp hmem
  exact ⟨l, hl, hbound, hne.symm⟩

theorem State.foldl_applyTally (ls : List Nat) : ∃ es edition, ls.foldl State.applyTally s = { s with
    links := { s.links with
      recs := ls.foldl (fun v l => adjust v l fun r => r.takes (s.linkTally l).pending) s.links.recs, edition := edition }
    board := s.board.note es } := by
  induction ls generalizing s with
  | nil => exact ⟨[], s.links.edition, rfl⟩
  | cons l ls ih =>
    obtain ⟨es, edition, h⟩ := ih (s.applyTally l)
    exact ⟨.link :: es, edition, h⟩

/-- The differing pending tallies are applied, each a rewrite of its link's record (R136). -/
theorem State.tallied_eq : ∃ es links, s.tallied = { s.ticked with links, board := s.board.note es } ∧
    ∀ l < 32, look links.recs l = if l ∈ s.tallyChanges then (s.link l).takes (s.linkTally l).pending else s.link l := by
  obtain ⟨es, edition, h⟩ := s.ticked.foldl_applyTally s.tallyChanges
  exact ⟨es, _, h, fun l hl => look_foldl_adjust (fun l r => r.takes (s.linkTally l).pending) s.tallyChanges_nodup s.links.recs hl⟩

/-- A frame event: the changes are applied, then handed on, and EVENTS.TALLY is set when there is one (R136, R137). -/
theorem State.frameEvent_eq : s.frameEvent =
    let u := s.tallyChanges.foldl (fun t l => t.handTally l (s.link l).applied) s.tallied
    { u with board := u.board.note (if s.tallyChanges.isEmpty then [] else [.tally]) } := by
  unfold State.frameEvent
  dsimp only
  split <;> rfl

theorem State.frameEvent_unchanged (h : s.tallyChanges = []) : s.frameEvent = s.ticked := by
  rw [State.frameEvent_eq, State.tallied, h]
  rfl

/-- What the changes of a frame event may touch as they are handed on (R137). -/
theorem State.frameEvent_handedOn :
    s.tallied.HandedOn (s.tallyChanges.foldl (fun t l => t.handTally l (s.link l).applied) s.tallied) s.tallyChanges :=
  .foldl (fun l => (s.link l).applied) s.tallyChanges_lt s.tallied

/-- What a frame event may touch, and the events it notes (R136, R137). -/
theorem State.frameEvent_blocks : ∃ es bus probe links moves talk matrix lamps held, s.frameEvent = { s with
      ref := s.ticked.ref, board := s.board.note es, bus, probe, links, moves, talk, matrix, lamps, tally := { s.tally with links := held } } ∧
    (s.tallyChanges ≠ [] → Event.tally ∈ es) := by
  obtain ⟨es, links, htallied, -⟩ := s.tallied_eq
  obtain ⟨fs, bus, probe, links', moves, talk, matrix, lamps, held, hblocks⟩ := s.frameEvent_handedOn.blocks
  refine ⟨es ++ fs ++ if s.tallyChanges.isEmpty then [] else [.tally], bus, probe, links', moves, talk, matrix, lamps, held, ?_, fun h => ?_⟩
  · rw [State.frameEvent_eq]
    dsimp only
    rw [hblocks, htallied, ← Board.note_note, ← Board.note_note]
    rfl
  · rw [if_neg (mt List.isEmpty_iff.mp h)]
    exact List.mem_append_right _ (List.mem_singleton.mpr rfl)

/-- A frame event leaves the source tables, the plan, the lines and the slots; a change sets EVENTS.TALLY (R136). -/
theorem State.frameEvent_leaves : s.frameEvent.tally.sources = s.tally.sources ∧ s.frameEvent.tally.edition = s.tally.edition ∧
    s.frameEvent.plan = s.plan ∧ s.frameEvent.lines = s.lines ∧ s.frameEvent.board.slots = s.board.slots ∧
    (s.tallyChanges ≠ [] → s.frameEvent.board.events.getLsbD 4 = true) := by
  obtain ⟨es, _, _, _, _, _, _, _, _, hblocks, hnoted⟩ := s.frameEvent_blocks
  rw [hblocks]
  exact ⟨rfl, rfl, rfl, rfl, rfl, fun h => Board.note_event (e := .tally) s.board (hnoted h)⟩

/-- Every bound link's applied tally takes its pending value (R136). -/
theorem State.frameEvent_applied (hl : l < 32) :
    (s.frameEvent.link l).applied = if (s.link l).state = .vacant then (s.link l).applied else (s.linkTally l).pending := by
  obtain ⟨es, links, htallied, hlinks⟩ := s.tallied_eq
  have happlied := s.frameEvent_handedOn.applied l
  rw [State.frameEvent_eq]
  refine happlied.trans ?_
  have hrecord : s.tallied.link l = _ := (congrArg (fun t : State => t.link l) htallied).trans (hlinks l hl)
  rw [hrecord]
  by_cases hmem : l ∈ s.tallyChanges
  · rw [if_pos hmem, if_neg (s.mem_tallyChanges.mp hmem).2.1]
    rfl
  · rw [if_neg hmem]
    split
    · rfl
    · next hbound => exact (not_not.mp fun h => hmem (s.mem_tallyChanges.mpr ⟨hl, hbound, fun heq => h heq.symm⟩))

theorem State.frameEvent_resolver (l : Nat) :
    (s.frameEvent.linkTally l).pending = (s.linkTally l).pending ∧ (s.frameEvent.linkTally l).override = (s.linkTally l).override := by
  obtain ⟨es, links, htallied, -⟩ := s.tallied_eq
  have hresolver := s.frameEvent_handedOn.resolver l
  have hheld : s.tallied.linkTally l = s.linkTally l := by rw [htallied]; rfl
  rw [hheld] at hresolver
  rw [State.frameEvent_eq]
  exact hresolver

end Applied

/-! ## A move in HELD at a frame event (R98) -/

/-- A frame event lets context c's move in HELD go: its link's tally changes, and the conditions of R98 hold at the new level. -/
def State.frameReleases (s : State) (c : Nat) : Prop :=
  let x := s.ctx c
  let r := s.link x.link
  x.link ∈ s.tallyChanges ∧ ((s.linkTally x.link).pending ≠ .program ∨ x.urgent = true) ∧
    (r.state = .live ∨ r.state = .weak ∨ r.state = .mistuned) ∧ (x.manualGo = true → x.go = true)

theorem State.frameEvent_letGo (s : State) {c : Nat} (hl : (s.ctx c).link < 32) (hctx : s.ctxOf (s.ctx c).link = some c)
    (hheld : (s.ctx c).phase = .held) : s.LetGo s.frameEvent c (s.ctx c).link (s.frameReleases c) := by
  obtain ⟨es, links, htallied, hlinks⟩ := s.tallied_eq
  set l := (s.ctx c).link with hlink
  have hown : s.tallied.ctx c = s.ctx c := by rw [htallied]; rfl
  have hrecord : s.tallied.link l = if l ∈ s.tallyChanges then (s.link l).takes (s.linkTally l).pending else s.link l := by
    rw [htallied]
    exact hlinks l hl
  have hkept : (s.tallied.link l).state = (s.link l).state ∧ (s.tallied.link l).kind = (s.link l).kind ∧
      (s.tallied.link l).channel = (s.link l).channel := by
    rw [hrecord]
    split <;> exact ⟨rfl, rfl, rfl⟩
  obtain ⟨hstate, hkind, hchannel⟩ := hkept
  have hgoes : (l ∈ s.tallyChanges ∧ s.tallied.releasable c = true) ↔ s.frameReleases c := by
    refine and_congr_right fun hmem => ?_
    rw [State.releasable_iff, hown, ← hlink, hstate, hrecord, if_pos hmem]
    exact and_iff_right hheld
  have hfold := State.foldl_handTally_letGo (s := s.tallied) (l := l) (fun l => (s.link l).applied) s.tallyChanges_lt s.tallyChanges_nodup
    (by rw [htallied]; exact hctx) (by rw [hown]; exact hheld)
  rw [State.LetGo, hown, hstate, hkind, hchannel, hgoes] at hfold
  rw [State.frameEvent_eq]
  exact hfold

/-! ## A frame event with no move in HELD (R110, R138, R144, R173) -/

/-- The programme target and ramp timer recomputed at a level (R173, R175). -/
theorem Dest.recompute_eq (d : Dest) (level : Tally) (now : Time) :
    let target := if d.base = 127 then 127 else if d.talking then min 126 (d.base + if level = .program then d.onAir else d.offAir) else d.base
    d.recompute level (some { start := now, len := Config.rampMs }) = { d with
      target := target
      rampTimer := if d.current ≠ 127 ∧ target ≠ 127 ∧ d.current ≠ target
        then (if d.rampTimer.isSome then d.rampTimer else some { start := now, len := 10 }) else none } := by
  intro target
  have hramping : ({ d with target := target } : Dest).ramping = true ↔ d.current ≠ 127 ∧ target ≠ 127 ∧ d.current ≠ target :=
    decide_eq_true_iff
  show { d with target := target, rampTimer := if ({ d with target := target } : Dest).ramping then _ else none } = _
  simp only [hramping]
  rfl

section Quiet

variable (s : State)

/-- Link l's record, head-tally record and destination record after a frame event that changes its tally (R110, R136, R138, R173). -/
structure State.FrameHanded (u : State) (l : Nat) : Prop where
  record : u.link l = ((s.link l).takes (s.linkTally l).pending).flagged
    (decide ((s.linkTally l).pending = .program) && s.onItsWay l) (s.headStirs l)
  held : u.linkTally l = if s.headStirs l then { s.linkTally l with head := .waiting } else s.linkTally l
  dest : u.dest l = if (s.link l).kind = .iem ∧ ((s.link l).applied = .program ∨ (s.linkTally l).pending = .program)
    then (s.dest l).recompute (s.linkTally l).pending (s.timer Config.rampMs) else s.dest l

variable {s}

/-- With no move in HELD a frame event leaves the moves, the probe, the bus, the matrix line and the links whose tally stays. -/
theorem State.frameEvent_beside (hstill : ∀ c < 4, (s.ctx c).phase ≠ .held) :
    s.frameEvent.moves = s.moves ∧ s.frameEvent.probe = s.probe ∧ s.frameEvent.bus = s.bus ∧ s.frameEvent.matrix = s.matrix ∧
      ∀ l < 32, l ∉ s.tallyChanges →
        s.frameEvent.link l = s.link l ∧ s.frameEvent.linkTally l = s.linkTally l ∧ s.frameEvent.dest l = s.dest l := by
  obtain ⟨es, links, htallied, hlinks⟩ := s.tallied_eq
  have hbeside := State.foldl_handTally_beside (s := s.tallied) (fun l => (s.link l).applied) s.tallyChanges_lt (by rw [htallied]; exact hstill)
  rw [State.frameEvent_eq]
  rw [htallied] at hbeside ⊢
  refine ⟨hbeside.moves, hbeside.probe, hbeside.bus, hbeside.matrix, fun l hl hmem => ?_⟩
  obtain ⟨hlink, htally, hdest⟩ := hbeside.links l hmem
  exact ⟨hlink.trans ((hlinks l hl).trans (if_neg hmem)), htally, hdest⟩

/-- With no move in HELD a change reaches the link's flags, its head tally and its duck ramp. -/
theorem State.frameEvent_handed (hstill : ∀ c < 4, (s.ctx c).phase ≠ .held) {l : Nat} (hmem : l ∈ s.tallyChanges) :
    s.FrameHanded s.frameEvent l := by
  obtain ⟨hl, hbound, hdiffers⟩ := s.mem_tallyChanges.mp hmem
  obtain ⟨es, links, htallied, hlinks⟩ := s.tallied_eq
  have hrecord : s.tallied.link l = (s.link l).takes (s.linkTally l).pending := by
    rw [htallied]
    exact (hlinks l hl).trans (if_pos hmem)
  obtain ⟨hhanded, hheld, hdest⟩ := State.foldl_handTally_handed (s := s.tallied) (fun l => (s.link l).applied) s.tallyChanges_lt
    s.tallyChanges_nodup (by rw [htallied]; exact hstill) hmem
  have hair : s.tallied.retunesOnAir l = (decide ((s.linkTally l).pending = .program) && s.onItsWay l) := by
    rw [State.retunesOnAir, hrecord, htallied]
    rfl
  have hresolver : s.tallied.linkTally l = s.linkTally l := by rw [htallied]; rfl
  have hstirs : s.tallied.headStirs l = s.headStirs l := by
    rw [State.headStirs, hrecord, hresolver]
    rfl
  have hramped : s.tallied.rampedDest l (s.link l).applied =
      if (s.link l).kind = .iem ∧ ((s.link l).applied = .program ∨ (s.linkTally l).pending = .program)
      then (s.dest l).recompute (s.linkTally l).pending (s.timer Config.rampMs) else s.dest l := by
    have hcrosses : decide ((s.link l).applied = .program) ≠ decide ((s.linkTally l).pending = .program) ↔
        (s.link l).applied = .program ∨ (s.linkTally l).pending = .program := by
      rw [ne_eq, decide_eq_decide]
      refine ⟨fun h => ?_, fun h hiff => ?_⟩
      · by_cases happlied : (s.link l).applied = .program
        · exact .inl happlied
        · exact .inr (not_not.mp fun hpending => h (iff_of_false happlied hpending))
      · obtain h | h := h
        · exact hdiffers ((hiff.mp h).trans h.symm)
        · exact hdiffers (h.trans (hiff.mpr h).symm)
    rw [State.rampedDest, hrecord, htallied]
    exact if_congr (and_congr_right' hcrosses) rfl rfl
  rw [hrecord, hair, hstirs] at hhanded
  rw [hresolver, hstirs] at hheld
  rw [State.frameEvent_eq]
  exact ⟨hhanded, hheld, hdest.trans hramped⟩

/-- With no move in HELD the lamps take the new levels, one link after another (R144). -/
theorem State.frameEvent_lamps (hstill : ∀ c < 4, (s.ctx c).phase ≠ .held) :
    s.frameEvent.lamps = (s.tallyChanges.foldl State.lampLevelChange { s with links := s.frameEvent.links }).lamps := by
  obtain ⟨es, links, htallied, -⟩ := s.tallied_eq
  have hstill' : ∀ c < 4, (s.tallied.ctx c).phase ≠ .held := by rw [htallied]; exact hstill
  set u := s.tallyChanges.foldl (fun t l => t.handTally l (s.link l).applied) s.tallied with hu
  have hframe : s.frameEvent.lamps = u.lamps ∧ s.frameEvent.links = u.links := by rw [State.frameEvent_eq]; exact ⟨rfl, rfl⟩
  have hshown (m : Nat) : (s.tallied.link m).state = (u.link m).state ∧ (s.tallied.link m).applied = (u.link m).applied := by
    refine ⟨?_, (s.frameEvent_handedOn.applied m).symm⟩
    by_cases hmem : m ∈ s.tallyChanges
    · have hhanded := State.foldl_handTally_handed (fun l => (s.link l).applied) s.tallyChanges_lt s.tallyChanges_nodup hstill' hmem
      exact (congrArg LinkRec.state hhanded.record).symm
    · have hbeside := State.foldl_handTally_beside (fun l => (s.link l).applied) s.tallyChanges_lt hstill'
      exact congrArg LinkRec.state (hbeside.links m hmem).1.symm
  have hlamps := State.foldl_handTally_lamps (fun l => (s.link l).applied) s.tallyChanges_lt hstill' hshown
  rw [← hu, htallied] at hlamps
  rw [hframe.1, hframe.2, hlamps, State.foldl_lampLevelChange]
  rfl

end Quiet

/-! ## The reference monitor (R134, R135) -/

/-- EVENTS.REF noted leaves EVENTS.TALLY as it stands (R188). -/
theorem Board.note_ref_tally (b : Board) : (b.note [.ref]).events.getLsbD 4 = b.events.getLsbD 4 := by
  show (b.events ||| Event.ref.bit).getLsbD 4 = _
  rw [BitVec.getLsbD_or, show Event.ref.bit.getLsbD 4 = false by decide, Bool.or_false]

/-- A frame event leaves the reference monitor but for its counter. -/
theorem State.frameEvent_ref (s : State) : s.frameEvent.ref = s.ticked.ref := by
  obtain ⟨_, _, _, _, _, _, _, _, _, h, -⟩ := s.frameEvent_blocks
  rw [h]

/-- A frame event keeps what was noted before it. -/
theorem State.frameEvent_noted (s : State) (b : Board) (e : Event) (h : s.board = b.note [e]) :
    s.frameEvent.board.events.getLsbD e.ctorIdx = true := by
  obtain ⟨es, _, _, _, _, _, _, _, _, hblocks, -⟩ := s.frameEvent_blocks
  have hboard : s.frameEvent.board = b.note ([e] ++ es) := by rw [hblocks, ← Board.note_note, ← h]
  rw [hboard]
  exact Board.note_event b List.mem_cons_self

section Events

variable {s : State} {tm : Timer}

theorem exec_referencePulse (hready : s.board.ready = true) : exec .referencePulse s = .next s.referencePulse.settle :=
  congrArg Host.Outcome.next (if_pos hready)

theorem exec_refLossTimerExpiry (hready : s.board.ready = true) (hrun : s.ref.lossTimer = some tm)
    (hdue : tm.len ≤ (s.board.time - tm.start).toNat) : exec .refLossTimerExpiry s = .next s.refLost.settle :=
  congrArg Host.Outcome.next (by rw [hrun, State.onExpiry_due hready hdue])

theorem exec_syntheticTimerExpiry (hready : s.board.ready = true) (hrun : s.ref.synthTimer = some tm)
    (hdue : tm.len ≤ (s.board.time - tm.start).toNat) : exec .syntheticTimerExpiry s = .next s.syntheticFrame.settle :=
  congrArg Host.Outcome.next (by rw [hrun, State.onExpiry_due hready hdue])

/-- The part as it takes a frame event: the reference monitor written, and events noted, before and after it. -/
def State.framed (s : State) (es : List Event) (before after : RefMonitor) : State :=
  { ({ s with board := s.board.note es, ref := before } : State).frameEvent with ref := after }

/-- A pulse: a LOST reference becomes LOCKED, and the loss timer starts (R134). -/
theorem State.referencePulse_eq (s : State) : ∃ es before, (es = [] ∨ es = [.ref]) ∧ before.frames = s.ref.frames ∧ before.locked = true ∧
    (s.ref.locked = false → before.synthTimer = none ∧ es = [.ref]) ∧
    s.referencePulse = s.framed es before { before with frames := before.frames + 1, lossTimer := some { start := s.board.time, len := 50 } } := by
  unfold State.referencePulse
  dsimp only
  cases hlocked : s.ref.locked with
  | true =>
    refine ⟨[], s.ref, .inl rfl, rfl, hlocked, fun h => absurd h (by decide), ?_⟩
    rw [if_pos rfl, State.setRef, State.frameEvent_ref]
    rfl
  | false =>
    refine ⟨[.ref], { s.ref with locked := true, synthTimer := none }, .inr rfl, rfl, rfl, fun _ => ⟨rfl, rfl⟩, ?_⟩
    rw [if_neg (by decide), State.setRef, State.frameEvent_ref]
    rfl

/-- The loss timer's expiry: the reference is LOST, and the synthetic timer starts (R134). -/
theorem State.refLost_eq (s : State) : s.refLost = s.framed [.ref] { s.ref with locked := false, lossTimer := none }
    { s.ref with frames := s.ref.frames + 1, locked := false, lossTimer := none, synthTimer := some { start := s.board.time, len := 40 } } := by
  rw [State.refLost, State.setRef, State.frameEvent_ref]
  rfl

/-- The synthetic timer's expiry starts it again (R135). -/
theorem State.syntheticFrame_eq (s : State) : s.syntheticFrame = s.framed [] s.ref
    { s.ref with frames := s.ref.frames + 1, synthTimer := some { start := s.board.time, len := 40 } } := by
  rw [State.syntheticFrame, State.setRef, State.frameEvent_ref]
  rfl

end Events

/-- Settles O49: each event of the reference monitor frames one frame event, whose changes are applied first and then handed on link by link. -/
theorem frameEventsApplyThePendingTally : Obligations.FrameEventsApplyThePendingTally := by
  unfold Obligations.FrameEventsApplyThePendingTally
  intro s hready changed frame differs released handed
  have hmem (l : Nat) : l ∈ s.tallyChanges ↔ l < 32 ∧ differs l = true := by
    rw [State.mem_tallyChanges, decide_eq_true_eq]
  have hchanged : changed ↔ s.tallyChanges ≠ [] := s.tallyChanges_ne_nil_iff.symm
  have hframed (es : List Event) (before after : RefMonitor) (hes : es = [] ∨ es = [.ref]) (hafter : after.frames = s.ref.frames + 1) :
      frame (s.framed es before after) := by
    set t : State := { s with board := s.board.note es, ref := before } with ht
    obtain ⟨hsources, hedition, hplan, hlines, hslots, hnoted⟩ := t.frameEvent_leaves
    refine ⟨hafter, fun l hl => t.frameEvent_applied hl, fun l _ => t.frameEvent_resolver l, hsources, hedition, hplan, hlines, hslots,
      fun h => hnoted (hchanged.mp h), fun h => ?_⟩
    have hnone : t.frameEvent = t.ticked := t.frameEvent_unchanged (not_not.mp (mt hchanged.mpr h))
    rw [State.framed, ← ht, hnone]
    refine ⟨rfl, rfl, rfl, rfl, rfl, rfl, ?_⟩
    obtain rfl | rfl := hes
    · rfl
    · exact s.board.note_ref_tally
  have hreleased (es : List Event) (before after : RefMonitor) : released (s.framed es before after) := by
    intro c _ hheld hl hctx x r goes
    obtain ⟨hstays, hleaves⟩ := State.frameEvent_letGo { s with board := s.board.note es, ref := before } hl hctx hheld
    have hgoes : goes = true ↔ State.frameReleases { s with board := s.board.note es, ref := before } c := by
      have hlink : x.link ∈ s.tallyChanges ↔ differs x.link = true := (hmem x.link).trans (and_iff_right hl)
      refine Iff.trans ?_ (and_congr_left' hlink.symm)
      simp only [goes, Bool.and_eq_true, Bool.or_eq_true, decide_eq_true_eq, Bool.not_eq_true', and_assoc, ← Bool.not_eq_true, ← imp_iff_not_or]
      rfl
    refine ⟨fun h => hstays (mt hgoes.mpr (Bool.eq_false_iff.mp h)), fun h => ?_⟩
    obtain ⟨hstate, p, o, hown, hother, hcamera⟩ := hleaves (hgoes.mp h)
    refine ⟨hstate, (congrArg Ctx.holdTimer hown :), fun hkind => ?_, fun hkind => ?_⟩
    · obtain ⟨rfl, rfl⟩ := hother hkind
      exact ⟨(congrArg Ctx.phase hown :), (congrArg Ctx.offer hown :)⟩
    · obtain ⟨rfl, rfl⟩ := hcamera hkind
      exact ⟨(congrArg Ctx.phase hown :), (congrArg Ctx.offer hown :)⟩
  have hhanded (es : List Event) (before after : RefMonitor) : handed (s.framed es before after) := by
    refine ⟨hreleased es before after, fun hstill => ?_⟩
    set t : State := { s with board := s.board.note es, ref := before } with ht
    obtain ⟨hmoves, hprobe, hbus, hmatrix, hlinks⟩ := State.frameEvent_beside (s := t) hstill
    refine ⟨?_, hmoves, hprobe, hbus, hmatrix, fun l hl hsame => ?_, fun l hl hdiffers => ?_⟩
    · refine (State.frameEvent_lamps (s := t) hstill).trans ?_
      rw [State.foldl_lampLevelChange, State.foldl_lampLevelChange]
      rfl
    · exact hlinks l hl fun h => absurd (hsame.symm.trans ((hmem l).mp h).2) (by decide)
    · intro r level head onAir rewrites
      obtain ⟨hrecord, hheld, hdest⟩ := State.frameEvent_handed (s := t) hstill ((hmem l).mpr ⟨hl, hdiffers⟩)
      refine ⟨hrecord.trans (LinkRec.takes_flagged r level onAir head), ?_, ?_⟩
      · refine (congrArg LinkTally.head hheld).trans ?_
        exact apply_ite LinkTally.head _ _ _
      · refine hdest.trans (if_congr Iff.rfl ?_ rfl)
        exact Dest.recompute_eq (s.dest l) level s.board.time
  refine ⟨?_, fun tm hrun hdue => ?_, fun tm hrun hdue => ?_⟩
  · obtain ⟨es, before, hes, hframes, hlocked, hlost, hpulse⟩ := s.referencePulse_eq
    rw [exec_referencePulse hready, hpulse]
    refine ⟨_, rfl, hframed es before _ hes (congrArg (· + 1) hframes), hhanded es before _, hlocked, rfl,
      fun hwas => ⟨(hlost hwas).1, ?_⟩⟩
    obtain rfl := (hlost hwas).2
    exact State.frameEvent_noted { s with board := s.board.note [.ref], ref := before } s.board .ref rfl
  · rw [exec_refLossTimerExpiry hready hrun hdue, s.refLost_eq]
    refine ⟨_, rfl, hframed _ _ _ (.inr rfl) rfl, hhanded _ _ _, rfl, rfl, rfl, ?_⟩
    exact State.frameEvent_noted { s with board := s.board.note [.ref], ref := { s.ref with locked := false, lossTimer := none } } s.board .ref rfl
  · rw [exec_syntheticTimerExpiry hready hrun hdue, s.syntheticFrame_eq]
    exact ⟨_, rfl, hframed _ _ _ (.inl rfl) rfl, hhanded _ _ _, rfl, rfl, rfl⟩

end Sys2Proof.Machine
end

section
/-! SUPPORT and the proof on the lamps' own steps and on what a change of their link gives them (R141, R142, R144 to R149). -/

namespace Sys2Proof.Machine

/-! ## Lamps told one after another (R141) -/

/-- A lamp record after an event: its edition counts exactly when its state changes (R141). -/
def Lamp.counted (old new : Lamp) : Lamp := if new.state = old.state then new else { new with edition := old.edition + 1 }

@[simp] theorem Lamp.counted_state (old new : Lamp) : (old.counted new).state = new.state := by
  unfold Lamp.counted; split <;> rfl

/-- The region edition counts with the record's (R141). -/
theorem Lamps.event_eq (ls : Lamps) (n : Nat) (f : Lamp → Lamp) : ls.event n f = { ls with
    recs := adjust ls.recs n fun p => p.counted (f p)
    edition := ls.edition + BitVec.ofNat 16 (if (f (look ls.recs n)).state = (look ls.recs n).state then 0 else 1) } := by
  by_cases h : (f (look ls.recs n)).state = (look ls.recs n).state
  · have hsame : ls.edition + BitVec.ofNat 16 0 = ls.edition := BitVec.add_zero _
    simp only [Lamps.event, adjust, Lamp.counted, if_pos h, hsame]
  · simp only [Lamps.event, adjust, Lamp.counted, if_neg h]
    rfl

/-- The same event at several lamps, each once: the region edition counts the lamps whose state it changes. -/
theorem Lamps.foldl_event (f : Lamp → Lamp) {ns : List Nat} (hnodup : ns.Nodup) (ls : Lamps) : ns.foldl (fun ls n => ls.event n f) ls = { ls with
    recs := ns.foldl (fun v n => adjust v n fun p => p.counted (f p)) ls.recs
    edition := ls.edition + BitVec.ofNat 16 (ns.filter fun n => decide ((f (look ls.recs n)).state ≠ (look ls.recs n).state)).length } := by
  induction ns generalizing ls with
  | nil => exact congrArg (fun edition => { ls with edition }) (BitVec.add_zero _).symm
  | cons n ns ih =>
    obtain ⟨hn, hns⟩ := List.nodup_cons.mp hnodup
    have hlater (m : Nat) (hm : m ∈ ns) : look (adjust ls.recs n fun p => p.counted (f p)) m = look ls.recs m :=
      look_adjust_ne _ _ _ _ fun h => hn (h ▸ hm)
    have hcount : ns.filter (fun m => decide ((f (look (ls.event n f).recs m)).state ≠ (look (ls.event n f).recs m).state)) =
        ns.filter fun m => decide ((f (look ls.recs m)).state ≠ (look ls.recs m).state) := by
      refine List.filter_congr fun m hm => ?_
      rw [Lamps.event_eq, hlater m hm]
    rw [List.foldl_cons, ih hns, hcount, List.filter_cons, Lamps.event_eq]
    by_cases h : (f (look ls.recs n)).state = (look ls.recs n).state
    · simp [h]
    · simp [h, BitVec.ofNat_add, BitVec.add_assoc, BitVec.add_comm 1#16]

theorem Lamps.mem_naming (ls : Lamps) (l i : Nat) : i ∈ ls.naming l ↔ i < 24 ∧ (look ls.recs i).mode = .link ∧ (look ls.recs i).link = l := by
  simp [Lamps.naming, placesWhere]

/-- Every lamp that names link l takes the event f, once; no other lamp changes (R141, R144). -/
structure State.LampsTold (s u : State) (l : Nat) (f : Lamp → Lamp) : Prop where
  only : u = { s with lamps := { s.lamps with
    recs := u.lamps.recs
    edition := s.lamps.edition + BitVec.ofNat 16 ((List.range 24).filter fun i => decide ((u.lamp i).state ≠ (s.lamp i).state)).length } }
  lamp : ∀ i < 24, u.lamp i = if (s.lamp i).mode = .link ∧ (s.lamp i).link = l then (s.lamp i).counted (f (s.lamp i)) else s.lamp i

theorem State.lampsTold_naming (s : State) (l : Nat) (f : Lamp → Lamp) :
    s.LampsTold { s with lamps := (s.lamps.naming l).foldl (fun ls n => ls.event n f) s.lamps } l f := by
  have hnodup : (s.lamps.naming l).Nodup := List.nodup_range.filter _
  rw [Lamps.foldl_event f hnodup]
  set recs := (s.lamps.naming l).foldl (fun v n => adjust v n fun p => p.counted (f p)) s.lamps.recs
  have hlamp (i : Nat) (hi : i < 24) : look recs i =
      if (s.lamp i).mode = .link ∧ (s.lamp i).link = l then (s.lamp i).counted (f (s.lamp i)) else s.lamp i :=
    (look_foldl_adjust (fun _ (p : Lamp) => p.counted (f p)) hnodup _ hi).trans
      (if_congr ((s.lamps.mem_naming l i).trans (and_iff_right hi)) rfl rfl)
  have hchanged : (s.lamps.naming l).filter (fun i => decide ((f (s.lamp i)).state ≠ (s.lamp i).state)) =
      (List.range 24).filter fun i => decide ((look recs i).state ≠ (s.lamp i).state) := by
    rw [Lamps.naming, placesWhere, List.filter_filter]
    refine List.filter_congr fun i hi => ?_
    rw [hlamp i (List.mem_range.mp hi), ← Bool.decide_and, decide_eq_decide]
    split
    · next hnames => exact (and_iff_left hnames).trans (by rw [Lamp.counted_state])
    · next hnames => exact iff_of_false (fun h => hnames h.2) fun h => h rfl
  refine ⟨?_, hlamp⟩
  exact congrArg (fun ns : List Nat => { s with lamps := { s.lamps with recs, edition := s.lamps.edition + BitVec.ofNat 16 ns.length } }) hchanged

/-- What a lamp naming link l does at a change of the link's level (R144 to R148). -/
def State.levelled (s : State) (l : Nat) (p : Lamp) : Lamp :=
  p.levelChange (s.link l) (some { start := s.board.time, len := p.fadeN * 10 }) (some { start := s.board.time, len := 250 })

/-- What a lamp naming link l does at a change of the link's supervision state (R148). -/
def State.alarmTested (s : State) (l : Nat) (p : Lamp) : Lamp := p.alarmTest (s.link l) (some { start := s.board.time, len := 250 })

theorem State.lampLevelChange_told (s : State) (l : Nat) : s.LampsTold (s.lampLevelChange l) l (s.levelled l) := by
  rw [State.lampLevelChange_eq]
  exact s.lampsTold_naming l _

theorem State.lampStateChange_told (s : State) (l : Nat) : s.LampsTold (s.lampStateChange l) l (s.alarmTested l) := by
  rw [State.lampStateChange_eq]
  exact s.lampsTold_naming l _

/-! ## What one lamp does by its state (R144 to R148) -/

section OneLamp

variable {x : Lamp} (r : LinkRec) (stepTimer blinkTimer : Option Timer)

theorem Lamp.levelChange_dark (h : x.state = .off ∨ x.state = .test) :
    x.levelChange r stepTimer blinkTimer = { x with target := x.targetFor r } := by
  obtain h | h := h <;> simp only [Lamp.levelChange, h]

theorem Lamp.levelChange_lit (h : x.state = .steady ∨ x.state = .fading) :
    let y : Lamp := { x with target := x.targetFor r }
    x.levelChange r stepTimer blinkTimer =
      if x.alarms r then y.blink blinkTimer else if x.duty ≤ y.target then y.steady y.target else y.fall stepTimer := by
  obtain h | h := h <;> simp only [Lamp.levelChange, h] <;> rfl

theorem Lamp.levelChange_blinking (h : x.state = .blinking) :
    let y : Lamp := { x with target := x.targetFor r }
    x.levelChange r stepTimer blinkTimer = if x.alarms r then y else y.steady y.target := by
  simp only [Lamp.levelChange, h]
  rfl

theorem Lamp.alarmTest_dark (h : x.state = .off ∨ x.state = .test) : x.alarmTest r blinkTimer = x := by
  obtain h | h := h <;> simp only [Lamp.alarmTest, h]

theorem Lamp.alarmTest_lit (h : x.state = .steady ∨ x.state = .fading) :
    x.alarmTest r blinkTimer = if x.alarms r then x.blink blinkTimer else x := by
  obtain h | h := h <;> simp only [Lamp.alarmTest, h]

theorem Lamp.alarmTest_blinking (h : x.state = .blinking) :
    x.alarmTest r blinkTimer = if x.alarms r then x else x.steady x.target := by
  simp only [Lamp.alarmTest, h]

end OneLamp

theorem Lamp.targetFor_link {x : Lamp} (h : x.mode = .link) (r : LinkRec) : x.targetFor r = x.dutyFor r.level := by
  simp only [Lamp.targetFor, h]

/-! ## The lamps' own steps (R142, R146, R149) -/

/-- The duties of a fade to a target not above its start begin at the start, never rise and end at the target (R146). -/
theorem Fade.dutyAt_falls {f : Fade} (h : f.dt ≤ f.d0) :
    f.dutyAt 8 = f.dt ∧ ∀ j, f.dt ≤ f.dutyAt j ∧ f.dutyAt j ≤ f.d0 ∧ f.dutyAt (j + 1) ≤ f.dutyAt j := by
  have hend : f.dutyAt 8 = f.dt := by simp [Fade.dutyAt]
  refine ⟨hend, fun j => ⟨Nat.le_add_right _ _, ?_, ?_⟩⟩
  · have hpart : (f.d0 - f.dt) * (8 - j) / 8 ≤ f.d0 - f.dt :=
      Nat.div_le_of_le_mul (by rw [Nat.mul_comm]; exact Nat.mul_le_mul_right _ (Nat.sub_le 8 j))
    exact (Nat.add_le_add_left hpart f.dt).trans_eq (Nat.add_sub_cancel' h)
  · have hless : 8 - (j + 1) ≤ 8 - j := by omega
    exact Nat.add_le_add_left (Nat.div_le_div_right (Nat.mul_le_mul_left _ hless)) f.dt

/-- The pin at a period start is active when the output is not OFF and its duty not 0 (R142). -/
theorem Lamp.periodStart_eq (x : Lamp) : x.periodStart = { x with
    outOff := decide (x.mode = .off), outDuty := x.duty, outInverted := x.inverted
    pin := if x.mode ≠ .off ∧ x.duty ≠ 0 then !x.inverted else x.inverted } := by
  have hpin : xor x.inverted (!decide (x.mode = LampMode.off) && decide (x.duty ≠ 0)) =
      if x.mode ≠ LampMode.off ∧ x.duty ≠ 0 then !x.inverted else x.inverted := by
    rw [← decide_not, ← Bool.decide_and]
    split
    · next h => rw [decide_eq_true h, Bool.xor_true]
    · next h => rw [decide_eq_false h, Bool.xor_false]
  exact congrArg (fun pin => { x with outOff := decide (x.mode = LampMode.off), outDuty := x.duty, outInverted := x.inverted, pin }) hpin

section Steps

variable {s : State} {i : Nat} {tm : Timer}

theorem exec_fadeStepExpiry (hi : i < 24) (hready : s.board.ready = true) (hrun : (s.lamp i).fadeTimer = some tm)
    (hdue : tm.len ≤ (s.board.time - tm.start).toNat) : exec (.fadeStepExpiry i) s = .next (s.fadeExpiry i) :=
  (if_pos hi).trans (congrArg Host.Outcome.next (by rw [hrun, State.onExpiry_due hready hdue]))

theorem exec_blinkTimerExpiry (hi : i < 24) (hready : s.board.ready = true) (hrun : (s.lamp i).blinkTimer = some tm)
    (hdue : tm.len ≤ (s.board.time - tm.start).toNat) :
    exec (.blinkTimerExpiry i) s = .next (s.touchLamp i fun p => p.blinkStep (s.timer Config.blinkMs)) :=
  (if_pos hi).trans (congrArg Host.Outcome.next (by rw [hrun, State.onExpiry_due hready hdue]))

/-- A fade step before the eighth changes the record in place (R141, R146). -/
theorem State.fadeExpiry_step (hk : (s.lamp i).fade.k + 1 < 8) :
    s.fadeExpiry i = s.touchLamp i fun p => p.fadeStep (s.timer (p.fadeN * Config.fadeUnitMs)) := by
  have hsame : ((s.lamp i).fadeStep (s.timer ((s.lamp i).fadeN * Config.fadeUnitMs))).state = (s.lamp i).state := by
    rw [Lamp.fadeStep, if_pos hk]
  exact if_pos hsame

/-- The eighth step of a fade ends it by a rewrite (R141, R146). -/
theorem State.fadeExpiry_end (hstate : (s.lamp i).state = .fading) (hk : ¬(s.lamp i).fade.k + 1 < 8) :
    s.fadeExpiry i = s.rewriteLamp i fun p => p.fadeStep (s.timer (p.fadeN * Config.fadeUnitMs)) := by
  have hsteady : ((s.lamp i).fadeStep (s.timer ((s.lamp i).fadeN * Config.fadeUnitMs))).state ≠ (s.lamp i).state := by
    rw [Lamp.fadeStep, if_neg hk, hstate]
    exact LampState.noConfusion
  exact if_neg hsteady

theorem exec_pwmActiveEnd (hi : i < 24) : exec (.pwmActiveEnd i) s = .next (s.touchLamp i Lamp.activeEnd) := if_pos hi

end Steps

/-- Settles O52: the lamps' own steps record by record, and a change of a link as one event of each lamp that names it. -/
theorem lampsFollowLinksFadesAndBlinks : Obligations.LampsFollowLinksFadesAndBlinks := by
  refine ⟨?_, ?_, ?_⟩
  · intro s i tm hi hready hdue x k duty stepped finished blinked
    refine ⟨fun hrun _ hk => ?_, fun hrun hstate hk => ?_, fun hrun => exec_blinkTimerExpiry hi hready hrun hdue, fun f => Fade.dutyAt_falls⟩
    · have hstep : x.fadeStep (some { start := s.board.time, len := x.fadeN * 10 }) = stepped := if_pos hk
      rw [exec_fadeStepExpiry hi hready hrun hdue, State.fadeExpiry_step hk, ← hstep]
      rfl
    · replace hk : ¬k < 8 := Nat.not_lt.mpr hk
      have hend : x.fadeStep (some { start := s.board.time, len := x.fadeN * 10 }) = { finished with edition := x.edition } := if_neg hk
      rw [exec_fadeStepExpiry hi hready hrun hdue, State.fadeExpiry_end hstate hk]
      exact congrArg (fun p : Lamp => Host.Outcome.next { s with lamps := { s.lamps with
        recs := put s.lamps.recs i { p with edition := x.edition + 1 }, edition := s.lamps.edition + 1 } }) hend
  · intro s
    refine ⟨⟨_, rfl, rfl, fun i hi => (look_mapTable _ _ _ hi).trans (Lamp.periodStart_eq _)⟩, ?_⟩
    intro i hi x
    refine ⟨fun hon hduty => ?_, fun hfull => ?_⟩
    · have hgoes : x.activeEnd = { x with pin := x.outInverted } :=
        if_neg (not_or.mpr ⟨Bool.eq_false_iff.mp hon, Nat.not_le.mpr hduty⟩)
      rw [exec_pwmActiveEnd hi, ← hgoes]
      rfl
    · have hstays : x.activeEnd = x := if_pos hfull
      rw [exec_pwmActiveEnd hi, State.touchLamp, adjust, show (look s.lamps.recs i).activeEnd = look s.lamps.recs i from hstays, put_look]
  · intro s l r level target follows alarm blinking steady fading becomes rewrites only u v
    have hu := s.lampLevelChange_told l
    have hv := s.lampStateChange_told l
    refine ⟨⟨hu.only, fun i hi h => (hu.lamp i hi).trans (if_neg h)⟩, ⟨hv.only, fun i hi h => (hv.lamp i hi).trans (if_neg h)⟩, ?_⟩
    intro i hi hfollows x y
    have hbecomes {z : Lamp} (h : s.levelled l x = z) : becomes u i z := h ▸ (hu.lamp i hi).trans (if_pos hfollows)
    have hbecomes' {z : Lamp} (h : s.alarmTested l x = z) : becomes v i z := h ▸ (hv.lamp i hi).trans (if_pos hfollows)
    have hy : ({ x with target := x.targetFor r } : Lamp) = y :=
      congrArg (fun target => { x with target }) (Lamp.targetFor_link hfollows.1 r)
    have halarm : x.alarms r = true ↔ alarm x := decide_eq_true_iff.trans (and_iff_right hfollows.1)
    refine ⟨fun hdark => ?_, fun hlit => ?_, fun hblinks => ?_⟩
    · exact ⟨hbecomes ((Lamp.levelChange_dark r _ _ hdark).trans hy), hbecomes' (Lamp.alarmTest_dark r _ hdark)⟩
    · have hlevel := Lamp.levelChange_lit r (some { start := s.board.time, len := x.fadeN * 10 }) (some { start := s.board.time, len := 250 }) hlit
      have htest := Lamp.alarmTest_lit r (some { start := s.board.time, len := 250 }) hlit
      rw [hy] at hlevel
      refine ⟨fun h => ⟨hbecomes ?_, hbecomes' ?_⟩, fun h hrise => hbecomes ?_, fun h hfall => hbecomes ?_, fun h => hbecomes' ?_⟩
      · exact hlevel.trans (if_pos (halarm.mpr h))
      · exact htest.trans (if_pos (halarm.mpr h))
      · exact hlevel.trans ((if_neg (mt halarm.mp h)).trans (if_pos hrise))
      · exact hlevel.trans ((if_neg (mt halarm.mp h)).trans (if_neg (Nat.not_le.mpr hfall)))
      · exact htest.trans (if_neg (mt halarm.mp h))
    · have hlevel : s.levelled l x = _ := Lamp.levelChange_blinking r _ _ hblinks
      have htest : s.alarmTested l x = _ := Lamp.alarmTest_blinking r _ hblinks
      rw [hy] at hlevel
      refine ⟨fun h => ⟨hbecomes ?_, hbecomes' ?_⟩, fun h => ⟨hbecomes ?_, hbecomes' ?_⟩⟩
      · exact hlevel.trans (if_pos (halarm.mpr h))
      · exact htest.trans (if_pos (halarm.mpr h))
      · exact hlevel.trans (if_neg (mt halarm.mp h))
      · exact htest.trans (if_neg (mt halarm.mp h))

end Sys2Proof.Machine
end

section
/-! SUPPORT and the proofs on the lamp driver's requests: SET_LAMP, LAMP_TEST and the end of a lamp test (R143, R144, R148, R150 to R152). -/

namespace Sys2Proof.Machine

/-! ## SET_LAMP (R143, R152) -/

/-- The lamp mode that a word holding at most 2 names (R141). -/
def writtenMode (v : Nat) : LampMode := if v = 0 then .off else if v = 1 then .link else .fixed

theorem lampModeOf_eq (v : Nat) : lampModeOf v = if 2 < v then none else some (writtenMode v) := by
  match v with
  | 0 | 1 | 2 => rfl
  | _ + 3 => simp [lampModeOf]

theorem writtenMode_off (v : Nat) : writtenMode v = .off ↔ v = 0 := by
  unfold writtenMode
  split
  · next h => simp [h]
  · next h => split <;> simp [h]

theorem writtenMode_link (v : Nat) : writtenMode v = .link ↔ v = 1 := by
  unfold writtenMode
  split
  · next h => simp [h]
  · split <;> simp [*]

/-- A lamp decided afresh from its configuration, case by case (R143, R144, R148, R152). -/
theorem Lamp.configured_eq (p : Lamp) (r : LinkRec) (testing : Bool) (blinkTimer : Option Timer) :
    let state : LampState := if p.mode = .off then .off else if testing then .test else if p.alarms r then .blinking else .steady
    p.configured r testing blinkTimer = { p with
      state := state, target := p.targetFor r
      duty := if p.mode = .off then 0 else if testing then 64 else if p.alarms r then p.dutyProgram else p.targetFor r
      fadeTimer := none, blinkOn := if state = .blinking then true else p.blinkOn, blinkTimer := if state = .blinking then blinkTimer else none } := by
  intro state
  by_cases hoff : p.mode = .off
  · have htarget : p.targetFor r = 0 := by simp only [Lamp.targetFor, hoff]
    simp [state, Lamp.configured, hoff, htarget]
  cases testing with
  | true => simp [state, Lamp.configured, hoff, Lamp.test]
  | false =>
    have hkept : ({ p with target := p.targetFor r } : Lamp).alarms r = p.alarms r := rfl
    cases halarm : p.alarms r <;> simp [state, Lamp.configured, Lamp.decided, hoff, hkept, halarm, Lamp.blink, Lamp.steady]

/-- Lamp p with the configuration that the words of slot n carry (R143). -/
def State.lampFields (s : State) (n : Nat) (p : Lamp) : Lamp :=
  let w := s.param n
  { p with
    mode := writtenMode (w 5), link := lampLink (w 6)
    dutyOff := min 64 (w 7), dutyIso := min 64 (w 8), dutyPreview := min 64 (w 9), dutyProgram := min 64 (w 10), fixed := min 64 (w 11)
    fadeN := min 16 (w 12), alarm := decide (w 13 ≠ 0), inverted := decide (w 14 = 1) }

/-- The part after lamp i is configured by the words of slot n (R143). -/
def State.lampConfigured (s : State) (n i : Nat) : State :=
  s.rewriteLamp i fun p => (s.lampFields n p).configured (s.link (lampLink (s.param n 6))) s.testing (s.timer Config.blinkMs)

/-- SET_LAMP in a slot just taken: its checks, its clamps, and the rewrite of the lamp (R143, R152). -/
theorem State.doSetLamp_taken (s : State) (n : Nat) :
    let p := s.param n
    let i := p 4
    let u := s.lampConfigured n i
    (s.dropAttention.setSlot n .taken).doSetLamp n =
      if 2 < p 5 ∨ 23 < i ∨ 1 < p 14 ∨ (p 5 = 1 ∧ 31 < p 6) then s.answered n .badField (lampWords none none)
      else u.answered n (if 64 < p 7 ∨ 64 < p 8 ∨ 64 < p 9 ∨ 64 < p 10 ∨ 64 < p 11 ∨ 16 < p 12 ∨ 1 < p 13 then .clamped else .ok)
        (lampWords (some (u.lamp i).state) (some (u.lamp i).duty)) := by
  intro p i u
  have hclamp (hi v : Nat) : clampTo 0 hi v = { value := min hi v, was := decide (hi < v) } := by simp [clampTo_eq]
  have henable (v : Nat) : decide (min 1 v = 1) = decide (v ≠ 0) := decide_eq_decide.mpr (by omega)
  have hconfigured (r : Result) (words : List (Nat × Word)) :
      ((s.lampConfigured n i).dropAttention.setSlot n .taken).complete n r words = u.answered n r words := State.complete_taken _ _ _ _
  simp only [State.doSetLamp, State.taken_param, lampModeOf_eq, State.complete_taken]
  by_cases hmode : 2 < p 5
  · simp only [p, hmode, if_pos, true_or]
  · simp only [p, hmode, if_neg, not_false_eq_true, false_or, hclamp, henable, writtenMode_link, okOrClamped, Bool.or_eq_true, decide_eq_true_eq, or_assoc]
    exact if_congr Iff.rfl rfl (hconfigured _ _)

section SetLamp

variable (s : State) (n i : Nat)

/-- The record that lamp i holds after a SET_LAMP (R143). -/
theorem State.lampConfigured_lamp (hi : i < 24) : (s.lampConfigured n i).lamp i =
    { (s.lampFields n (s.lamp i)).configured (s.link (lampLink (s.param n 6))) s.testing (s.timer Config.blinkMs) with
      edition := (s.lamp i).edition + 1 } := look_adjust_same _ _ _ hi

/-- The target duty of a configuration: of the link's level in mode LINK alone (R144). -/
theorem State.lampFields_targetFor (p : Lamp) (r : LinkRec) : (s.lampFields n p).targetFor r =
    if s.param n 5 = 0 then 0 else if s.param n 5 = 1 then (s.lampFields n p).dutyFor r.level else min 64 (s.param n 11) := by
  by_cases hoff : s.param n 5 = 0
  · have hmode : (s.lampFields n p).mode = .off := (writtenMode_off _).mpr hoff
    simp only [Lamp.targetFor, hmode, if_pos hoff]
  by_cases hlink : s.param n 5 = 1
  · have hmode : (s.lampFields n p).mode = .link := (writtenMode_link _).mpr hlink
    simp only [Lamp.targetFor, hmode, if_neg hoff, if_pos hlink]
  · have hmode : (s.lampFields n p).mode = .fixed := (if_neg hoff).trans (if_neg hlink)
    simp only [Lamp.targetFor, hmode, if_neg hoff, if_neg hlink]
    rfl

end SetLamp

/-- Settles O50: the lamp is rewritten once, from its clamped configuration, and its state and duty answered. -/
theorem setLampDecidesTheLampAfresh : Obligations.SetLampDecidesTheLampAfresh := by
  intro n s hn ht p i l r d mode level target alarm testing old state duty new
  have hexec : exec (.setLamp n) s = .next ((s.dropAttention.setSlot n .taken).doSetLamp n).settle := State.request_taken s n 23 _ hn ht
  rw [hexec, State.doSetLamp_taken]
  refine congrArg (fun t : State => Host.Outcome.next t.settle) ?_
  by_cases hbad : 2 < p 5 ∨ 23 < i ∨ 1 < p 14 ∨ (p 5 = 1 ∧ 31 < p 6)
  · exact (if_pos hbad).trans (if_pos hbad).symm
  refine (if_neg hbad).trans ((if_neg hbad).trans ?_).symm
  have hi : i < 24 := by omega
  have hnew : { (s.lampFields n old).configured r testing (s.timer Config.blinkMs) with edition := old.edition + 1 } = new := by
    have hoff : (s.lampFields n old).mode = .off ↔ p 5 = 0 := writtenMode_off (p 5)
    have halarm : (s.lampFields n old).alarms r = alarm :=
      decide_eq_decide.mpr (and_congr (writtenMode_link (p 5)) (and_congr_left' decide_eq_true_iff))
    have htarget : (s.lampFields n old).targetFor r = target := by
      rw [State.lampFields_targetFor]
      obtain h | h | h : p 5 = 0 ∨ p 5 = 1 ∨ p 5 = 2 := by omega
      all_goals simp only [target, p] at h ⊢; simp only [h]; rfl
    rw [Lamp.configured_eq]
    simp only [hoff, halarm, htarget]
    rfl
  have hlamp : (s.lampConfigured n i).lamp i = new := (s.lampConfigured_lamp n i hi).trans hnew
  have hrecs : s.lampConfigured n i = { s with lamps := { s.lamps with recs := put s.lamps.recs i new, edition := s.lamps.edition + 1 } } :=
    congrArg (fun p => { s with lamps := { s.lamps with recs := put s.lamps.recs i p, edition := s.lamps.edition + 1 } }) hnew
  show _ = State.answered (s.lampConfigured n i) n _ (lampWords (some ((s.lampConfigured n i).lamp i).state) (some ((s.lampConfigured n i).lamp i).duty))
  rw [hlamp, hrecs]
  rfl

/-! ## The lamp test (R150, R151) -/

/-- The state t differs from s in no more than the lamp records and the lamps region edition. -/
def State.LampRecsOnly (s t : State) : Prop := ∃ recs edition, t = { s with lamps := { s.lamps with recs, edition } }

/-- Every lamp that meets c rewritten by g, in rising order; no other lamp changes. -/
theorem State.forPlaces_rewriteLamp {s : State} {f : Nat → State → State} {c : Lamp → Prop} [DecidablePred c] {g : Lamp → Lamp}
    (hf : ∀ n t, s.LampRecsOnly t → f n t = if c (t.lamp n) then t.rewriteLamp n g else t) :
    s.LampRecsOnly (forPlaces 24 f s) ∧ ∀ i < 24, (forPlaces 24 f s).lamp i =
      if c (s.lamp i) then { g (s.lamp i) with edition := (s.lamp i).edition + 1 } else s.lamp i := by
  obtain ⟨honly, hlamps, -⟩ := State.foldl_places State.lamp (R := State.LampRecsOnly) (f := fun t n => f n t)
    (g := fun i => if c (s.lamp i) then { g (s.lamp i) with edition := (s.lamp i).edition + 1 } else s.lamp i) ⟨_, _, rfl⟩
    (List.nodup_range (n := 24)) fun t n hn ht hsame => by
      replace hn : n < 24 := List.mem_range.mp hn
      rw [hf n t ht, hsame]
      split
      · obtain ⟨recs, edition, rfl⟩ := ht
        refine ⟨⟨_, _, rfl⟩, (look_adjust_same _ _ _ hn).trans ?_, fun m hm => look_adjust_ne _ _ _ _ hm.symm⟩
        rw [← hsame]
        rfl
      · exact ⟨ht, hsame, fun _ _ => rfl⟩
  exact ⟨honly, fun i hi => hlamps i (List.mem_range.mpr hi)⟩

/-- The start of a test lights every lamp that is not OFF (R150). -/
theorem State.startTest_lamps (s : State) : s.LampRecsOnly s.startTest ∧ ∀ i < 24, s.startTest.lamp i =
    if (s.lamp i).mode ≠ .off then { (s.lamp i).test with edition := (s.lamp i).edition + 1 } else s.lamp i :=
  State.forPlaces_rewriteLamp (c := fun p => p.mode ≠ .off) fun _ _ _ => (ite_not _ _ _).symm

/-- The end of a test decides every lamp in TEST afresh (R151). -/
theorem State.endTest_lamps (s : State) : { s with lamps := { s.lamps with testTimer := none } }.LampRecsOnly s.endTest ∧
    ∀ i < 24, s.endTest.lamp i = if (s.lamp i).state = .test
      then { (s.lamp i).decided (s.link (s.lamp i).link) (s.timer Config.blinkMs) with edition := (s.lamp i).edition + 1 } else s.lamp i := by
  refine State.forPlaces_rewriteLamp (s := { s with lamps := { s.lamps with testTimer := none } })
    (c := fun p => p.state = .test) (g := fun p => p.decided (s.link p.link) (s.timer Config.blinkMs)) ?_
  rintro n _ ⟨recs, edition, rfl⟩
  rfl

/-- A lamp decided afresh by a rewrite (R151). -/
theorem Lamp.decided_edition (x : Lamp) (r : LinkRec) (blinkTimer : Option Timer) (e : Word) : { x.decided r blinkTimer with edition := e } =
    if x.alarms r then { x.blink blinkTimer with edition := e } else { x.steady x.target with edition := e } :=
  apply_ite (fun p : Lamp => { p with edition := e }) (x.alarms r = true) _ _

/-- No more than the lamps may have changed. -/
theorem State.LampRecsOnly.lampsOnly {s t : State} {p : Lamps} (h : { s with lamps := p }.LampRecsOnly t) : t = { s with lamps := t.lamps } := by
  obtain ⟨recs, edition, rfl⟩ := h
  rfl

theorem State.LampRecsOnly.testTimer {s t : State} (h : s.LampRecsOnly t) : t.lamps.testTimer = s.lamps.testTimer := by
  obtain ⟨recs, edition, rfl⟩ := h
  rfl

/-- LAMP_TEST ON lights the lamps unless a test is in progress, and starts the test timer anew (R150). -/
theorem State.testOn_lamps (s : State) (ms : Nat) : { s with lamps := { s.lamps with testTimer := s.timer ms } }.LampRecsOnly (s.testOn ms) ∧
    ∀ i < 24, (s.testOn ms).lamp i = if s.testing = true ∨ (s.lamp i).mode = .off then s.lamp i
      else { (s.lamp i).test with edition := (s.lamp i).edition + 1 } := by
  by_cases htest : s.testing = true
  · rw [State.testOn, if_pos htest]
    exact ⟨⟨_, _, rfl⟩, fun i _ => (if_pos (.inl htest)).symm⟩
  · rw [State.testOn, if_neg htest]
    obtain ⟨honly, hlamps⟩ := s.startTest_lamps
    generalize s.startTest = t at honly hlamps
    obtain ⟨recs, edition, rfl⟩ := honly
    refine ⟨⟨recs, edition, rfl⟩, fun i hi => (hlamps i hi).trans ?_⟩
    rw [ite_not]
    exact if_congr (or_iff_right htest).symm rfl rfl

section Served

variable {s t : State} {n : Nat}

/-- A LAMP_TEST that is served, in a part of which it changed no more than the lamps: its slot and the blocks beside (R186, R195). -/
theorem State.complete_testWords (ht : t = { s with lamps := t.lamps }) (hn : n < 32) (hbody : s.board.body.wf = true) (r : Result) (before : Bool) :
    let u := t.complete n r (testWords (some before) t.lampsInTest)
    (u.plan = s.plan ∧ u.links = s.links ∧ u.bus = s.bus ∧ u.talk = s.talk ∧ u.matrix = s.matrix ∧ u.lines = s.lines) ∧ u.lamps = t.lamps ∧
      u.slot n = .done ∧ u.slotWord n 3 = resultNat r.ctorIdx ∧ u.slotWord n 6 = resultNat (flag before) ∧
      u.slotWord n 7 = resultNat u.lampsInTest := by
  intro u
  have hu : u = { s with lamps := t.lamps, board := s.board.completed n r (testWords (some before) t.lampsInTest) } := by
    refine (t.complete_board _ _ _).trans ?_
    rw [ht]
  have hlamps : u.lamps = t.lamps := by rw [hu]
  have hcount : u.lampsInTest = t.lampsInTest :=
    congrArg (fun ls : Lamps => (placesWhere 24 fun i => decide ((look ls.recs i).state = .test)).length) hlamps
  have hnodup : [6, 7, 3].Nodup := by decide
  have hread {k : Nat} {v : Word} (hv : (k, v) ∈ testWords (some before) t.lampsInTest ++ [(3, resultNat r.ctorIdx)]) : u.slotWord n k = v := by
    rw [State.slotWord, hu]
    refine Memory.read_writes_mem hbody ?_ hv
    exact hnodup
  refine ⟨by rw [hu]; exact ⟨rfl, rfl, rfl, rfl, rfl, rfl⟩, hlamps, ?_, hread (by simp), hread (by simp [testWords, resultOpt, resultNat]),
    hread (by simp [testWords, hcount])⟩
  rw [State.slot, hu]
  exact look_put_same _ _ _ hn

/-- LAMP_TEST ON: a test of 10 s by default, at most 60 s (R150). -/
theorem State.doLampTest_on (h : s.param n 4 = 1) :
    let secs := s.param n 5
    let t := s.testOn (1000 * if secs = 0 ∨ secs = 0xFFFF then 10 else min 60 secs)
    s.doLampTest n = t.complete n (okOrClamped (decide (secs ≠ 0xFFFF ∧ 60 < secs))) (testWords (some s.testing) t.lampsInTest) := by
  intro secs t
  have hdur : clampOpt 1 60 10 (optNonzero secs) = Clamped.mk (if secs = 0 ∨ secs = 0xFFFF then 10 else min 60 secs) (decide (secs ≠ 0xFFFF ∧ 60 < secs)) := by
    rw [clampOpt_optNonzero (by decide)]
    split
    · next habsent => rw [decide_eq_false (by omega)]
    · next hgiven => rw [decide_eq_decide.mpr (show 60 < secs ↔ secs ≠ 0xFFFF ∧ 60 < secs by omega)]
  simp only [State.doLampTest, h, Nat.lt_irrefl, if_false, if_true, decide_true, Bool.true_and]
  rw [hdur]

/-- LAMP_TEST STOP ignores its duration (R151). -/
theorem State.doLampTest_stop (h : s.param n 4 = 0) :
    s.doLampTest n = s.testStop.complete n .ok (testWords (some s.testing) s.testStop.lampsInTest) := by
  simp only [State.doLampTest, h, Nat.not_lt_zero, zero_ne_one, if_false, decide_false, Bool.false_and]
  rfl

end Served

theorem resultNat_okOrClamped (b : Bool) : resultNat (okOrClamped b).ctorIdx = if b then 1 else 0 := by cases b <;> rfl

/-- Settles O51: a test's start and its end as one rewrite of each lamp they concern, and the slot's words as the completion writes them. -/
theorem lampTestCoversEveryLampNotOff : Obligations.LampTestCoversEveryLampNotOff := by
  intro n s hn secs dur before rest ended
  have hended (b : Board) (htime : b.time = s.board.time) (u : State) (hu : u.lamps = (State.endTest { s with board := b }).lamps) : ended u := by
    obtain ⟨honly, hlamps⟩ := State.endTest_lamps { s with board := b }
    refine ⟨(congrArg Lamps.testTimer hu).trans honly.testTimer, ?_⟩
    intro i hi x
    refine (congrArg (fun ls : Lamps => look ls.recs i) hu).trans ((hlamps i hi).trans ?_)
    rw [ite_not]
    refine if_congr Iff.rfl ?_ rfl
    rw [Lamp.decided_edition, State.timer, State.now, htime]
    rfl
  refine ⟨fun ht htables => ?_, fun tm hready hrun hdue => ?_⟩
  · set taken := s.dropAttention.setSlot n .taken
    have hexec : exec (.lampTest n) s = .next (taken.doLampTest n).settle := State.request_taken s n 24 _ hn ht
    have hbefore : resultNat (flag s.testing) = before := by
      unfold State.testing
      cases hrun : s.lamps.testTimer <;> simp [before, hrun, flag, resultNat]
    refine ⟨fun haction => ?_, fun haction => ?_, fun haction => ?_⟩
    · rw [hexec]
      exact congrArg (fun t : State => Host.Outcome.next t.settle) ((if_pos haction).trans (State.complete_taken _ _ _ _))
    · obtain ⟨honly, hon⟩ := taken.testOn_lamps (1000 * dur)
      obtain ⟨hrest, hlamps, hdone, hcode, htested, hcount⟩ := State.complete_testWords honly.lampsOnly hn htables.1
        (okOrClamped (decide (secs ≠ 0xFFFF ∧ 60 < secs))) s.testing
      have hdo : taken.doLampTest n = _ := State.doLampTest_on haction
      refine ⟨_, hexec.trans (congrArg (fun t : State => Host.Outcome.next t.settle) hdo), hrest, hdone,
        (congrArg Lamps.testTimer hlamps).trans honly.testTimer, fun i hi => ?_, ?_, htested.trans hbefore, hcount⟩
      · exact (congrArg (fun ls : Lamps => look ls.recs i) hlamps).trans (hon i hi)
      · exact hcode.trans ((resultNat_okOrClamped _).trans (if_congr decide_eq_true_iff rfl rfl))
    · have hstop : taken.testStop = { taken with lamps := taken.testStop.lamps } := by
        unfold State.testStop
        split
        · exact taken.endTest_lamps.1.lampsOnly
        · rfl
      obtain ⟨hrest, hlamps, hdone, -, htested, -⟩ := State.complete_testWords hstop hn htables.1 .ok s.testing
      have hdo : taken.doLampTest n = _ := State.doLampTest_stop haction
      refine ⟨_, hexec.trans (congrArg (fun t : State => Host.Outcome.next t.settle) hdo), hrest, hdone, htested.trans hbefore,
        fun hrun => hended taken.board rfl _ (hlamps.trans ?_), fun hidle => hlamps.trans ?_⟩
      · exact congrArg State.lamps (if_pos hrun)
      · have hstays : taken.testStop = taken := if_neg (by rw [State.testing, show taken.lamps.testTimer = none from hidle]; decide)
        exact (congrArg State.lamps hstays :)
  · refine ⟨s.endTest, ?_, ?_, hended s.board rfl _ rfl⟩
    · exact congrArg Host.Outcome.next (by rw [hrun, State.onExpiry_due hready hdue])
    · rw [s.endTest_lamps.1.lampsOnly]
      exact ⟨rfl, rfl, rfl, rfl, rfl, rfl⟩

end Sys2Proof.Machine
end

section
/-! SUPPORT and the proof on SET_STATION and SET_KEY (R153 to R155). -/

namespace Sys2Proof.Machine

/-- The key mode that a word holding at most 3 names (R154). -/
def writtenKeyMode (v : Nat) : KeyMode := if v = 0 then .none else if v = 1 then .momentary else if v = 2 then .latching else .auto

theorem keyModeOf_eq (v : Nat) : keyModeOf v = if 3 < v then none else some (writtenKeyMode v) := by
  match v with
  | 0 | 1 | 2 | 3 => rfl
  | _ + 4 => simp [keyModeOf]

/-- A station that a request refuses: given, and above 15 (R153, R160). -/
theorem lt_optWord_iff (v : Nat) : 15 < (optWord v).getD 0 ↔ v ≠ 0xFFFF ∧ 15 < v := by
  unfold optWord
  split <;> simp [*]

section Settings

variable (s : State) (n : Nat)

/-- A write of the station settings, and the one rewrite it counts when it changes one (R153). -/
theorem State.writeStation_eq (stations : Vector Nat 16) (latchWindow : Nat) : s.writeStation stations latchWindow =
    if stations = s.talk.stations ∧ latchWindow = s.talk.latchWindow then s
    else { s with talk := { s.talk with stations, latchWindow, edition := s.talk.edition + 1 }, board := s.board.note [.talk] } := rfl

/-- A write of a key's configuration, and the one rewrite it counts when it changes it (R154, R155). -/
theorem State.writeKey_eq (p : Nat) (mode : KeyMode) (target atten hang : Nat) :
    let new : Key := { s.key p with mode, target, atten, hang }
    s.writeKey p mode target atten hang = if new = s.key p then s
      else { s with talk := { s.talk with keys := put s.talk.keys p new, edition := s.talk.edition + 1 }, board := s.board.note [.talk] } := rfl

/-- A change of talkback alone by the request in a slot just taken, answered. -/
theorem State.complete_taken_ite {c : Prop} [Decidable c] (talk : Talk) (es : List Event) (r : Result) :
    State.complete (if c then s.dropAttention.setSlot n .taken
        else { s.dropAttention.setSlot n .taken with talk, board := (s.dropAttention.setSlot n .taken).board.note es }) n r =
      if c then s.answered n r [] else State.answered { s with talk, board := s.board.note es } n r [] := by
  split
  · exact State.complete_taken _ _ _ _
  · exact State.complete_taken { s with talk, board := s.board.note es } _ _ _

/-- SET_STATION in a slot just taken (R153). -/
theorem State.doSetStation_taken :
    let p := s.param n
    let stations := if p 4 = 0xFFFF then s.talk.stations else put s.talk.stations (p 4) (min 7 (p 5))
    let latchWindow := if p 6 = 0xFFFF then s.talk.latchWindow else max 100 (min 2000 (p 6))
    (s.dropAttention.setSlot n .taken).doSetStation n =
      if p 4 ≠ 0xFFFF ∧ 15 < p 4 then s.answered n .badField []
      else ((s.dropAttention.setSlot n .taken).writeStation stations latchWindow).complete n
        (if (p 4 ≠ 0xFFFF ∧ 7 < p 5) ∨ (p 6 ≠ 0xFFFF ∧ (p 6 < 100 ∨ 2000 < p 6)) then .clamped else .ok) := by
  intro p stations latchWindow
  have hpriority : clampTo 0 7 (p 5) = Clamped.mk (min 7 (p 5)) (decide (7 < p 5)) := by simp [clampTo_eq]
  have hstations : (match optWord (p 4) with
      | none => s.talk.stations
      | some st => put s.talk.stations st (clampTo 0 7 (p 5)).value) = stations := by
    rw [hpriority, optWord]
    by_cases habsent : p 4 = 0xFFFF <;> simp [stations, habsent]
  have hwindow : (clampOpt 100 2000 s.talk.latchWindow (optWord (p 6))).value = latchWindow := by
    rw [clampOpt_value (by decide)]
    exact apply_ite (fun v : Option Nat => v.elim s.talk.latchWindow fun x => max 100 (min 2000 x)) _ _ _
  have hclamped : ((optWord (p 4)).isSome && (clampTo 0 7 (p 5)).was || (clampOpt 100 2000 s.talk.latchWindow (optWord (p 6))).was) = true ↔
      (p 4 ≠ 0xFFFF ∧ 7 < p 5) ∨ (p 6 ≠ 0xFFFF ∧ (p 6 < 100 ∨ 2000 < p 6)) := by
    rw [Bool.or_eq_true, Bool.and_eq_true, clampOpt_was (by decide), hpriority]
    simp [optWord]
  refine if_congr (lt_optWord_iff _) (s.complete_taken n _ _) ?_
  refine (congrArg₂ (fun stations latchWindow => (State.writeStation _ stations latchWindow).complete n _) hstations hwindow).trans ?_
  exact congrArg (State.complete _ n) (if_congr hclamped rfl rfl)

/-- SET_KEY in a slot just taken (R155). -/
theorem State.doSetKey_taken :
    let p := s.param n
    let place := keyPlace (p 4) (p 5)
    (s.dropAttention.setSlot n .taken).doSetKey n =
      if 15 < p 4 ∨ 11 < p 5 ∨ 3 < p 6 ∨ 37 < p 7 then s.answered n .badField []
      else if (s.key place).activity ≠ .idle then s.answered n .inUse []
      else ((s.dropAttention.setSlot n .taken).writeKey place (writtenKeyMode (p 6)) (p 7) (min 126 (p 8)) (min 2000 (p 9))).complete n
        (if 126 < p 8 ∨ 2000 < p 9 then .clamped else .ok) := by
  intro p place
  have hclamp (hi v : Nat) : clampTo 0 hi v = { value := min hi v, was := decide (hi < v) } := by simp [clampTo_eq]
  have hactive : (s.key place).active = true ↔ (s.key place).activity ≠ .idle := decide_eq_true_iff
  have hbad : (15 < p 4 ∨ 11 < p 5 ∨ 3 < p 6 ∨ 37 < p 7) ↔ 3 < p 6 ∨ 15 < p 4 ∨ 11 < p 5 ∨ 37 < p 7 := by omega
  simp only [State.doSetKey, State.taken_param, keyModeOf_eq, hclamp, State.complete_taken, okOrClamped, Bool.or_eq_true, decide_eq_true_eq]
  rw [if_congr hbad rfl rfl]
  by_cases hmode : 3 < p 6
  · simp only [p, hmode, if_true, true_or]
  · simp only [p, hmode, if_false, false_or]
    exact if_congr Iff.rfl rfl (if_congr hactive rfl rfl)

end Settings

/-- Settles O53: each request writes its settings when they differ, as one rewrite of the talk region. -/
theorem setStationAndSetKeyWriteTheirSettings : Obligations.SetStationAndSetKeyWriteTheirSettings := by
  intro n s hn p stations window old mode new
  refine ⟨fun ht => ?_, fun ht => ?_⟩
  · have hexec : exec (.setStation n) s = .next ((s.dropAttention.setSlot n .taken).doSetStation n).settle := State.request_taken s n 25 _ hn ht
    rw [hexec, State.doSetStation_taken, State.writeStation_eq]
    refine congrArg (fun t : State => Host.Outcome.next t.settle) (if_congr Iff.rfl rfl ?_)
    exact s.complete_taken_ite n _ [.talk] _
  · have hexec : exec (.setKey n) s = .next ((s.dropAttention.setSlot n .taken).doSetKey n).settle := State.request_taken s n 26 _ hn ht
    rw [hexec, State.doSetKey_taken, State.writeKey_eq]
    refine congrArg (fun t : State => Host.Outcome.next t.settle) (if_congr Iff.rfl rfl (if_congr Iff.rfl rfl ?_))
    exact s.complete_taken_ite n _ [.talk] _

end Sys2Proof.Machine
end

section
/-! SUPPORT on arbitration at a destination (R163 to R165): slots and priorities, the wait list, a request and a key that leaves. -/

namespace Sys2Proof.Machine

/-- No place below n satisfies p. -/
theorem head?_placesWhere_eq_none_iff {n : Nat} {p : Nat → Bool} : (placesWhere n p).head? = none ↔ ∀ j < n, p j = false := by
  simp [placesWhere]

/-! ## Slots and priorities (R163) -/

section Slots

variable (d : Dest)

theorem Dest.mem_talkers {t : Option Talker} : t ∈ d.talkers ↔ ∃ j < 4, d.slot j = t := by
  simp [Dest.talkers]

theorem Dest.freeSlot_eq_some {i : Nat} (hi : i < 4) (hfree : d.slot i = none) (hbelow : ∀ j < i, d.slot j ≠ none) : d.freeSlot = some i :=
  head?_placesWhere_eq_some_iff.mpr ⟨hi, by rw [hfree]; rfl, fun j hj => Option.isNone_eq_false_iff.mpr (Option.isSome_iff_ne_none.mpr (hbelow j hj))⟩

theorem Dest.freeSlot_eq_none (hfull : ∀ j < 4, d.slot j ≠ none) : d.freeSlot = none :=
  head?_placesWhere_eq_none_iff.mpr fun j hj => Option.isNone_eq_false_iff.mpr (Option.isSome_iff_ne_none.mpr (hfull j hj))

/-- The lowest priority is the greatest of 7 and below that no talker's is below (R163). -/
theorem Dest.le_lowestPriority_iff {p : Nat} :
    p ≤ d.lowestPriority ↔ p ≤ 7 ∧ ∀ j < 4, ∀ x, d.slot j = some x → p ≤ x.req.priority := by
  have hfold (ts : List (Option Talker)) (m : Nat) : (p ≤ ts.foldl (fun m t => match t with
      | none => m
      | some t => min m t.req.priority) m) ↔ p ≤ m ∧ ∀ x, some x ∈ ts → p ≤ x.req.priority := by
    induction ts generalizing m with
    | nil => simp
    | cons t ts ih =>
      rw [List.foldl_cons, ih]
      cases t with
      | none => simp
      | some t => simp [and_assoc]
  refine (hfold d.talkers 7).trans (and_congr_right fun _ => ?_)
  simp only [Dest.mem_talkers]
  exact ⟨fun h j hj x hx => h x ⟨j, hj, hx⟩, fun h x ⟨j, hj, hx⟩ => h j hj x hx⟩

/-- A talker of a full destination whose priority none is below has the lowest priority. -/
theorem Dest.lowestPriority_eq {i : Nat} {t : Talker} (hi : i < 4) (ht : d.slot i = some t) (hle : t.req.priority ≤ 7)
    (hleast : ∀ j < 4, ∀ x, d.slot j = some x → t.req.priority ≤ x.req.priority) : d.lowestPriority = t.req.priority :=
  le_antisymm ((d.le_lowestPriority_iff.mp le_rfl).2 i hi t ht) (d.le_lowestPriority_iff.mpr ⟨hle, hleast⟩)

/-- Among the talkers of the lowest priority the one granted latest is bumped (R163). -/
theorem Dest.bumpSlot_eq {i : Nat} {t : Talker} (hperm : d.grant.Perm [0, 1, 2, 3]) (hi : i < 4) (ht : d.slot i = some t)
    (hlowest : d.lowestPriority = t.req.priority)
    (hlatest : ∀ j < 4, ∀ x, d.slot j = some x → x.req.priority = t.req.priority → d.grant.idxOf j ≤ d.grant.idxOf i) : d.bumpSlot = some i := by
  have hnodup : d.grant.Nodup := hperm.nodup_iff.mpr (by decide)
  have hmem (j : Nat) : j ∈ d.grant ↔ j < 4 := hperm.mem_iff.trans (by simp; omega)
  obtain ⟨before, after, hgrant⟩ := List.append_of_mem ((hmem i).mpr hi)
  rw [hgrant] at hnodup
  obtain ⟨-, hafter, hapart⟩ := List.nodup_append.mp hnodup
  have hlast : d.grant.idxOf i = before.length := by
    rw [hgrant, List.idxOf_append_of_notMem fun h => hapart i h i List.mem_cons_self rfl]
    simp
  refine List.find?_eq_some_iff_append.mpr ⟨?_, after.reverse, before.reverse, by simp [hgrant], fun j hj => ?_⟩
  · rw [ht]
    exact decide_eq_true hlowest.symm
  · replace hj : j ∈ after := List.mem_reverse.mp hj
    have hj4 : j < 4 := (hmem j).mp (by simp [hgrant, hj])
    have hji : i ≠ j := fun h => (List.nodup_cons.mp hafter).1 (h ▸ hj)
    have hlater : before.length < d.grant.idxOf j := by
      rw [hgrant, List.idxOf_append_of_notMem fun h => hapart j h j (List.mem_cons_of_mem i hj) rfl, List.idxOf_cons_ne _ hji]
      omega
    cases hx : d.slot j with
    | none => rfl
    | some x =>
      have hhigher : x.req.priority ≠ d.lowestPriority := fun h => absurd (hlatest j hj4 x hx (h.trans hlowest)) (by omega)
      simp [hhigher]

/-- A key's slot at a destination, when it holds no other there. -/
theorem Dest.slotOf_eq_some {i st k : Nat} {t : Talker} (hi : i < 4) (ht : d.slot i = some t) (hst : t.req.station = st) (hk : t.req.key = k)
    (honly : ∀ j < 4, ∀ x, j ≠ i → d.slot j = some x → ¬(x.req.station = st ∧ x.req.key = k)) : d.slotOf st k = some i := by
  refine head?_placesWhere_eq_some_iff.mpr ⟨hi, ?_, fun j hj => ?_⟩
  · rw [ht]
    exact decide_eq_true ⟨hst, hk⟩
  · cases hx : d.slot j with
    | none => rfl
    | some x => exact decide_eq_false (honly j (by omega) x (by omega) hx)

theorem Dest.slotOf_eq_none {st k : Nat} (hnone : ∀ i < 4, ∀ t, d.slot i = some t → ¬(t.req.station = st ∧ t.req.key = k)) :
    d.slotOf st k = none := by
  refine head?_placesWhere_eq_none_iff.mpr fun j hj => ?_
  cases hx : d.slot j with
  | none => rfl
  | some x => exact decide_eq_false (hnone j hj x hx)

end Slots

/-! ## The wait list (R164) -/

/-- A wait list in wait order. -/
def waitOrdered (l : List Waiter) : Prop := l.Pairwise fun a b => b.priority < a.priority ∨ (a.priority = b.priority ∧ a.order < b.order)

theorem placeWaiter_perm (w : Waiter) (l : List Waiter) : (placeWaiter w l).Perm (w :: l) := by
  induction l with
  | nil => exact .refl _
  | cons x l ih =>
    unfold placeWaiter
    split
    · exact .refl _
    · exact (ih.cons x).trans (.swap w x l)

/-- A request placed in a wait list in order leaves it in order. -/
theorem placeWaiter_ordered {w : Waiter} {l : List Waiter} (hl : waitOrdered l) (hdistinct : ∀ x ∈ l, x.priority = w.priority → x.order ≠ w.order) :
    waitOrdered (placeWaiter w l) := by
  induction l with
  | nil => exact List.pairwise_singleton _ _
  | cons x l ih =>
    obtain ⟨hx, hrest⟩ := List.pairwise_cons.mp hl
    unfold placeWaiter
    split
    · next hbefore =>
      have hfirst := of_decide_eq_true hbefore
      refine List.pairwise_cons.mpr ⟨fun y hy => ?_, hl⟩
      obtain rfl | hy := List.mem_cons.mp hy
      · exact hfirst
      · have hxy := hx y hy
        omega
    · next hbefore =>
      have hlater := of_decide_eq_false (Bool.eq_false_iff.mpr hbefore)
      have hdiffer := hdistinct x List.mem_cons_self
      refine List.pairwise_cons.mpr ⟨fun y hy => ?_, ih hrest fun y hy => hdistinct y (List.mem_cons_of_mem x hy)⟩
      obtain rfl | hy := List.mem_cons.mp ((placeWaiter_perm w l).mem_iff.mp hy)
      · omega
      · exact hx y hy

/-! ## A request and a key that leaves (R163, R165) -/

section Arbitration

variable (d : Dest)

theorem filter_ne_twice (i : Nat) (l : List Nat) :
    (l.filter fun j => decide (j ≠ i)).filter (fun j => decide (j ≠ i)) = l.filter fun j => decide (j ≠ i) := by
  simp [List.filter_filter]

/-- An emptied slot granted at once (R163, R165). -/
theorem Dest.grantSlot_emptySlot (i : Nat) (w : Waiter) (talking : Bool) : (d.emptySlot i).grantSlot i w talking = d.grantSlot i w talking := by
  simp only [Dest.grantSlot, Dest.emptySlot, put_put, filter_ne_twice]

/-- A request takes the lowest free slot (R163). -/
theorem Dest.request_free {i : Nat} (h : d.freeSlot = some i) (w : Waiter) (talking : Bool) :
    d.request w talking = (d.grantSlot i w talking, none) := by
  simp only [Dest.request, h]

/-- A request bumps a talker of lower priority, which joins the wait list or is DENIED (R163). -/
theorem Dest.request_bumps {i : Nat} {t : Talker} (hfull : d.freeSlot = none) (hbump : d.bumpSlot = some i) (ht : d.slot i = some t) {w : Waiter}
    (hlower : d.lowestPriority < w.priority) (talking : Bool) : d.request w talking =
      if d.waiters.length < 8 then ({ d.grantSlot i w talking with waiters := placeWaiter t.req d.waiters }, none)
      else (d.grantSlot i w talking, some t.req) := by
  simp only [Dest.request, hfull, hlower, hbump, ht, if_true, Dest.join]
  have hwaiters : (d.emptySlot i).waiters = d.waiters := rfl
  rw [hwaiters]
  split
  · rw [← d.grantSlot_emptySlot]
    rfl
  · rw [d.grantSlot_emptySlot]

/-- A request that bumps no one joins the wait list or is DENIED (R163). -/
theorem Dest.request_joins (hfull : d.freeSlot = none) {w : Waiter} (hhigher : w.priority ≤ d.lowestPriority) (talking : Bool) :
    d.request w talking = d.join w := by
  simp only [Dest.request, hfull, if_neg (Nat.not_lt.mpr hhigher)]

/-- A talking key's slot goes to the head of the wait list (R165). -/
theorem Dest.leave_slot {i st k : Nat} (h : d.slotOf st k = some i) (talking : Bool) : d.leave st k talking = match d.waiters with
    | [] => d.emptySlot i
    | x :: rest => { d.grantSlot i x talking with waiters := rest } := by
  simp only [Dest.leave, h]
  cases d.waiters with
  | nil => rfl
  | cons x rest => exact congrArg (fun d : Dest => { d with waiters := rest }) (d.grantSlot_emptySlot i x talking)

/-- A waiting key's place in the list closes up (R165). -/
theorem Dest.leave_waiting {st k : Nat} (h : d.slotOf st k = none) (talking : Bool) :
    d.leave st k talking = { d with waiters := d.waiters.filter fun x => !decide (x.station = st ∧ x.key = k) } := by
  simp only [Dest.leave, h]
  rfl

end Arbitration

end Sys2Proof.Machine
end

section
/-! SUPPORT on a settlement (R163, R165 to R167, R170, R173): the talk crosspoints it writes, the duck ramp it tells, and settlements one after another. -/

namespace Sys2Proof.Machine

/-! ## Tables adjusted twice -/

theorem adjust_adjust {α : Type} {n : Nat} [Inhabited α] (v : Vector α n) (i : Nat) (f g : α → α) :
    adjust (adjust v i f) i g = adjust v i fun a => g (f a) := by
  by_cases hi : i < n
  · unfold adjust
    rw [look_put_same _ _ _ hi, put_put]
  · have hout (a : α) : put v i a = v := by
      ext j hj
      simp [put, show i ≠ j by omega]
    rw [adjust, adjust, adjust, put_put, hout, hout]

/-! ## The talk crosspoints (R167) -/

/-- The matrix line after the talk crosspoints of destination d are brought to their values (R167). -/
def Matrix.talkWritten (m : Matrix) (output : Option Nat) (d : Dest) : Matrix :=
  match output with
  | none => m
  | some o => (List.range 16).foldl (fun m st => m.written (pointOf o st) (d.stationValue st)) m

/-- A written point holds its value, every other its own (R176). -/
theorem Matrix.written_get {m : Matrix} (himage : Cells.wf Config.mute m.image = true) (p v q : Nat) :
    (m.written p v).image.get Config.mute q = if q = p then v else m.image.get Config.mute q := by
  have hpoint := State.writePoint_imageAt (s := { State.reset with matrix := m }) himage p v q
  rwa [State.imageAt, State.writePoint_matrix] at hpoint

theorem Matrix.written_wf {m : Matrix} (himage : Cells.wf Config.mute m.image = true) (p v : Nat) :
    Cells.wf Config.mute (m.written p v).image = true := by
  have hpoint := State.writePoint_image_wf (s := { State.reset with matrix := m }) himage p v
  rwa [State.writePoint_matrix] at hpoint

/-- The points of the stations named hold their values, every other point its own (R167, R176). -/
theorem Matrix.foldl_written_get {m : Matrix} (himage : Cells.wf Config.mute m.image = true) (o : Nat) (v : Nat → Nat) (sts : List Nat) (q : Nat) :
    (sts.foldl (fun m st => m.written (pointOf o st) (v st)) m).image.get Config.mute q =
      if 18 * o ≤ q ∧ q - 18 * o ∈ sts then v (q - 18 * o) else m.image.get Config.mute q := by
  induction sts generalizing m with
  | nil => simp
  | cons st sts ih =>
    rw [List.foldl_cons, ih (Matrix.written_wf himage _ _), Matrix.written_get himage]
    have hpoint : q = pointOf o st ↔ 18 * o ≤ q ∧ q - 18 * o = st := by unfold pointOf; omega
    simp only [hpoint, List.mem_cons, and_or_left]
    split
    · next h => rw [if_pos (.inr h)]
    · next h =>
      split
      · next hst => rw [if_pos (.inl hst), hst.2]
      · next hst => rw [if_neg (not_or.mpr ⟨hst, h⟩)]

/-- Bringing the talk crosspoints to their values writes the matrix line and notes events (R167, R176). -/
theorem State.writeTalkPoints_notes (s : State) (l : Nat) :
    ∃ es, s.writeTalkPoints l = s.withTalk es s.talk (s.matrix.talkWritten (s.link l).output (s.dest l)) := by
  have hfold (o : Nat) (sts : List Nat) (es : List Event) (m : Matrix) : ∃ es',
      sts.foldl (fun t st => t.writePoint (pointOf o st) ((t.dest l).stationValue st)) (s.withTalk es s.talk m) =
        s.withTalk es' s.talk (sts.foldl (fun m st => m.written (pointOf o st) ((s.dest l).stationValue st)) m) := by
    induction sts generalizing es m with
    | nil => exact ⟨es, rfl⟩
    | cons st sts ih =>
      obtain ⟨fs, hpoint⟩ := (s.withTalk es s.talk m).writePoint_notes (pointOf o st) ((s.dest l).stationValue st)
      have hnoted : (s.withTalk es s.talk m).writePoint (pointOf o st) ((s.dest l).stationValue st) =
          s.withTalk (es ++ fs) s.talk (m.written (pointOf o st) ((s.dest l).stationValue st)) := by
        rw [hpoint, State.withTalk, State.withTalk, ← Board.note_note]
      obtain ⟨es', hrest⟩ := ih (es ++ fs) (m.written (pointOf o st) ((s.dest l).stationValue st))
      exact ⟨es', (congrArg (sts.foldl _) hnoted).trans hrest⟩
  unfold State.writeTalkPoints
  cases (s.link l).output with
  | none => exact ⟨[], rfl⟩
  | some o => exact hfold o (List.range 16) [] s.matrix

/-- The destination records and the matrix line written, and events noted. -/
def State.withDests (s : State) (es : List Event) (x : Vector Dest 32 × Matrix) : State := s.withTalk es { s.talk with dests := x.1 } x.2

theorem State.withDests_withDests (s : State) (es fs : List Event) (x y : Vector Dest 32 × Matrix) :
    (s.withDests es x).withDests fs y = s.withDests (es ++ fs) y :=
  congrArg (fun board => ({ s.withDests es y with board } : State)) (s.board.note_note es fs)

/-! ## A destination settled (R163, R165, R167, R173) -/

/-- A destination record after a settlement: an IEM link's duck ramp is told whether a talker is TALKING (R170, R173). -/
def Dest.settled (d : Dest) (r : LinkRec) (now : Time) : Dest :=
  if r.kind = .iem ∧ d.talking ≠ d.anyTalking then
    ({ d with talking := d.anyTalking } : Dest).recompute r.applied (some { start := now, len := Config.rampMs })
  else d

/-- A settlement changes no more of the record than talking flag, target and ramp timer. -/
theorem Dest.settled_keeps (d : Dest) (r : LinkRec) (now : Time) : (d.settled r now).slots = d.slots ∧ (d.settled r now).waiters = d.waiters ∧
    (d.settled r now).grant = d.grant ∧ (d.settled r now).edition = d.edition := by
  unfold Dest.settled
  split <;> exact ⟨rfl, rfl, rfl, rfl⟩

theorem State.duckNotice_eq (s : State) (l : Nat) (talking : Bool) : s.duckNotice l talking = s.setDest l fun d =>
    if (s.dest l).talking = talking then d
    else ({ d with talking } : Dest).recompute (s.link l).applied (some { start := s.board.time, len := Config.rampMs }) := by
  by_cases hsame : (s.dest l).talking = talking
  · simp only [hsame, if_true, State.duckNotice, State.setDest, adjust, put_look]
  · have htold := adjust_adjust s.talk.dests l (fun d => { d with talking })
      fun d => d.recompute (s.link l).applied (some { start := s.board.time, len := Config.rampMs })
    simp only [hsame, if_false, State.duckNotice]
    exact congrArg (fun dests => ({ s with talk := { s.talk with dests } } : State)) htold

/-- A settlement: the destination's record, the talk crosspoints in the matrix line, and events noted. -/
theorem State.settleDest_eq (s : State) (l : Nat) : ∃ es, s.settleDest l = s.withDests es
    (adjust s.talk.dests l fun d => d.settled (s.link l) s.board.time, s.matrix.talkWritten (s.link l).output (s.dest l)) := by
  obtain ⟨es, hpoints⟩ := s.writeTalkPoints_notes l
  refine ⟨es, ?_⟩
  have hrecord (d : Dest) (hd : d = (s.dest l).settled (s.link l) s.board.time) :
      s.withDests es (put s.talk.dests l d, s.matrix.talkWritten (s.link l).output (s.dest l)) = s.withDests es
        (adjust s.talk.dests l fun d => d.settled (s.link l) s.board.time, s.matrix.talkWritten (s.link l).output (s.dest l)) := by
    rw [hd]
    rfl
  unfold State.settleDest
  by_cases hiem : (s.link l).kind = .iem
  · refine (if_pos hiem).trans ?_
    rw [hpoints, State.duckNotice_eq]
    refine hrecord _ ?_
    simp only [Dest.settled, hiem, true_and, ne_eq, ite_not]
    rfl
  · refine (if_neg hiem).trans (hpoints.trans ?_)
    rw [← hrecord (s.dest l) (if_neg fun h => hiem h.1).symm, State.dest, put_look]
    rfl

/-! ## Settlements one after another -/

/-- Each destination of a list is changed by g and settled, before the next is taken (R160, R161). -/
def State.settleEach (s : State) (g : Nat → Dest → Dest) (ls : List Nat) : State := ls.foldl (fun t l => (t.setDest l (g l)).settleDest l) s

/-- The destination records and the matrix line after link l's destination is changed by g and settled. -/
def State.settleStep (s : State) (g : Nat → Dest → Dest) (x : Vector Dest 32 × Matrix) (l : Nat) : Vector Dest 32 × Matrix :=
  (adjust x.1 l fun d => (g l d).settled (s.link l) s.board.time, x.2.talkWritten (s.link l).output (look (adjust x.1 l (g l)) l))

section Each

variable (s : State) (g : Nat → Dest → Dest)

theorem State.setDest_settleDest_eq (l : Nat) :
    ∃ es, (s.setDest l (g l)).settleDest l = s.withDests es (s.settleStep g (s.talk.dests, s.matrix) l) := by
  obtain ⟨es, hsettled⟩ := (s.setDest l (g l)).settleDest_eq l
  have htwice := adjust_adjust s.talk.dests l (g l) fun d => d.settled (s.link l) s.board.time
  exact ⟨es, hsettled.trans (congrArg (fun dests => s.withDests es (dests, _)) htwice)⟩

/-- Such settlements touch the destinations and the matrix line, and note events. -/
theorem State.settleEach_eq (ls : List Nat) :
    ∃ es, s.settleEach g ls = s.withDests es (ls.foldl (s.settleStep g) (s.talk.dests, s.matrix)) := by
  have hfold (es : List Event) (x : Vector Dest 32 × Matrix) :
      ∃ es', (s.withDests es x).settleEach g ls = s.withDests es' (ls.foldl (s.settleStep g) x) := by
    induction ls generalizing es x with
    | nil => exact ⟨es, rfl⟩
    | cons l ls ih =>
      obtain ⟨fs, hsettled⟩ := (s.withDests es x).setDest_settleDest_eq g l
      obtain ⟨es', hrest⟩ := ih (es ++ fs) (s.settleStep g x l)
      refine ⟨es', (congrArg (fun t : State => t.settleEach g ls) (hsettled.trans ?_)).trans hrest⟩
      exact s.withDests_withDests es fs x _
  exact hfold [] (s.talk.dests, s.matrix)

/-- Of destinations named once, each has its record changed and settled; every other stays. -/
theorem State.settleEach_dest {ls : List Nat} (hnodup : ls.Nodup) {l : Nat} (hl : l < 32) :
    (s.settleEach g ls).dest l = if l ∈ ls then (g l (s.dest l)).settled (s.link l) s.board.time else s.dest l := by
  have hdests (x : Vector Dest 32 × Matrix) : (ls.foldl (s.settleStep g) x).1 =
      ls.foldl (fun v l => adjust v l fun d => (g l d).settled (s.link l) s.board.time) x.1 :=
    (List.foldl_hom (init := x) Prod.fst fun _ _ => rfl).symm
  obtain ⟨es, h⟩ := s.settleEach_eq g ls
  rw [h, State.dest]
  refine (congrArg (fun v => look v l) (hdests _)).trans ?_
  exact look_foldl_adjust (fun l d => (g l d).settled (s.link l) s.board.time) hnodup s.talk.dests hl

end Each

end Sys2Proof.Machine
end

section
/-! SUPPORT and the proof on talk events: what one does to keys, destinations and editions, and the change of a link's supervision state (R154, R162 to R168). -/

namespace Sys2Proof.Machine

/-! ## A talk event (R154, R162, R168) -/

/-- A key's record at place p once the keys are summarised by the destinations of u (R168). -/
def State.resummed (u : State) (p : Nat) (x : Key) : Key :=
  if x.activity = .idle then x else x.summarised (x.dests.map (u.keyStateAt (p / 12) (p % 12) x))

/-- A rewrite of the talk region sets EVENTS.TALK. -/
theorem State.talkRewrites_noted (t : State) {k : Nat} (hk : k ≠ 0) : (t.talkRewrites k).board.events.getLsbD 5 = true := by
  rw [State.talkRewrites, if_neg hk]
  exact t.board.note_event (e := .talk) (es := [.talk]) List.mem_cons_self

section Event

variable (s : State) (f : State → State)

/-- A talk event leaves each key as its changes do, summarised by where the destinations end. -/
theorem State.talkEvent_key {p : Nat} (hp : p < 192) : (s.talkEvent f).key p = (s.talkEvent f).resummed p ((f s).key p) := by
  have hstate (x : Key) (l : Nat) : (s.talkEvent f).keyStateAt (p / 12) (p % 12) x l = (f s).keyStateAt (p / 12) (p % 12) x l := by
    obtain ⟨-, hslots, hwaiters⟩ := s.talkEvent_keeps l f
    exact State.keyStateAt_congr _ _ hslots hwaiters _ _ x
  refine (s.countTalk_key _ p).trans (((f s).recomputeKeys_key hp).trans ?_)
  rw [State.resummed, funext (hstate ((f s).key p))]

/-- A talk event leaves each destination as its changes do, the edition counted once if slots or wait list changed (R162). -/
theorem State.talkEvent_dest {l : Nat} (hl : l < 32) (hedition : ((f s).dest l).edition = (s.dest l).edition) :
    (s.talkEvent f).dest l = { (f s).dest l with
      edition := if ((f s).dest l).slots = (s.dest l).slots ∧ ((f s).dest l).waiters = (s.dest l).waiters
        then (s.dest l).edition else (s.dest l).edition + 1 } := by
  refine (s.countTalk_dest (f s).recomputeKeys hl).trans ?_
  show (if (s.dest l).talkChanged ((f s).dest l) then ((f s).dest l).counted else (f s).dest l) = _
  cases hchanged : (s.dest l).talkChanged ((f s).dest l) with
  | false => rw [if_pos ((Dest.talkChanged_eq_false_iff _ _).mp hchanged), if_neg Bool.false_ne_true, ← hedition]
  | true =>
    have hdiffers := mt (Dest.talkChanged_eq_false_iff (s.dest l) ((f s).dest l)).mpr (by rw [hchanged]; decide)
    rw [if_neg hdiffers, if_pos rfl, ← hedition]
    rfl

/-- The talk region counts each changed destination and key record once (R154, R162). -/
theorem State.talkEvent_edition : (s.talkEvent f).talk.edition = (f s).talk.edition +
    BitVec.ofNat 16 ((s.talk.changedDests (f s).talk).length +
      ((List.range 192).filter fun p => decide (((s.talkEvent f).key p).published ≠ (s.key p).published)).length) := by
  have hkeys : s.talk.changedKeys (f s).recomputeKeys.talk =
      (List.range 192).filter fun p => decide (((s.talkEvent f).key p).published ≠ (s.key p).published) :=
    List.filter_congr fun p _ => by
      rw [State.talkEvent, State.countTalk_key]
      exact decide_eq_decide.mpr ne_comm
  rw [← hkeys, State.talkEvent, State.countTalk_talk]
  rfl

/-- A talk event that changes a destination sets EVENTS.TALK (R162). -/
theorem State.talkEvent_noted (hchanged : s.talk.changedDests (f s).talk ≠ []) : (s.talkEvent f).board.events.getLsbD 5 = true := by
  have hcounted : (s.talk.changedDests (f s).talk).length + (s.talk.changedKeys (f s).recomputeKeys.talk).length ≠ 0 :=
    Nat.ne_of_gt (Nat.add_pos_left (List.length_pos_iff.mpr hchanged) _)
  exact State.talkRewrites_noted _ hcounted

end Event

/-! ## Talkers follow their link (R166) -/

theorem Dest.slot_eq_getElem (d : Dest) {i : Nat} (hi : i < 4) : d.slot i = d.slots[i] := by
  simp [Dest.slot, look, hi]

theorem Dest.setTalking_eq (d : Dest) (on : Bool) :
    d.setTalking on = { d with slots := d.slots.map fun x => x.map fun t => { t with talking := on } } := by
  refine congrArg (fun slots => { d with slots }) ?_
  ext i hi
  simp [mapTable]

/-- The talkers' states match the link's as they stand (R166). -/
theorem Dest.setTalking_slots_iff (d : Dest) (on : Bool) :
    (d.setTalking on).slots = d.slots ↔ ∀ i < 4, ∀ t, d.slot i = some t → t.talking = on := by
  rw [Dest.setTalking_eq]
  refine ⟨fun h i hi t ht => ?_, fun h => ?_⟩
  · have hturned : (d.slots.map fun x => x.map fun t => { t with talking := on })[i] = d.slots[i] := getElem_congr_coll h
    rw [Vector.getElem_map, ← d.slot_eq_getElem hi, ht] at hturned
    exact (congrArg Talker.talking (Option.some.inj hturned)).symm
  · ext1 i hi
    rw [Vector.getElem_map, ← d.slot_eq_getElem hi]
    cases ht : d.slot i with
    | none => rfl
    | some t => rw [Option.map_some, ← h i hi t ht]

end Sys2Proof.Machine
end

section
/-! SUPPORT and the proof on arbitration, settlements and the change of a link's supervision state (R162 to R168, R170, R173). -/

namespace Sys2Proof.Machine

section Settled

variable {m : Matrix} {o : Nat}

/-- A talk crosspoint of the destination holds its station's value (R167). -/
theorem Matrix.talkWritten_point (himage : Cells.wf Config.mute m.image = true) (d : Dest) {st : Nat} (hst : st < 16) :
    (m.talkWritten (some o) d).image.get Config.mute (18 * o + st) = d.stationValue st := by
  refine (Matrix.foldl_written_get himage o d.stationValue (List.range 16) _).trans ?_
  rw [Nat.add_sub_cancel_left, if_pos ⟨Nat.le_add_right _ _, List.mem_range.mpr hst⟩]

/-- A point that is no talk crosspoint of the destination keeps its value (R167). -/
theorem Matrix.talkWritten_other (himage : Cells.wf Config.mute m.image = true) (d : Dest) {output : Option Nat} {p : Nat}
    (hp : ∀ o, output = some o → ∀ st < 16, p ≠ 18 * o + st) :
    (m.talkWritten output d).image.get Config.mute p = m.image.get Config.mute p := by
  cases output with
  | none => rfl
  | some o =>
    refine (Matrix.foldl_written_get himage o d.stationValue (List.range 16) _).trans (if_neg fun ⟨hle, hst⟩ => ?_)
    exact hp o rfl (p - 18 * o) (List.mem_range.mp hst) (by omega)

end Settled

/-! ## A change of a link's supervision state (R162, R166, R168) -/

section LinkChange

variable {s : State} {l : Nat}

/-- The talkers of link l in the state its record asks for (R166). -/
def State.talkersTurned (s : State) (l : Nat) : State := s.setDest l fun d => d.setTalking (s.link l).carriesTalk

/-- A change that turns a talker is a talk event that turns all and settles the destination (R166). -/
theorem State.talkLinkChange_turned (hturned : ∃ i < 4, ∃ t, (s.dest l).slot i = some t ∧ t.talking ≠ (s.link l).carriesTalk) :
    s.talkLinkChange l = s.talkEvent fun _ => (s.talkersTurned l).settleDest l := by
  obtain ⟨i, hi, t, ht, htalking⟩ := hturned
  have hdiffers : ((s.dest l).setTalking (s.link l).carriesTalk).slots ≠ (s.dest l).slots :=
    fun h => htalking (((s.dest l).setTalking_slots_iff _).mp h i hi t ht)
  rw [State.talkLinkChange, if_neg hdiffers]
  rfl

/-- The destination as its talkers turned and settled leave it, the others as they were. -/
theorem State.talkersTurned_settled_dest {m : Nat} (hm : m < 32) : ((s.talkersTurned l).settleDest l).dest m =
    if m = l then ((s.dest l).setTalking (s.link l).carriesTalk).settled (s.link l) s.board.time else s.dest m := by
  have heach := s.settleEach_dest (fun _ d => d.setTalking (s.link l).carriesTalk) (List.nodup_singleton l) hm
  refine heach.trans ?_
  simp only [List.mem_singleton]
  split
  · next h => rw [h]
  · rfl

theorem State.talkersTurned_slots_ne (hl : l < 32) (hturned : ∃ i < 4, ∃ t, (s.dest l).slot i = some t ∧ t.talking ≠ (s.link l).carriesTalk) :
    (((s.talkersTurned l).settleDest l).dest l).slots ≠ (s.dest l).slots := by
  obtain ⟨i, hi, t, ht, htalking⟩ := hturned
  obtain ⟨hslots, -⟩ := ((s.dest l).setTalking (s.link l).carriesTalk).settled_keeps (s.link l) s.board.time
  rw [State.talkersTurned_settled_dest hl, if_pos rfl, hslots]
  exact fun hsame => htalking (((s.dest l).setTalking_slots_iff _).mp hsame i hi t ht)

/-- The destination whose talkers turned is the one whose slots or wait list changed (R162). -/
theorem State.talkersTurned_changed (hl : l < 32) (hturned : ∃ i < 4, ∃ t, (s.dest l).slot i = some t ∧ t.talking ≠ (s.link l).carriesTalk) :
    s.talk.changedDests ((s.talkersTurned l).settleDest l).talk = [l] := by
  have hchanged (m : Nat) (hm : m < 32) : (s.dest m).talkChanged (((s.talkersTurned l).settleDest l).dest m) = (m == l) := by
    by_cases hml : m = l
    · rw [hml, beq_self_eq_true]
      exact Bool.eq_true_of_not_eq_false fun hsame =>
        State.talkersTurned_slots_ne hl hturned ((Dest.talkChanged_eq_false_iff _ _).mp hsame).1
    · rw [State.talkersTurned_settled_dest hm, if_neg hml, beq_false_of_ne hml]
      exact (Dest.talkChanged_eq_false_iff _ _).mpr ⟨rfl, rfl⟩
  refine (List.filter_congr fun m hm => hchanged m (List.mem_range.mp hm)).trans ?_
  rw [List.filter_beq, List.count_eq_one_of_mem List.nodup_range (List.mem_range.mpr hl), List.replicate_one]

end LinkChange

/-- Settles O55: arbitration by its cases, a settlement by the points and the record it writes, and a link change as one talk event. -/
theorem requestsAreArbitratedAndTalkersFollowTheLink : Obligations.RequestsAreArbitratedAndTalkersFollowTheLink := by
  refine ⟨?arbitration, ?settlement, ?linkChange⟩
  case arbitration =>
    intro d w talking hw full latest granted ordered
    refine ⟨fun i hi hfree hbelow => ?_, fun i hi t hfull hperm ht hlower hlatest => ?_, fun hfull hhigher => ?_,
      fun l => ⟨placeWaiter_perm w l, placeWaiter_ordered⟩, fun st k => ⟨fun i hi t ht hst hk honly => ?_, fun hnone => ?_⟩⟩
    · exact d.request_free (d.freeSlot_eq_some hi hfree hbelow) w talking
    · have hlowest := d.lowestPriority_eq hi ht (by omega) fun j hj x hx => (hlatest j hj x hx).1
      have hbump := d.bumpSlot_eq hperm hi ht hlowest fun j hj x hx => (hlatest j hj x hx).2
      exact d.request_bumps (d.freeSlot_eq_none hfull) hbump ht (by rwa [hlowest]) talking
    · exact d.request_joins (d.freeSlot_eq_none hfull) (d.le_lowestPriority_iff.mpr ⟨hw, hhigher⟩) talking
    · exact d.leave_slot (d.slotOf_eq_some hi ht hst hk honly) talking
    · exact d.leave_waiting (d.slotOf_eq_none hnone) talking
  case settlement =>
    intro s l hl htables r d u lowest heard depth target timer
    obtain ⟨-, -, -, himage, -⟩ := htables
    obtain ⟨es, hsettled⟩ := s.settleDest_eq l
    have hmatrix : u.matrix = s.matrix.talkWritten r.output d := congrArg State.matrix hsettled
    have hevents : u.board.events = (s.board.note es).events := congrArg (fun t : State => t.board.events) hsettled
    have hdest : u.dest l = d.settled r s.board.time := (congrArg (fun t : State => t.dest l) hsettled).trans (look_adjust_same _ _ _ hl)
    have hvalue (st : Nat) : d.stationValue st = lowest st := List.foldl_map
    have hheard : d.anyTalking = heard := List.any_map
    refine ⟨fun o ho st hst => ?_, fun p hp => ?_, hdest.trans ?_, ?_⟩
    · rw [State.imageAt, hmatrix, ho, Matrix.talkWritten_point himage d hst, hvalue]
    · rw [State.imageAt, hmatrix]
      exact Matrix.talkWritten_other himage d hp
    · rw [Dest.settled, hheard, Dest.recompute_eq]
    · rw [hmatrix, hevents, hdest]
      exact hsettled
  case linkChange =>
    intro s l hl d on turned settled u
    have hsettled : settled = (s.talkersTurned l).settleDest l := by
      have hsame : turned = s.talkersTurned l :=
        congrArg (fun d => ({ s with talk := { s.talk with dests := put s.talk.dests l d } } : State)) (d.setTalking_eq on).symm
      exact congrArg (fun t : State => t.settleDest l) hsame
    refine ⟨fun hstays => if_pos ((d.setTalking_slots_iff on).mpr hstays), fun hturned => ?_⟩
    have hu : u = s.talkEvent fun _ => settled := hsettled ▸ State.talkLinkChange_turned hturned
    have hchanged : s.talk.changedDests settled.talk = [l] := hsettled ▸ State.talkersTurned_changed hl hturned
    have hdest (m : Nat) (hm : m < 32) : settled.dest m = if m = l then (d.setTalking on).settled (s.link l) s.board.time else s.dest m :=
      hsettled ▸ State.talkersTurned_settled_dest hm
    have hedition (m : Nat) (hm : m < 32) : (settled.dest m).edition = (s.dest m).edition := by
      rw [hdest m hm]
      split
      · next h => rw [((d.setTalking on).settled_keeps _ _).2.2.2, h]; rfl
      · rfl
    have hregion : settled.talk.edition = s.talk.edition := by
      rw [hsettled]
      exact ((State.DestsOnly.setDest s l (f := fun d => d.setTalking on) fun _ => rfl).trans (.settleDest _ l)).region
    have hkey (p : Nat) : settled.key p = s.key p := by
      rw [hsettled]
      obtain ⟨es, h⟩ := (s.talkersTurned l).settleDest_eq l
      rw [h]
      rfl
    refine ⟨?dest, ?others, ?points, ?keys, ?edition, ?noted, ?frame⟩
    case dest =>
      have hslots : (settled.dest l).slots ≠ (s.dest l).slots := hsettled ▸ State.talkersTurned_slots_ne hl hturned
      rw [hu, State.talkEvent_dest _ _ hl (hedition l hl), if_neg fun h => hslots h.1]
    case others =>
      intro m hm hml
      rw [hu, State.talkEvent_dest _ _ hm (hedition m hm), hdest m hm, if_neg hml, if_pos ⟨rfl, rfl⟩]
    case points =>
      rw [hu]
      exact (s.talkEvent_keeps l _).1
    case keys =>
      intro p hp
      rw [hu, State.talkEvent_key _ _ hp, hkey]
      rfl
    case edition =>
      rw [hu, State.talkEvent_edition, hchanged, hregion]
      rfl
    case noted =>
      rw [hu]
      exact State.talkEvent_noted _ _ (by rw [hchanged]; exact List.cons_ne_nil _ _)
    case frame =>
      obtain ⟨es, talk, matrix, hnotes⟩ := (State.talkLinkChange_talkOp l).notes s
      have hframe : u = s.withTalk es talk matrix := hnotes
      rw [hframe]
      rfl

end Sys2Proof.Machine
end

section
/-! SUPPORT and the proof on CANCEL_TALK and the timers of a key (R157, R159, R160, R165, R167, R168). -/

namespace Sys2Proof.Machine

/-! ## Keys and destinations after a deactivation (R160, R165) -/

/-- Key b has the configuration, activity, destination set and timers of key a. -/
def Key.KeptBy (a b : Key) : Prop := b.mode = a.mode ∧ b.target = a.target ∧ b.atten = a.atten ∧ b.hang = a.hang ∧ b.activity = a.activity ∧
  b.dests = a.dests ∧ b.hangTimer = a.hangTimer ∧ b.windowTimer = a.windowTimer

/-- Summarising changes counts and summary alone (R168). -/
theorem State.resummed_kept (u : State) (p : Nat) (x : Key) : x.KeptBy (u.resummed p x) := by
  unfold State.resummed
  split <;> exact ⟨rfl, rfl, rfl, rfl, rfl, rfl, rfl, rfl⟩

section Deactivated

variable {s u : State} {p : Nat}

/-- Keys that do not deactivate are kept (R160). -/
theorem State.Deactivated.keyKept {ps : List Nat} (h : s.Deactivated u ps) (hp : p < 192) (hstays : p ∉ ps) : (s.key p).KeptBy (u.key p) := by
  rw [h.kept p hp hstays]
  exact u.resummed_kept p (s.key p)

/-- One key that leaves the destinations of its set (R165). -/
theorem State.keysLeave_singleton_dest (hnodup : (s.key p).dests.Nodup) {l : Nat} (hl : l < 32) : (s.keysLeave [p]).dest l =
    if l ∈ (s.key p).dests then ((s.dest l).leave (p / 12) (p % 12) (s.link l).carriesTalk).settled (s.link l) s.board.time else s.dest l :=
  s.settleEach_dest (fun l d => d.leave (p / 12) (p % 12) (s.link l).carriesTalk) hnodup hl

/-- The destinations of no set of the key stay as they were. -/
theorem State.Deactivated.dest_apart (h : s.Deactivated u [p]) (hnodup : (s.key p).dests.Nodup) {l : Nat} (hl : l < 32)
    (hapart : l ∉ (s.key p).dests) : u.dest l = s.dest l := by
  rw [h.dests l hl, State.keysLeave_singleton_dest hnodup hl, if_neg hapart, if_pos ⟨rfl, rfl⟩]

/-- The destinations of the key's set are left by it, the edition counted once if that changes slots or wait list (R162, R165). -/
theorem State.Deactivated.dest_left (h : s.Deactivated u [p]) (hnodup : (s.key p).dests.Nodup) {l : Nat} (hl : l < 32)
    (hmem : l ∈ (s.key p).dests) : let d := (s.dest l).leave (p / 12) (p % 12) (s.link l).carriesTalk
    (u.dest l).slots = d.slots ∧ (u.dest l).waiters = d.waiters ∧ (u.dest l).grant = d.grant ∧
      (u.dest l).edition = if d.slots = (s.dest l).slots ∧ d.waiters = (s.dest l).waiters then (s.dest l).edition else (s.dest l).edition + 1 := by
  intro d
  obtain ⟨hslots, hwaiters, hgrant, -⟩ := d.settled_keeps (s.link l) s.board.time
  rw [h.dests l hl, State.keysLeave_singleton_dest hnodup hl, if_pos hmem, hslots, hwaiters]
  exact ⟨rfl, rfl, hgrant, rfl⟩

end Deactivated

/-- One key's deactivation as a talk event. -/
theorem State.deactivateAll_singleton (s : State) {st k : Nat} (hk : k < 12) :
    s.deactivateAll [keyPlace st k] = s.talkEvent fun s => s.deactivate st k := by
  have hplace : keyPlace st k / 12 = st ∧ keyPlace st k % 12 = k := by unfold keyPlace; omega
  simp only [State.deactivateAll, List.foldl_cons, List.foldl_nil, hplace]

/-- Keys that deactivate touch talkback and the matrix line and note events. -/
theorem State.deactivateAll_notes (s : State) (ps : List Nat) : ∃ es talk matrix, s.deactivateAll ps = s.withTalk es talk matrix :=
  (State.talkEvent_talkOp (.foldl (fun p => State.deactivate_talkOp (p / 12) (p % 12)) ps)).notes s

/-- The slot of a request that changed talkback and the matrix line and was completed (R186). -/
theorem State.complete_withTalk (s : State) {n : Nat} (hn : n < 32) (hbody : s.board.body.wf = true) (es : List Event) (talk : Talk) (matrix : Matrix)
    (r : Result) (ws : List (Nat × Word)) (hnodup : ((ws ++ [(3, resultNat r.ctorIdx)]).map Prod.fst).Nodup) :
    let u := ((s.dropAttention.setSlot n .taken).withTalk es talk matrix).complete n r ws
    u.slot n = .done ∧ ∀ w ∈ ws ++ [(3, resultNat r.ctorIdx)], u.slotWord n w.1 = w.2 := by
  intro u
  have hu : u = _ := State.complete_board _ n r ws
  rw [hu]
  exact ⟨look_put_same _ _ _ hn, fun _ hmem => Memory.read_writes_mem hbody hnodup hmem⟩

/-! ## CANCEL_TALK (R160) -/

section Cancel

variable (s : State) (n : Nat)

/-- The active keys of the station named by a word, or of every station (R160). -/
theorem State.activeKeys_optWord (v : Nat) : s.activeKeys (optWord v) =
    (List.range 192).filter fun q => decide ((s.key q).activity ≠ .idle ∧ (v = 0xFFFF ∨ q / 12 = v)) := by
  refine List.filter_congr fun q _ => ?_
  by_cases hall : v = 0xFFFF
  · simp [optWord, hall, Key.active]
  · simp [optWord, hall, Key.active]

/-- CANCEL_TALK of a station, or of every station (R160). -/
theorem State.doCancelTalk_accepted (h : ¬(s.param n 4 ≠ 0xFFFF ∧ 15 < s.param n 4)) :
    let ps := (List.range 192).filter fun q => decide ((s.key q).activity ≠ .idle ∧ (s.param n 4 = 0xFFFF ∨ q / 12 = s.param n 4))
    s.doCancelTalk n = (s.deactivateAll ps).complete n .ok [(5, resultNat ps.length)] := by
  rw [State.doCancelTalk, if_neg (mt (lt_optWord_iff _).mp h), State.activeKeys_optWord]

end Cancel

/-! ## The timers of a key (R157, R159) -/

section Timers

variable {s : State} {st k : Nat} {tm : Timer}

theorem exec_hangTimerExpiry (hst : st < 16) (hk : k < 12) (hready : s.board.ready = true) (hrun : (s.key (keyPlace st k)).hangTimer = some tm)
    (hdue : tm.len ≤ (s.board.time - tm.start).toNat) : exec (.hangTimerExpiry st k) s = .next (s.deactivateAll [keyPlace st k]) := by
  have hexpiry : s.hangExpiry st k = s.deactivateAll [keyPlace st k] := (s.deactivateAll_singleton hk).symm
  exact (if_pos ⟨hst, hk⟩).trans (congrArg Host.Outcome.next (by rw [hrun, State.onExpiry_due hready hdue, hexpiry]))

theorem exec_latchWindowExpiry (hst : st < 16) (hk : k < 12) (hready : s.board.ready = true) (hrun : (s.key (keyPlace st k)).windowTimer = some tm)
    (hdue : tm.len ≤ (s.board.time - tm.start).toNat) : exec (.latchWindowExpiry st k) s = .next (s.windowExpiry st k) :=
  (if_pos ⟨hst, hk⟩).trans (congrArg Host.Outcome.next (by rw [hrun, State.onExpiry_due hready hdue]))

end Timers

/-- Settles O56: keys that deactivate together as one talk event, for the keys a CANCEL_TALK names and for the key of an expiry. -/
theorem cancelTalkAndKeyTimers : Obligations.CancelTalkAndKeyTimers := by
  intro s silent kept rest
  refine ⟨?cancel, ?timers⟩
  case cancel =>
    intro n hn ht htables who named
    have hexec : exec (.cancelTalk n) s = .next ((s.dropAttention.setSlot n .taken).doCancelTalk n).settle := State.request_taken s n 28 _ hn ht
    rw [hexec]
    refine ⟨fun hgiven habove => ?_, fun haccepted => ?_⟩
    · have hrefused : (s.dropAttention.setSlot n .taken).doCancelTalk n = s.answered n .badField [(5, 0#16)] :=
        (if_pos ((lt_optWord_iff who).mpr ⟨hgiven, habove⟩)).trans (s.complete_taken _ _ _)
      rw [hrefused]
    set ps := (List.range 192).filter fun q => decide ((s.key q).activity ≠ .idle ∧ (who = 0xFFFF ∨ q / 12 = who))
    have hmem {q : Nat} (hq : q < 192) : q ∈ ps ↔ (s.key q).activity ≠ .idle ∧ named q := by
      simp [ps, named, hq]
    have hdone : (s.dropAttention.setSlot n .taken).doCancelTalk n =
        ((s.dropAttention.setSlot n .taken).deactivateAll ps).complete n .ok [(5, resultNat ps.length)] :=
      State.doCancelTalk_accepted _ n fun h => haccepted.elim h.1 (Nat.not_le.mpr h.2)
    have hdeactivated := (s.dropAttention.setSlot n .taken).deactivateAll_deactivated (ps := ps) (List.nodup_range.filter _)
    obtain ⟨es, talk, matrix, hnotes⟩ := (s.dropAttention.setSlot n .taken).deactivateAll_notes ps
    rw [hnotes] at hdone hdeactivated
    obtain ⟨hslot, hword⟩ := s.complete_withTalk hn htables.1 es talk matrix .ok [(5, resultNat ps.length)]
      (show [5, 3].Nodup by decide)
    set u := ((s.dropAttention.setSlot n .taken).withTalk es talk matrix).complete n .ok [(5, resultNat ps.length)] with hu
    rw [State.complete_board] at hu
    have hs : s.Deactivated u ps := hdeactivated.congr rfl rfl rfl rfl (by rw [hu]) (by rw [hu])
    obtain ⟨hstations, hwindow, -⟩ := hs.settings
    refine ⟨u, by rw [hdone], ⟨hstations, hwindow, ?_⟩, hslot, hword _ (List.mem_cons_of_mem _ List.mem_cons_self), hs,
      fun q hq => ⟨fun hnamed hactive => ?_, fun hnot => ?_⟩, hword _ List.mem_cons_self⟩
    · rw [hu]
      exact ⟨rfl, rfl, rfl, rfl, rfl, rfl, rfl, rfl⟩
    · exact hs.silent q hq ((hmem hq).mpr ⟨hactive, hnamed⟩)
    · refine hs.keyKept hq fun hin => ?_
      obtain ⟨hactive, hnamed⟩ := (hmem hq).mp hin
      exact hnot.elim (absurd hnamed) hactive
  case timers =>
    intro st hst k hk tm hready hdue place key
    refine ⟨fun hrun => ?_, fun hrun => exec_latchWindowExpiry hst hk hready hrun hdue⟩
    have hplace : place < 192 ∧ place / 12 = st ∧ place % 12 = k := by omega
    obtain ⟨hp, hstation, hkey⟩ := hplace
    have hs : s.Deactivated (s.deactivateAll [place]) [place] := s.deactivateAll_deactivated (List.nodup_singleton place)
    obtain ⟨hstations, hwindow, -⟩ := hs.settings
    refine ⟨s.deactivateAll [place], exec_hangTimerExpiry hst hk hready hrun hdue, ⟨hstations, hwindow, ?_⟩, hs.silent place hp List.mem_cons_self, hs,
      fun q hq hne => hs.keyKept hq (mt List.mem_singleton.mp hne), fun hnodup => ⟨fun l hl hapart => hs.dest_apart hnodup hl hapart, fun l hl hmem => ?_⟩⟩
    · obtain ⟨es, talk, matrix, hnotes⟩ := s.deactivateAll_notes [place]
      rw [hnotes]
      exact ⟨rfl, rfl, rfl, rfl, rfl, rfl, rfl, rfl⟩
    · have hleft := hs.dest_left hnodup hl hmem
      rw [hstation, hkey] at hleft
      exact hleft

end Sys2Proof.Machine
end

section
/-! SUPPORT on the activation of a key and on the tables of a key's mode (R157 to R159, R161, R163). -/

namespace Sys2Proof.Machine

/-! ## Activation (R161, R163) -/

theorem mem_insertRising {p q : Nat} {l : List Nat} : q ∈ insertRising p l ↔ q = p ∨ q ∈ l := by
  induction l with
  | nil => simp [insertRising]
  | cons x l ih =>
    unfold insertRising
    split
    · simp
    · split
      · next h => simp [h]
      · simp [ih, or_left_comm]

/-- A destination's request settled keeps its edition, which the talk event counts. -/
theorem Dest.request_edition (d : Dest) (w : Waiter) (talking : Bool) : (d.request w talking).1.edition = d.edition := by
  have hjoin (d : Dest) (w : Waiter) : (d.join w).1.edition = d.edition := by
    unfold Dest.join
    split <;> rfl
  unfold Dest.request
  split
  · rfl
  · split
    · split
      · exact hjoin d w
      · split
        · exact hjoin d w
        · exact hjoin _ _
    · exact hjoin d w

/-- The request that a key's activation makes at each destination (R161). -/
def State.requestOfKey (s : State) (st k : Nat) : Waiter :=
  { station := st, key := k, priority := look s.talk.stations st, atten := (s.key (keyPlace st k)).atten, order := s.talk.activations }

/-- Link l's destination after a request is arbitrated there (R163). -/
def State.requested (s : State) (w : Waiter) (l : Nat) (d : Dest) : Dest := (d.request w (s.link l).carriesTalk).1

/-- The request or talker that finds no place at link l (R163). -/
def State.deniedThere (s : State) (w : Waiter) (l : Nat) : Option Waiter := ((s.dest l).request w (s.link l).carriesTalk).2

/-- The keys after whoever finds no place at link l is DENIED there (R163). -/
def State.denying (s : State) (w : Waiter) (keys : Vector Key 192) (l : Nat) : Vector Key 192 :=
  match s.deniedThere w l with
  | none => keys
  | some x => adjust keys (keyPlace x.station x.key) fun key => { key with deniedAt := insertRising l key.deniedAt }

/-- A key's record after the denial at link m: no more changes than where it is denied. -/
theorem State.denying_look (s : State) (w : Waiter) (m : Nat) (keys : Vector Key 192) {q : Nat} (hq : q < 192) :
    ∃ deniedAt, look (s.denying w keys m) q = { look keys q with deniedAt } ∧
      ∀ l, l ∈ deniedAt ↔ l ∈ (look keys q).deniedAt ∨ (l = m ∧ ∃ x, s.deniedThere w m = some x ∧ keyPlace x.station x.key = q) := by
  unfold State.denying
  cases s.deniedThere w m with
  | none => exact ⟨(look keys q).deniedAt, rfl, fun l => by simp⟩
  | some x =>
    by_cases hplace : keyPlace x.station x.key = q
    · subst hplace
      exact ⟨insertRising m (look keys (keyPlace x.station x.key)).deniedAt, look_adjust_same _ _ _ hq,
        fun l => mem_insertRising.trans (by simp [or_comm])⟩
    · exact ⟨(look keys q).deniedAt, look_adjust_ne _ _ _ _ hplace, fun l => by simp [hplace]⟩

/-- A key's record after the denials of several destinations: no more changes than where it is denied. -/
theorem State.foldl_denying (s : State) (w : Waiter) (ls : List Nat) (keys : Vector Key 192) {q : Nat} (hq : q < 192) :
    ∃ deniedAt, look (ls.foldl (s.denying w) keys) q = { look keys q with deniedAt } ∧
      ∀ l, l ∈ deniedAt ↔ l ∈ (look keys q).deniedAt ∨ (l ∈ ls ∧ ∃ x, s.deniedThere w l = some x ∧ keyPlace x.station x.key = q) := by
  induction ls generalizing keys with
  | nil => exact ⟨(look keys q).deniedAt, rfl, fun l => by simp⟩
  | cons m ls ih =>
    obtain ⟨deniedAt, hlook, hmem⟩ := ih (s.denying w keys m)
    obtain ⟨denied, hlook', hmem'⟩ := s.denying_look w m keys hq
    refine ⟨deniedAt, by rw [List.foldl_cons, hlook, hlook'], fun l => (hmem l).trans ?_⟩
    rw [hlook', hmem' l, List.mem_cons]
    constructor
    · rintro ((h | ⟨rfl, hx⟩) | ⟨hl, hx⟩)
      · exact .inl h
      · exact .inr ⟨.inl rfl, hx⟩
      · exact .inr ⟨.inr hl, hx⟩
    · rintro (h | ⟨rfl | hl, hx⟩)
      · exact .inl (.inl h)
      · exact .inl (.inr ⟨rfl, hx⟩)
      · exact .inr ⟨hl, hx⟩

/-- One request of an activation, its destination and the keys told apart (R161, R163). -/
theorem State.requestAt_withKeys {s t : State} {l : Nat} (hlinks : t.links = s.links) (hdest : t.dest l = s.dest l) (keys : Vector Key 192) (w : Waiter) :
    (t.withKeys keys).requestAt w l = ((t.setDest l (s.requested w l)).settleDest l).withKeys (s.denying w keys l) := by
  rw [← State.settleDest_withKeys]
  have hdenied : ((t.dest l).request w (t.link l).carriesTalk).2 = s.deniedThere w l := by
    rw [State.deniedThere, hdest, State.link, hlinks, State.link]
  have hrequested : t.setDest l (s.requested w l) = t.setDest l fun _ => ((t.dest l).request w (t.link l).carriesTalk).1 := by
    rw [State.link, hlinks]
    rfl
  rw [hrequested, State.denying, ← hdenied]
  refine congrArg (fun t : State => t.settleDest l) ?_
  show (match ((t.dest l).request w (t.link l).carriesTalk).2 with
    | none => _
    | some x => _) = _
  split <;> rfl

/-- The requests of an activation, at destinations named once each, the destinations and the keys told apart (R161, R163). -/
theorem State.foldl_requestAt {s t : State} {ls : List Nat} (hnodup : ls.Nodup) (hlinks : t.links = s.links) (hdests : ∀ l ∈ ls, t.dest l = s.dest l)
    (keys : Vector Key 192) (w : Waiter) : ls.foldl (fun t l => t.requestAt w l) (t.withKeys keys) =
      (t.settleEach (s.requested w) ls).withKeys (ls.foldl (s.denying w) keys) := by
  induction ls generalizing t keys with
  | nil => rfl
  | cons l ls ih =>
    obtain ⟨hl, hls⟩ := List.nodup_cons.mp hnodup
    obtain ⟨es, hsettled⟩ := t.setDest_settleDest_eq (s.requested w) l
    rw [List.foldl_cons, State.requestAt_withKeys hlinks (hdests l List.mem_cons_self)]
    refine ih hls ?_ (fun m hm => ?_) _
    · rw [hsettled]
      exact hlinks
    · rw [hsettled, ← hdests m (List.mem_cons_of_mem l hm)]
      exact look_adjust_ne _ _ _ _ fun h : l = m => hl (h ▸ hm)

theorem State.expand_nodup (s : State) (target : Nat) : (s.expand target).Nodup := by
  unfold State.expand
  split
  · split
    · exact List.nodup_singleton _
    · exact List.nodup_nil
  · exact List.nodup_range.filter _

/-- The activation counted, which numbers the next one (R161). -/
def State.numbered (s : State) : State := { s with talk := { s.talk with activations := s.talk.activations + 1 } }

section Activate

variable (s : State) (st k : Nat)

/-- An activation: its destinations are requested at and settled in turn, and the keys take the set and the denials (R161, R163). -/
theorem State.activate_eq :
    let ls := s.expand (s.key (keyPlace st k)).target
    let w := s.requestOfKey st k
    s.activate st k = (s.numbered.settleEach (s.requested w) ls).withKeys
      (ls.foldl (s.denying w) (adjust s.talk.keys (keyPlace st k) fun key => { key with dests := ls, deniedAt := [] })) :=
  State.foldl_requestAt (s := s) (t := s.numbered) (s.expand_nodup _) rfl (fun _ _ => rfl) _ _

/-- The keys after an activation: the activated key has its destination set, and no key more than its denials. -/
theorem State.activate_key {q : Nat} (hq : q < 192) :
    let ls := s.expand (s.key (keyPlace st k)).target
    ∃ deniedAt, (s.activate st k).key q = { s.key q with dests := if q = keyPlace st k then ls else (s.key q).dests, deniedAt } ∧
      ∀ l, l ∈ deniedAt ↔ (q ≠ keyPlace st k ∧ l ∈ (s.key q).deniedAt) ∨
        (l ∈ ls ∧ ∃ x, s.deniedThere (s.requestOfKey st k) l = some x ∧ keyPlace x.station x.key = q) := by
  intro ls
  obtain ⟨deniedAt, hlook, hmem⟩ := s.foldl_denying (s.requestOfKey st k) ls
    (adjust s.talk.keys (keyPlace st k) fun key => { key with dests := ls, deniedAt := [] }) hq
  refine ⟨deniedAt, ?_, fun l => (hmem l).trans (or_congr_left ?_)⟩
  · rw [State.activate_eq]
    refine hlook.trans ?_
    by_cases hqp : q = keyPlace st k
    · subst hqp
      rw [look_adjust_same _ _ _ hq, if_pos rfl]
      rfl
    · rw [look_adjust_ne _ _ _ _ (Ne.symm hqp), if_neg hqp]
      rfl
  · by_cases hqp : q = keyPlace st k
    · subst hqp
      rw [look_adjust_same _ _ _ hq]
      simp
    · rw [look_adjust_ne _ _ _ _ (Ne.symm hqp)]
      simp [hqp, State.key]

/-- Settlements go by talkback's destinations, the matrix line, the links and the time. -/
theorem State.settleEach_congr {s t : State} (g : Nat → Dest → Dest) (ls : List Nat) (hdests : t.talk.dests = s.talk.dests)
    (hmatrix : t.matrix = s.matrix) (hlinks : t.links = s.links) (htime : t.board.time = s.board.time) :
    (t.settleEach g ls).talk.dests = (s.settleEach g ls).talk.dests ∧ (t.settleEach g ls).matrix = (s.settleEach g ls).matrix := by
  have hstep : t.settleStep g = s.settleStep g := by
    funext x l
    rw [State.settleStep, State.link, hlinks, htime]
    rfl
  obtain ⟨es, ht⟩ := t.settleEach_eq g ls
  obtain ⟨fs, hs⟩ := s.settleEach_eq g ls
  rw [ht, hs, hstep, hdests, hmatrix]
  exact ⟨rfl, rfl⟩

/-- The requests of an activation, settled at its destinations in turn (R161, R163). -/
def State.activationSettled (s : State) (st k : Nat) : State :=
  s.settleEach (s.requested (s.requestOfKey st k)) (s.expand (s.key (keyPlace st k)).target)

/-- The destinations and the matrix line after an activation are those of its requests settled in turn; the activation is numbered. -/
theorem State.activate_told : ∃ keys, (s.activate st k).talk =
      { s.talk with keys, dests := (s.activationSettled st k).talk.dests, activations := s.talk.activations + 1 } ∧
    (s.activate st k).matrix = (s.activationSettled st k).matrix := by
  obtain ⟨hdests, hmatrix⟩ := State.settleEach_congr (s := s) (t := s.numbered) (s.requested (s.requestOfKey st k))
    (s.expand (s.key (keyPlace st k)).target) rfl rfl rfl rfl
  obtain ⟨es, hsettled⟩ := s.numbered.settleEach_eq (s.requested (s.requestOfKey st k)) (s.expand (s.key (keyPlace st k)).target)
  rw [State.activate_eq, State.activationSettled, ← hdests, ← hmatrix, hsettled]
  exact ⟨_, rfl, rfl⟩

/-- An activation leaves the destinations' editions, which the talk event counts. -/
theorem State.activate_edition {l : Nat} (hl : l < 32) : ((s.activate st k).dest l).edition = (s.dest l).edition := by
  obtain ⟨keys, htalk, -⟩ := s.activate_told st k
  rw [State.dest, htalk]
  refine (congrArg Dest.edition (s.settleEach_dest (s.requested (s.requestOfKey st k)) (s.expand_nodup _) hl)).trans ?_
  split
  · obtain ⟨-, -, -, hedition⟩ := (s.requested (s.requestOfKey st k) l (s.dest l)).settled_keeps (s.link l) s.board.time
    exact hedition.trans (Dest.request_edition _ _ _)
  · rfl

/-- An activation touches talkback and the matrix line and notes events. -/
theorem State.activate_notes : ∃ es talk matrix, s.activate st k = s.withTalk es talk matrix := by
  obtain ⟨es, hsettled⟩ := s.numbered.settleEach_eq (s.requested (s.requestOfKey st k)) (s.expand (s.key (keyPlace st k)).target)
  exact ⟨es, _, _, by rw [State.activate_eq, hsettled]; rfl⟩

end Activate

end Sys2Proof.Machine
end

section
/-! SUPPORT and the proof on TALK_KEY (R156 to R159, R161, R163, R165, R167, R168). -/

namespace Sys2Proof.Machine

/-! ## The tables of a key's mode (R157 to R159) -/

/-- The activity of a key after a down (dir 1) or an up (R157 to R159). -/
def Key.nextActivity (x : Key) (dir : Nat) : Activity :=
  let released : Activity := if x.hang = 0 then .idle else .hanging
  if dir = 1 then
    match x.activity with
    | .idle => if x.mode = .latching then .latched else .pressed
    | .pressed => .pressed
    | .hanging => if x.mode = .latching then .hanging else .pressed
    | .latched => if x.mode = .momentary then .latched else .idle
  else if x.activity = .pressed ∧ x.mode = .momentary then released
  else if x.activity = .pressed ∧ x.mode = .auto then (if x.windowTimer.isSome then .latched else released)
  else x.activity

/-- A key that becomes active, or goes from one active state to another, with its two timers (R157 to R159). -/
def Key.moved (x : Key) (a : Activity) (now : Time) (latchWindow : Nat) : Key := { x with
  activity := a
  hangTimer := match a with
    | .hanging => some { start := now, len := x.hang }
    | .latched => x.hangTimer
    | .pressed | .idle => none
  windowTimer := match a with
    | .pressed => if x.mode = .auto then some { start := now, len := latchWindow } else none
    | .latched => if x.activity = .pressed then none else x.windowTimer
    | .hanging | .idle => none }

/-- What a key event that takes key k of station st to activity a does: it is ignored, it moves the key's activity and timers, or it activates or deactivates the key. -/
inductive State.KeyMoves (s : State) (st k : Nat) (a : Activity) : State → Prop
  | ignored (hsame : a = (s.key (keyPlace st k)).activity) : s.KeyMoves st k a s
  | moved (hfrom : (s.key (keyPlace st k)).activity ≠ .idle) (hto : a ≠ .idle) (hmoves : a ≠ (s.key (keyPlace st k)).activity) :
      s.KeyMoves st k a (s.setKey (keyPlace st k) fun x => x.moved a s.board.time s.talk.latchWindow)
  | activated (hfrom : (s.key (keyPlace st k)).activity = .idle) (hto : a ≠ .idle) :
      s.KeyMoves st k a ((s.activate st k).setKey (keyPlace st k) fun x => x.moved a s.board.time s.talk.latchWindow)
  | deactivated (hfrom : (s.key (keyPlace st k)).activity ≠ .idle) (hto : a = .idle) : s.KeyMoves st k a (s.deactivate st k)

theorem State.setKey_congr {s : State} {p : Nat} {f g : Key → Key} (h : f (s.key p) = g (s.key p)) : s.setKey p f = s.setKey p g :=
  congrArg (fun x => ({ s with talk := { s.talk with keys := put s.talk.keys p x } } : State)) h

section Tables

variable {s : State} {st k : Nat}

variable {a : Activity} {f : Key → Key}

theorem State.KeyMoves.moved_by (hfrom : (s.key (keyPlace st k)).activity ≠ .idle) (hto : a ≠ .idle) (hmoves : a ≠ (s.key (keyPlace st k)).activity)
    (hf : f (s.key (keyPlace st k)) = (s.key (keyPlace st k)).moved a s.board.time s.talk.latchWindow) :
    s.KeyMoves st k a (s.setKey (keyPlace st k) f) := by
  rw [State.setKey_congr (g := fun x => x.moved a s.board.time s.talk.latchWindow) hf]
  exact .moved hfrom hto hmoves

theorem State.KeyMoves.activated_by (hp : keyPlace st k < 192) (hfrom : (s.key (keyPlace st k)).activity = .idle) (hto : a ≠ .idle)
    (hf : ∀ dests deniedAt, let x : Key := { s.key (keyPlace st k) with dests, deniedAt }
      f x = x.moved a s.board.time s.talk.latchWindow) : s.KeyMoves st k a ((s.activate st k).setKey (keyPlace st k) f) := by
  obtain ⟨deniedAt, hactivated, -⟩ := s.activate_key st k hp
  rw [State.setKey_congr (f := f) (g := fun x => x.moved a s.board.time s.talk.latchWindow) (by rw [hactivated]; exact hf _ _)]
  exact .activated hfrom hto

/-- A down moves the key by the table of its mode (R157 to R159). -/
theorem State.keyDown_moves (hp : keyPlace st k < 192) (hmode : (s.key (keyPlace st k)).mode ≠ .none) :
    s.KeyMoves st k ((s.key (keyPlace st k)).nextActivity 1) (s.keyDown st k) := by
  simp only [State.keyDown, Key.nextActivity, if_true]
  cases hm : (s.key (keyPlace st k)).mode with
  | none => exact absurd hm hmode
  | momentary =>
    cases ha : (s.key (keyPlace st k)).activity with
    | idle => exact .activated_by hp ha (by decide) fun _ _ => by simp [Key.moved, Key.press, hm]
    | hanging => exact .moved_by (by simp [ha]) (by decide) (by simp [ha]) (by simp [Key.moved, Key.press, hm])
    | pressed | latched => exact .ignored (by simp [ha])
  | latching =>
    cases ha : (s.key (keyPlace st k)).activity with
    | idle => exact .activated_by hp ha (by decide) fun _ _ => by simp [Key.moved, ha]
    | latched => exact .deactivated (by simp [ha]) rfl
    | pressed | hanging => exact .ignored (by simp [ha])
  | auto =>
    cases ha : (s.key (keyPlace st k)).activity with
    | idle => exact .activated_by hp ha (by decide) fun _ _ => by simp [Key.moved, Key.press, hm, State.timer, State.now]
    | hanging => exact .moved_by (by simp [ha]) (by decide) (by simp [ha]) (by simp [Key.moved, Key.press, hm, State.timer, State.now])
    | latched => exact .deactivated (by simp [ha]) rfl
    | pressed => exact .ignored (by simp [ha])

/-- A PRESSED key that is released hangs, or deactivates with hang time 0 (R157, R159). -/
theorem State.releaseKey_moves (hpressed : (s.key (keyPlace st k)).activity = .pressed) :
    s.KeyMoves st k (if (s.key (keyPlace st k)).hang = 0 then .idle else .hanging) (s.releaseKey st k) := by
  unfold State.releaseKey
  by_cases hhang : (s.key (keyPlace st k)).hang = 0
  · simp only [hhang, if_true]
    exact .deactivated (by simp [hpressed]) rfl
  · simp only [hhang, if_false]
    exact .moved_by (by simp [hpressed]) (by decide) (by simp [hpressed]) rfl

/-- An up moves the key by the table of its mode (R157 to R159). -/
theorem State.keyUp_moves {dir : Nat} (hup : dir ≠ 1) (hmode : (s.key (keyPlace st k)).mode ≠ .none) :
    s.KeyMoves st k ((s.key (keyPlace st k)).nextActivity dir) (s.keyUp st k) := by
  simp only [State.keyUp, Key.nextActivity, if_neg hup]
  cases ha : (s.key (keyPlace st k)).activity with
  | idle | hanging | latched =>
    cases hm : (s.key (keyPlace st k)).mode <;> exact .ignored (by simp [ha])
  | pressed =>
    cases hm : (s.key (keyPlace st k)).mode with
    | none => exact absurd hm hmode
    | momentary => exact State.releaseKey_moves ha
    | latching => exact .ignored (by simp [ha])
    | auto =>
      cases hwindow : (s.key (keyPlace st k)).windowTimer.isSome with
      | true => exact .moved_by (by simp [ha]) (by simp) (by simp [ha]) (by simp [Key.moved, ha])
      | false => exact State.releaseKey_moves ha

/-- A key event is the talk event of what it does to the key. -/
theorem State.keyEvent_moves (hp : keyPlace st k < 192) (hmode : (s.key (keyPlace st k)).mode ≠ .none) (dir : Nat) :
    ∃ t, s.KeyMoves st k ((s.key (keyPlace st k)).nextActivity dir) t ∧ s.keyEvent st k (decide (dir = 1)) = s.talkEvent fun _ => t := by
  by_cases hdown : dir = 1
  · subst hdown
    exact ⟨s.keyDown st k, State.keyDown_moves hp hmode, rfl⟩
  · exact ⟨s.keyUp st k, State.keyUp_moves hdown hmode, by rw [decide_eq_false hdown]; rfl⟩

end Tables

/-! ## What a key event leaves (R154, R157 to R159) -/

theorem State.setKey_key_same (s : State) {p : Nat} (hp : p < 192) (f : Key → Key) : (s.setKey p f).key p = f (s.key p) := look_adjust_same _ _ _ hp

theorem State.setKey_key_ne (s : State) {p q : Nat} (h : p ≠ q) (f : Key → Key) : (s.setKey p f).key q = s.key q := look_adjust_ne _ _ _ _ h

/-- A deactivation, the destinations it leaves and the key that falls silent told apart (R165). -/
theorem State.deactivate_eq (s : State) {st k : Nat} (hk : k < 12) :
    s.deactivate st k = (s.keysLeave [keyPlace st k]).withKeys (adjust s.talk.keys (keyPlace st k) Key.silent) := by
  have hplace : keyPlace st k / 12 = st ∧ keyPlace st k % 12 = k := by unfold keyPlace; omega
  have hdone : s.deactivate (keyPlace st k / 12) (keyPlace st k % 12) = _ :=
    State.deactivate_withKeys (s := s) (t := s) (keys := s.talk.keys) (p := keyPlace st k) rfl rfl
  rw [hplace.1, hplace.2] at hdone
  exact hdone

section Moved

variable {s t : State} {st k : Nat} {a : Activity}

theorem State.KeyMoves.eq_self (h : s.KeyMoves st k a t) (hsame : a = (s.key (keyPlace st k)).activity) : t = s := by
  cases h with
  | ignored => rfl
  | moved _ _ hmoves => exact absurd hsame hmoves
  | activated hfrom hto => exact absurd (hsame.trans hfrom) hto
  | deactivated hfrom hto => exact absurd (hsame.symm.trans hto) hfrom

theorem State.KeyMoves.eq_activate (h : s.KeyMoves st k a t) (hfrom : (s.key (keyPlace st k)).activity = .idle) (hto : a ≠ .idle) :
    t = (s.activate st k).setKey (keyPlace st k) fun x => x.moved a s.board.time s.talk.latchWindow := by
  cases h with
  | ignored hsame => exact absurd (hsame.trans hfrom) hto
  | moved hactive => exact absurd hfrom hactive
  | activated => rfl
  | deactivated hactive => exact absurd hfrom hactive

theorem State.KeyMoves.eq_deactivate (h : s.KeyMoves st k a t) (hfrom : (s.key (keyPlace st k)).activity ≠ .idle) (hto : a = .idle) :
    t = s.deactivate st k := by
  cases h with
  | ignored hsame => exact absurd (hsame.symm.trans hto) hfrom
  | moved _ hactive => exact absurd hto hactive
  | activated _ hactive => exact absurd hto hactive
  | deactivated => rfl

/-- The key keeps its configuration and takes its new activity. -/
theorem State.KeyMoves.key_same (h : s.KeyMoves st k a t) (hk : k < 12) (hp : keyPlace st k < 192) : (t.key (keyPlace st k)).activity = a ∧
    (t.key (keyPlace st k)).mode = (s.key (keyPlace st k)).mode ∧ (t.key (keyPlace st k)).target = (s.key (keyPlace st k)).target ∧
    (t.key (keyPlace st k)).atten = (s.key (keyPlace st k)).atten ∧ (t.key (keyPlace st k)).hang = (s.key (keyPlace st k)).hang := by
  cases h with
  | ignored hsame => exact ⟨hsame.symm, rfl, rfl, rfl, rfl⟩
  | moved => rw [State.setKey_key_same _ hp]; exact ⟨rfl, rfl, rfl, rfl, rfl⟩
  | activated =>
    obtain ⟨_, hactivated, -⟩ := s.activate_key st k hp
    rw [State.setKey_key_same _ hp, hactivated]
    exact ⟨rfl, rfl, rfl, rfl, rfl⟩
  | deactivated hfrom hto =>
    have hsilent : (s.deactivate st k).key (keyPlace st k) = (s.key (keyPlace st k)).silent := by
      rw [s.deactivate_eq hk]
      exact look_adjust_same _ _ _ hp
    rw [hsilent]
    exact ⟨hto.symm, rfl, rfl, rfl, rfl⟩

/-- A key that becomes or stays active, its activity changed, has its two timers by the tables. -/
theorem State.KeyMoves.timers (h : s.KeyMoves st k a t) (hp : keyPlace st k < 192) (hto : a ≠ .idle) (hmoves : a ≠ (s.key (keyPlace st k)).activity) :
    (t.key (keyPlace st k)).hangTimer = ((s.key (keyPlace st k)).moved a s.board.time s.talk.latchWindow).hangTimer ∧
    (t.key (keyPlace st k)).windowTimer = ((s.key (keyPlace st k)).moved a s.board.time s.talk.latchWindow).windowTimer := by
  cases h with
  | ignored hsame => exact absurd hsame hmoves
  | moved => rw [State.setKey_key_same _ hp]; exact ⟨rfl, rfl⟩
  | activated =>
    obtain ⟨_, hactivated, -⟩ := s.activate_key st k hp
    rw [State.setKey_key_same _ hp, hactivated]
    exact ⟨rfl, rfl⟩
  | deactivated _ hidle => exact absurd hidle hto

/-- Another key changes no more than where it is denied (R163). -/
theorem State.KeyMoves.key_ne (h : s.KeyMoves st k a t) (hk : k < 12) {q : Nat} (hq : q < 192) (hne : q ≠ keyPlace st k) :
    ∃ deniedAt, t.key q = { s.key q with deniedAt } := by
  cases h with
  | ignored => exact ⟨(s.key q).deniedAt, rfl⟩
  | moved => exact ⟨(s.key q).deniedAt, State.setKey_key_ne _ hne.symm _⟩
  | activated =>
    obtain ⟨deniedAt, hactivated, -⟩ := s.activate_key st k hq
    rw [if_neg hne] at hactivated
    exact ⟨deniedAt, (State.setKey_key_ne _ hne.symm _).trans hactivated⟩
  | deactivated =>
    rw [s.deactivate_eq hk]
    exact ⟨(s.key q).deniedAt, look_adjust_ne _ _ _ _ hne.symm⟩

/-- The station settings stay, and so do the editions that the talk event counts. -/
theorem State.KeyMoves.settings (h : s.KeyMoves st k a t) (hk : k < 12) : t.talk.stations = s.talk.stations ∧ t.talk.latchWindow = s.talk.latchWindow ∧
    ∀ l < 32, (t.dest l).edition = (s.dest l).edition := by
  cases h with
  | ignored | moved => exact ⟨rfl, rfl, fun _ _ => rfl⟩
  | activated =>
    obtain ⟨keys, htalk, -⟩ := s.activate_told st k
    refine ⟨?_, ?_, fun l hl => s.activate_edition st k hl⟩
    · exact (congrArg Talk.stations htalk :)
    · exact (congrArg Talk.latchWindow htalk :)
  | deactivated =>
    obtain ⟨-, ⟨hstations, hwindow, -⟩, heditions⟩ := s.keysLeave_destsOnly [keyPlace st k]
    rw [s.deactivate_eq hk]
    exact ⟨hstations, hwindow, fun l _ => heditions l⟩

/-- A key event touches talkback and the matrix line and notes events. -/
theorem State.KeyMoves.notes (h : s.KeyMoves st k a t) : ∃ es talk matrix, t = s.withTalk es talk matrix := by
  cases h with
  | ignored => exact ⟨[], _, _, rfl⟩
  | moved => exact ⟨[], _, _, rfl⟩
  | activated =>
    obtain ⟨es, talk, matrix, hnotes⟩ := s.activate_notes st k
    rw [hnotes]
    exact ⟨es, _, _, rfl⟩
  | deactivated => exact (State.deactivate_talkOp st k).notes s

end Moved

/-! ## Keys summarised (R168) -/

/-- An active key's counts are the numbers of its destinations in each state, its summary the best of them (R168). -/
theorem State.resummed_counts (u : State) (p : Nat) (x : Key) (hactive : (u.resummed p x).activity ≠ .idle) :
    let y := u.resummed p x
    let count (z : Summary) : Nat := (y.dests.filter fun l => decide (u.keyStateAt (p / 12) (p % 12) y l = z)).length
    y.talking = count .talking ∧ y.held = count .held ∧ y.queued = count .queued ∧ y.denied = count .denied ∧
      y.summary = if y.talking ≠ 0 then .talking else if y.held ≠ 0 then .held else if y.queued ≠ 0 then .queued
        else if y.denied ≠ 0 then .denied else .idle := by
  intro y count
  have hresummed : y = x.summarised (x.dests.map (u.keyStateAt (p / 12) (p % 12) x)) := by
    refine if_neg fun hidle => hactive ?_
    rw [State.resummed, if_pos hidle, hidle]
  have hcount (z : Summary) : ((x.dests.map (u.keyStateAt (p / 12) (p % 12) x)).filter fun w => decide (w = z)).length = count z := by
    simp only [count, hresummed, List.filter_map, List.length_map]
    rfl
  refine ⟨?_, ?_, ?_, ?_, ?_⟩
  · rw [← hcount, hresummed]; rfl
  · rw [← hcount, hresummed]; rfl
  · rw [← hcount, hresummed]; rfl
  · rw [← hcount, hresummed]; rfl
  · rw [hresummed]; rfl

/-- A talk event of a change that touches talkback and the matrix line and notes events does no more. -/
theorem State.talkEvent_notes {s t : State} (h : ∃ es talk matrix, t = s.withTalk es talk matrix) :
    ∃ es talk matrix, (s.talkEvent fun _ => t) = s.withTalk es talk matrix := by
  obtain ⟨es, talk, matrix, rfl⟩ := h
  obtain ⟨fs, talk', matrix', hcounted⟩ := (State.recomputeKeys_talkOp.comp (State.countTalk_talkOp s.talk)).notes (s.withTalk es talk matrix)
  refine ⟨es ++ fs, talk', matrix', hcounted.trans ?_⟩
  rw [State.withTalk, State.withTalk, Board.note_note]
  rfl

/-- A talk event of no change leaves the destinations. -/
theorem State.talkEvent_same_dests (s : State) : (s.talkEvent fun _ => s).talk.dests = s.talk.dests := by
  have hnone : s.talk.changedDests s.recomputeKeys.talk = [] :=
    List.filter_eq_nil_iff.mpr fun l _ => Bool.not_eq_true _ ▸ (Dest.talkChanged_eq_false_iff _ _).mpr ⟨rfl, rfl⟩
  rw [State.talkEvent, State.countTalk_talk, hnone]
  rfl

/-- A talk event leaves the settings and the numbering of activations as its changes do. -/
theorem State.talkEvent_settings (s : State) (f : State → State) : (s.talkEvent f).talk.stations = (f s).talk.stations ∧
    (s.talkEvent f).talk.latchWindow = (f s).talk.latchWindow ∧ (s.talkEvent f).talk.activations = (f s).talk.activations := by
  rw [State.talkEvent, State.countTalk_talk]
  exact ⟨rfl, rfl, rfl⟩

theorem State.resummed_deniedAt (u : State) (p : Nat) (x : Key) : (u.resummed p x).deniedAt = x.deniedAt := by
  unfold State.resummed
  split <;> rfl

/-! ## The talk event of what a key event does (R154, R157 to R159, R161, R165) -/

section Event

variable {s t : State} {st k : Nat} {a : Activity}

/-- The keys' summaries aside, a talk event leaves the keys as its changes do. -/
theorem State.talkEvent_key_kept (s t : State) {p : Nat} (hp : p < 192) : (t.key p).KeptBy ((s.talkEvent fun _ => t).key p) := by
  rw [State.talkEvent_key _ _ hp]
  exact State.resummed_kept _ _ _

/-- The key has its configuration and its new activity. -/
theorem State.KeyMoves.event_key (h : s.KeyMoves st k a t) (hk : k < 12) (hp : keyPlace st k < 192) :
    let x := s.key (keyPlace st k)
    let y := (s.talkEvent fun _ => t).key (keyPlace st k)
    y.activity = a ∧ y.mode = x.mode ∧ y.target = x.target ∧ y.atten = x.atten ∧ y.hang = x.hang := by
  obtain ⟨hmode, htarget, hatten, hhang, hactivity, -⟩ := s.talkEvent_key_kept t hp
  obtain ⟨hactivity', hmode', htarget', hatten', hhang'⟩ := h.key_same hk hp
  exact ⟨hactivity.trans hactivity', hmode.trans hmode', htarget.trans htarget', hatten.trans hatten', hhang.trans hhang'⟩

/-- The key's timers, where it becomes or stays active, its activity changed. -/
theorem State.KeyMoves.event_timers (h : s.KeyMoves st k a t) (hp : keyPlace st k < 192) (hto : a ≠ .idle)
    (hmoves : a ≠ (s.key (keyPlace st k)).activity) :
    let x := (s.key (keyPlace st k)).moved a s.board.time s.talk.latchWindow
    let y := (s.talkEvent fun _ => t).key (keyPlace st k)
    y.hangTimer = x.hangTimer ∧ y.windowTimer = x.windowTimer := by
  obtain ⟨-, -, -, -, -, -, hhang, hwindow⟩ := s.talkEvent_key_kept t hp
  obtain ⟨hhang', hwindow'⟩ := h.timers hp hto hmoves
  exact ⟨hhang.trans hhang', hwindow.trans hwindow'⟩

/-- Another key is kept. -/
theorem State.KeyMoves.event_other (h : s.KeyMoves st k a t) (hk : k < 12) {q : Nat} (hq : q < 192) (hne : q ≠ keyPlace st k) :
    (s.key q).KeptBy ((s.talkEvent fun _ => t).key q) := by
  obtain ⟨deniedAt, hother⟩ := h.key_ne hk hq hne
  have hkept := s.talkEvent_key_kept t hq
  rw [hother] at hkept
  exact hkept

/-- The station settings stay. -/
theorem State.KeyMoves.event_settings (h : s.KeyMoves st k a t) (hk : k < 12) :
    (s.talkEvent fun _ => t).talk.stations = s.talk.stations ∧ (s.talkEvent fun _ => t).talk.latchWindow = s.talk.latchWindow := by
  obtain ⟨hstations, hwindow, -⟩ := s.talkEvent_settings fun _ => t
  obtain ⟨hstations', hwindow', -⟩ := h.settings hk
  exact ⟨hstations.trans hstations', hwindow.trans hwindow'⟩

/-- An ignored key event leaves the destinations, the matrix line, and the key's set and timers. -/
theorem State.KeyMoves.event_ignored (h : s.KeyMoves st k a t) (hp : keyPlace st k < 192) (hsame : a = (s.key (keyPlace st k)).activity) :
    let x := s.key (keyPlace st k)
    let v := s.talkEvent fun _ => t
    let y := v.key (keyPlace st k)
    v.talk.dests = s.talk.dests ∧ v.matrix = s.matrix ∧ y.dests = x.dests ∧ y.hangTimer = x.hangTimer ∧ y.windowTimer = x.windowTimer := by
  rw [h.eq_self hsame]
  obtain ⟨-, -, -, -, -, hdests, htimers⟩ := s.talkEvent_key_kept s hp
  exact ⟨s.talkEvent_same_dests, (s.talkEvent_keeps 0 fun _ => s).1, hdests, htimers⟩

/-- The talk event of a deactivation (R165). -/
theorem State.KeyMoves.event_deactivated (h : s.KeyMoves st k a t) (hk : k < 12)
    (hfrom : (s.key (keyPlace st k)).activity ≠ .idle) (hto : a = .idle) : s.Deactivated (s.talkEvent fun _ => t) [keyPlace st k] := by
  have hall : (s.talkEvent fun _ => t) = s.deactivateAll [keyPlace st k] := by
    rw [State.deactivateAll_singleton _ hk, h.eq_deactivate hfrom hto]
    rfl
  rw [hall]
  exact s.deactivateAll_deactivated (List.nodup_singleton _)

/-- The talk event of an activation: the key's set, the requests settled at its destinations in turn, and the denials (R161, R163). -/
theorem State.KeyMoves.event_activated (h : s.KeyMoves st k a t) (hk : k < 12) (hp : keyPlace st k < 192)
    (hfrom : (s.key (keyPlace st k)).activity = .idle) (hto : a ≠ .idle) :
    let ls := s.expand (s.key (keyPlace st k)).target
    let v := s.talkEvent fun _ => t
    (v.key (keyPlace st k)).dests = ls ∧ v.talk.activations = s.talk.activations + 1 ∧ v.matrix = (s.activationSettled st k).matrix ∧
      (∀ l < 32, let d := (s.activationSettled st k).dest l
        v.dest l = { d with edition :=
          if d.slots = (s.dest l).slots ∧ d.waiters = (s.dest l).waiters then (s.dest l).edition else (s.dest l).edition + 1 }) ∧
      ∀ q < 192, ∀ l, l ∈ (v.key q).deniedAt ↔ (q ≠ keyPlace st k ∧ l ∈ (s.key q).deniedAt) ∨
        (l ∈ ls ∧ ∃ x, s.deniedThere (s.requestOfKey st k) l = some x ∧ keyPlace x.station x.key = q) := by
  intro ls v
  obtain ⟨-, -, heditions⟩ := h.settings hk
  have ht := h.eq_activate hfrom hto
  obtain ⟨keys, htalk, hmatrix⟩ := s.activate_told st k
  have hkey {q : Nat} (hq : q < 192) : v.key q = v.resummed q (t.key q) := s.talkEvent_key _ hq
  have hdest (l : Nat) : t.dest l = (s.activationSettled st k).dest l := by
    rw [ht]
    exact (congrArg (fun talk : Talk => look talk.dests l) htalk :)
  refine ⟨?_, ?_, ?_, fun l hl => ?_, fun q hq l => ?_⟩
  · obtain ⟨-, -, -, -, -, hdests, -⟩ := v.resummed_kept (keyPlace st k) (t.key (keyPlace st k))
    obtain ⟨deniedAt, hactivated, -⟩ := s.activate_key st k hp
    rw [hkey hp, hdests, ht, State.setKey_key_same _ hp, hactivated]
    exact if_pos rfl
  · obtain ⟨-, -, hnumber⟩ := s.talkEvent_settings fun _ => t
    refine hnumber.trans ?_
    rw [ht]
    exact (congrArg Talk.activations htalk :)
  · refine (s.talkEvent_keeps 0 fun _ => t).1.trans (.trans ?_ hmatrix)
    rw [ht]
    rfl
  · rw [← hdest]
    exact s.talkEvent_dest _ hl (heditions l hl)
  · obtain ⟨deniedAt, hactivated, hmem⟩ := s.activate_key st k hq
    have hdenied : (t.key q).deniedAt = deniedAt := by
      have hsame : (t.key q).deniedAt = ((s.activate st k).key q).deniedAt := by
        rw [ht]
        exact look_adjust_field Key.deniedAt _ _ _ fun _ => rfl
      rw [hsame, hactivated]
    rw [hkey hq, State.resummed_deniedAt, hdenied]
    exact hmem l

end Event

/-- Taking a slot is no matter to an activation. -/
theorem State.taken_activationSettled (s : State) (n st k : Nat) :
    ((s.dropAttention.setSlot n .taken).activationSettled st k).talk.dests = (s.activationSettled st k).talk.dests ∧
      ((s.dropAttention.setSlot n .taken).activationSettled st k).matrix = (s.activationSettled st k).matrix :=
  State.settleEach_congr (s := s) (t := s.dropAttention.setSlot n .taken) _ _ rfl rfl rfl rfl

/-- The result words of a TALK_KEY that is served (R156, R195). -/
theorem State.talkWords_read {u : State} {n : Nat} {x : Key}
    (h : ∀ w ∈ talkWords (some x) ++ [(3, resultNat Result.ok.ctorIdx)], u.slotWord n w.1 = w.2) :
    u.slotWord n 3 = 0 ∧ u.slotWord n 7 = BitVec.ofNat 16 x.activity.ctorIdx ∧ u.slotWord n 8 = BitVec.ofNat 16 x.summary.ctorIdx ∧
      u.slotWord n 9 = BitVec.ofNat 16 x.talking ∧ u.slotWord n 10 = BitVec.ofNat 16 x.held ∧ u.slotWord n 11 = BitVec.ofNat 16 x.queued ∧
      u.slotWord n 12 = BitVec.ofNat 16 x.denied := by
  simp only [talkWords, List.cons_append, List.nil_append, List.forall_mem_cons] at h
  obtain ⟨hactivity, hsummary, htalking, hheld, hqueued, hdenied, hcode, -⟩ := h
  exact ⟨hcode, hactivity, hsummary, htalking, hheld, hqueued, hdenied⟩

/-- The links that a group holds, by the group's target number (R161, R195). -/
theorem groupHolds_eq (target : Nat) (r : LinkRec) : 32 ≤ target → groupHolds (target - 32) r =
    (decide (r.state ≠ .vacant) && match target with
      | 32 => decide (r.kind = .camera ∧ r.studio = .a)
      | 33 => decide (r.kind = .camera ∧ r.studio = .b)
      | 34 => decide (r.kind = .iem ∧ r.studio = .a)
      | 35 => decide (r.kind = .iem ∧ r.studio = .b)
      | 36 => decide (r.kind ≠ .mic ∧ r.studio = .a)
      | _ => decide (r.kind ≠ .mic ∧ r.studio = .b)) := by
  intro h
  obtain rfl | rfl | rfl | rfl | rfl | ⟨g, rfl⟩ : target = 32 ∨ target = 33 ∨ target = 34 ∨ target = 35 ∨ target = 36 ∨ ∃ g, target = g + 37 := by
    by_cases habove : 37 ≤ target
    · exact .inr (.inr (.inr (.inr (.inr ⟨target - 37, by omega⟩))))
    · omega
  all_goals rfl

/-- Settles O54: the key moves by the table of its mode, and the talk event that this is reaches the destinations and the keys. -/
theorem talkKeyFollowsTheKeyTables : Obligations.TalkKeyFollowsTheKeyTables := by
  intro n s hn ht htables st k dir place key legal refuse released after on asked request settled
  have hexec : exec (.talkKey n) s = .next ((s.dropAttention.setSlot n .taken).doTalkKey n).settle := State.request_taken s n 27 _ hn ht
  have hlegal : ¬legal ↔ 15 < st ∨ 11 < k ∨ 1 < dir := by omega
  refine ⟨fun hbad => ?_, fun hok hnone => ?_, fun hok hmode => ?_⟩
  · exact hexec.trans (congrArg (fun t : State => Host.Outcome.next t.settle) ((if_pos (hlegal.mp hbad)).trans (s.complete_taken _ _ _)))
  · exact hexec.trans (congrArg (fun t : State => Host.Outcome.next t.settle)
      ((if_neg (mt hlegal.mpr (not_not.mpr hok))).trans ((if_pos hnone).trans (s.complete_taken _ _ _))))
  have hp : keyPlace st k < 192 := by unfold keyPlace; omega
  have hk : k < 12 := by omega
  obtain ⟨t, hmoves, hevent⟩ := State.keyEvent_moves (s := s.dropAttention.setSlot n .taken) hp hmode dir
  obtain ⟨es, talk, matrix, hnotes⟩ := State.talkEvent_notes hmoves.notes
  have hkeys {q : Nat} (hq : q < 192) := State.talkEvent_key (s.dropAttention.setSlot n .taken) (fun _ => t) hq
  have hkey := hmoves.event_key hk hp
  have htimers := hmoves.event_timers hp
  have hothers {q : Nat} := hmoves.event_other hk (q := q)
  have hsettings := hmoves.event_settings hk
  have hignored := hmoves.event_ignored hp
  have hactivated := hmoves.event_activated hk hp
  have hdeactivated := hmoves.event_deactivated hk
  generalize (s.dropAttention.setSlot n .taken).talkEvent (fun _ => t) = v at *
  have hdone : (s.dropAttention.setSlot n .taken).doTalkKey n = v.complete n .ok (talkWords (some (v.key place))) := by
    refine (if_neg (mt hlegal.mpr (not_not.mpr hok))).trans ((if_neg hmode).trans ?_)
    rw [← hevent]
    rfl
  obtain ⟨hslot, hword⟩ := s.complete_withTalk hn htables.1 es talk matrix .ok (talkWords (some (v.key place)))
    (show [7, 8, 9, 10, 11, 12, 3].Nodup by decide)
  rw [← hnotes] at hslot hword
  rw [State.complete_board] at hdone hslot hword
  obtain ⟨hactivity, hmode', htarget, hatten, hhang⟩ := hkey
  have hleaves (hfrom : key.activity ≠ .idle) (hto : after = .idle) :
      s.Deactivated { v with board := v.board.completed n .ok (talkWords (some (v.key place))) } [place] :=
    (hdeactivated hfrom hto).congr rfl rfl rfl rfl rfl rfl
  replace htimers (hto : after ≠ .idle) (hchange : after ≠ key.activity) :
      (v.key place).hangTimer = (key.moved after s.board.time s.talk.latchWindow).hangTimer ∧
        (v.key place).windowTimer = (key.moved after s.board.time s.talk.latchWindow).windowTimer := htimers hto hchange
  refine ⟨{ v with board := v.board.completed n .ok (talkWords (some (v.key place))) }, by rw [hexec, hdone],
    ⟨hactivity, hmode', htarget, hatten, hhang, fun hto hfrom => ?silent, fun hto hfrom => ?hanging, fun hto hfrom => ?pressed, fun hto hfrom => ?latched,
      fun hto hfrom => ?stopped, hignored, fun hfrom hto => ?activated, hleaves, fun hfrom hto hnodup => ?left, hslot, State.talkWords_read hword⟩,
    fun q hq hne => hothers hq hne, fun q hq hactive => ?counts, hsettings.1, hsettings.2, ?frame⟩
  case silent =>
    rw [(hleaves hfrom hto).silent place hp List.mem_cons_self]
    exact ⟨rfl, rfl, rfl, rfl, rfl, rfl⟩
  case stopped =>
    rw [(hleaves hfrom hto).silent place hp List.mem_cons_self]
    exact ⟨rfl, rfl⟩
  case hanging =>
    have hmoved := htimers (by simp [hto]) (by simp [hto, hfrom])
    rw [hto] at hmoved
    exact hmoved
  case pressed =>
    have hmoved := htimers (by simp [hto]) (by rw [hto]; exact Ne.symm hfrom)
    rw [hto] at hmoved
    exact hmoved
  case latched =>
    obtain ⟨-, hwindow⟩ := htimers (by simp [hto]) (by simp [hto, hfrom])
    rw [hto] at hwindow
    exact hwindow.trans (if_pos hfrom)
  case activated =>
    obtain ⟨hset, hnumber, hmatrix, hdest, hdenied⟩ := hactivated hfrom hto
    have hasked : s.expand key.target = asked := by
      by_cases hlink : key.target < 32
      · exact (if_pos hlink).trans (if_pos hlink).symm
      · refine (if_neg hlink).trans (.trans (List.filter_congr fun l _ => ?_) (if_neg hlink).symm)
        exact groupHolds_eq key.target (s.link l) (Nat.le_of_not_lt hlink)
    have hsettled : s.activationSettled st k = settled := congrArg (s.settleEach (s.requested request)) hasked
    obtain ⟨hdests, hpoints⟩ := s.taken_activationSettled n st k
    rw [hsettled] at hdests hpoints
    refine ⟨hset.trans hasked, hnumber, hmatrix.trans hpoints, fun l hl => ?_, fun q hq l => ?_⟩
    · have hd := hdest l hl
      rw [State.dest, hdests] at hd
      exact hd
    · rw [← hasked]
      exact hdenied q hq l
  case left =>
    have hplace : place / 12 = st ∧ place % 12 = k := by omega
    refine ⟨fun l hl hapart => (hleaves hfrom hto).dest_apart hnodup hl hapart, fun l hl hmem => ?_⟩
    obtain ⟨hslots, hwaiters, hgrant, -⟩ := (hleaves hfrom hto).dest_left hnodup hl hmem
    rw [hplace.1, hplace.2] at hslots hwaiters hgrant
    exact ⟨hslots, hwaiters, hgrant⟩
  case counts =>
    have hcounts := v.resummed_counts q (t.key q)
    rw [← hkeys hq] at hcounts
    exact hcounts hactive
  case frame =>
    rw [hnotes]
    exact ⟨rfl, rfl, rfl, rfl, rfl, rfl, rfl, rfl, rfl⟩

end Sys2Proof.Machine
end
